-- ==== Sys2Proof/Word.lean ====
section
/-! DEFINITION. The word types of the model and their plainest arithmetic. -/

namespace Sys2Proof

/-- One byte. -/
abbrev Byte := BitVec 8

/-- One CSR word: every register is 32 bits wide (R569). -/
abbrev Word := BitVec 32

/-- One Kolzen register, instruction word or timebase value (R278, R280). -/
abbrev DWord := BitVec 64

/-- `[0, 1, …, n - 1]`, by structural recursion so that the kernel can evaluate it. -/
def upTo : Nat → List Nat
  | 0 => []
  | n + 1 => upTo n ++ [n]

/-- The truth value of a bit as a number. -/
def b2n (b : Bool) : Nat := if b then 1 else 0

end Sys2Proof
end

