-- ==== Sys2Proof/Syntax.lean ====
section
/-! DEFINITION. The commands of the part: one constructor of `Instr` for every row of the table of operations and events,
in the table's order, and the types of their operands. A command names the object it concerns (a group, a port, a slice …)
and what reaches the part from outside with it (a written word, a flit, a packet, a host's answer). -/

namespace Sys2Proof

/-- A reset pin (R75, 02_modes_and_boot.md). -/
inductive ResetPin | pwrok | sysRstN
  deriving DecidableEq, Repr

/-- A fox thread Ddd.Fff.Tt (R16, 00_scope.md). -/
structure Thr where
  den : Nat
  fox : Nat
  thread : Nat
  deriving DecidableEq, Repr

/-- A shared resource of a den (R285, 08_kolzen_isa.md). -/
inductive Res | table | ternary | meter | counter
  deriving DecidableEq, Repr

/-- Where a den memory error lies: an instruction index or a table-memory byte offset (R275, 07_forwarding_model.md). -/
inductive EccLoc | prog (i : Nat) | table (off : Nat)
  deriving DecidableEq, Repr

/-- A feed of a slot (15_slot_power.md). -/
inductive Feed | a | b
  deriving DecidableEq, Repr

/-- The scope of a containment domain (R457 DOM_SCOPE, 14_faults.md). -/
inductive Scope | packet | slice | port | group | host | slot | device
  deriving DecidableEq, Repr

/-- A fault message (R455, 14_faults.md): the class is the kind's own (R475). -/
structure FaultMsg where
  source : Nat
  kind : Nat
  slice : Option Nat
  addr : Option Nat
  detail : Nat
  deriving DecidableEq, Repr

/-- A flit as it arrives (R129, 04_woell_link.md): header, the 496 payload bytes and the CRC-64 it carries. -/
structure Flit where
  hdr : DWord
  payload : List Byte
  crc : DWord
  deriving DecidableEq, Repr

/-- Line-code violations and pseudo-errors that one logical lane recorded within a flit's symbols (R116, 03_lanes.md). -/
structure LaneErr where
  lane : Nat
  lcv : Nat
  pse : Nat
  deriving DecidableEq, Repr

/-- The end of a link's VERIFY time (R115, 03_lanes.md): the port, and the violations and pseudo-errors found in it that no record
carried. -/
structure VerifyTime where
  port : Nat
  errs : List LaneErr
  deriving DecidableEq, Repr

/-- The end of a lane's evaluation window (R117, 03_lanes.md): the lane, and the violations and pseudo-errors of the window that no flit
and no training record carried (R108, R116). -/
structure LaneWindow where
  lane : Nat
  lcv : Nat
  pse : Nat
  deriving DecidableEq, Repr

/-- The alignment of the spare lane in a swap (R110, R119): the port, and whether the lane was found inverted. -/
structure SpareLock where
  port : Nat
  inverted : Bool
  deriving DecidableEq, Repr

/-- A transmitter setting a PCI Express partner asks for (R95, 03_lanes.md). -/
inductive TxRequest
  | preset (p : Nat)
  | coeffs (pre2 pre1 main post1 : Byte)
  deriving DecidableEq, Repr

/-- What a PCI Express port's training reached (R93, 03_lanes.md): link up or down, rate code, width code, FLIT mode,
lanes reversed, mask of lanes found inverted, and the rate to which the partner asked for an equalisation bypass (R98). -/
structure PcieTrain where
  up : Bool
  rate : Nat
  width : Nat
  flit : Bool
  reversed : Bool
  inverted : Nat
  bypass : Option Nat
  deriving DecidableEq, Repr

/-- A lane margining command of the standard (R125, 03_lanes.md). -/
inductive MarginCmd
  | numTimingSteps | maxTimingOffset | numVoltageSteps | maxVoltageOffset
  | indTiming | indVoltage | sampleMethod
  | stepTiming (left : Bool) (steps : Nat)
  | stepVoltage (up : Bool) (steps : Nat)
  | clearErrors
  | normal
  deriving DecidableEq, Repr

/-- The kinds of PCI Express TLP that R238 (07_forwarding_model.md) tells apart; of ATS the translation request, the invalidation
request and the invalidation completion. -/
inductive TlpKind | mrd | mwr | mrdLk | cfgRd | cfgWr | cpl | msg | ioRd | ioWr | atomic | ats | atsInv | atsCpl | vdm
  deriving DecidableEq, Repr

/-- A TLP as the link layer hands it on (R238, R244, R245): what the group reads off its header, and its bytes as framed.
`len` is the requested length in bytes, or the length of the data that the TLP carries; of a completion `len` is its byte count
and `cplLen` the length of the data it carries. -/
structure Tlp where
  kind : TlpKind
  reqId : Nat
  tag : Nat
  len : Nat
  tc : Nat
  flit : Bool
  poisoned : Bool
  nullified : Bool
  ide : Bool
  digest : Bool
  pasid : Option Nat
  cplLen : Nat
  bytes : List Byte
  deriving DecidableEq, Repr

/-- A standard configuration register, named by what it holds: the spec gives no offsets for them (R178). -/
inductive CfgReg
  | vendorDevice | classRevision | command | busNumbers | memWindow | prefWindow
  | bar (n : Nat) | barHigh (n : Nat) | bridgeControl | linkControl | deviceControl2 | initiateFlr
  | slotControl | slotStatus | dpcControl | dpcStatus | aerUncorrectable | aerCorrectable
  | msixControl | resizeBar (n : Nat) | resizeCap (n : Nat) | laneError | headerType | prefBaseHigh | prefLimitHigh
  | acsCap | acsControl | ptmCap | ptmControl | l1ssCap | l1ssControl | deviceCap | deviceControl | deviceCap2 | deviceCap3
  | linkCap | linkCap2 | linkStatus | dpcCap | slotCap | doeCap | doeControl | doeStatus | doeWrite | doeRead
  | status | secondaryStatus | ioWindow | interruptLine | aerUncMask | aerUncSeverity | aerCorMask | deviceStatus | linkControl2
  | other (k : Nat)
  deriving DecidableEq, Repr

/-- A configuration request of a host (R176 to R178): type 1 or type 0, the bus, device and function it names, the register, the
value of a write, its requester, the request's bytes as framed, and whether it is poisoned or carries an IDE prefix or a digest. -/
structure CfgReq where
  ty1 : Bool
  bus : Nat
  dev : Nat
  fnc : Nat
  reg : CfgReg
  write : Bool
  value : Word
  reqId : Nat
  tag : Nat
  flit : Bool
  bytes : List Byte
  poisoned : Bool := false
  ide : Bool := false
  digest : Bool := false
  deriving DecidableEq, Repr

/-- An access to the DMF's BAR0 (R180): offset, byte count, and for a write the bytes with their enables. -/
structure BarAcc where
  write : Bool
  off : Nat
  size : Nat
  data : List (Option Byte)
  reqId : Nat
  tag : Nat
  deriving DecidableEq, Repr

/-- What a control processor does to the CSR space (R450, 13_access_control.md). -/
inductive AccKind | read | write | fetch
  deriving DecidableEq, Repr

/-- An access of a control processor: R433 (user), R438 (size), R440 (cacheable, ordered). -/
structure CpAcc where
  cp : Nat
  kind : AccKind
  addr : Nat
  size : Nat
  data : List Byte
  user : Bool
  cacheable : Bool
  ordered : Bool
  deriving DecidableEq, Repr

/-- How a host read ends (R183, R199): Successful Completion, an error status, or the completion timeout. -/
inductive CplStatus | sc | ur | rrs | ca | timeout
  deriving DecidableEq, Repr

/-- What triggers DPC (R197, 05_pcie_host_domains.md). -/
inductive DpcCause | linkError | errFatal | errNonfatal | software | containment
  deriving DecidableEq, Repr

/-- A fabric packet at the window engine (R376, 11_remote_memory.md): the 32 header bytes as one number, the payload
and the end-to-end CRC-32C it carries. -/
structure FabPkt where
  hdr : BitVec 256
  payload : List Byte
  crc : Word
  deriving DecidableEq, Repr

/-- How the flash ends an operation (R578, 20_management_registers.md). -/
inductive FlashRes | ok | failed | busyTooLong
  deriving DecidableEq, Repr

/-- What a read of host memory brings (R545, R578): its bytes or an error. -/
inductive HostBytes | ok (data : List Byte) | error
  deriving DecidableEq, Repr

/-- The JTAG accesses of the part (R600s, 22_electrical.md; R538, 17_security.md). -/
inductive JtagKind | idcode | bypass | boundaryScan | debugHalt (cp : Nat) | debugRead (addr : Nat)
  | debugWrite (addr : Nat) (v : Word)
  deriving DecidableEq, Repr

/-- A PLL that loses its lock (16_power_clocks.md). -/
inductive PllLoss | group (g : Nat) | core
  deriving DecidableEq, Repr

/-- The way an SPDM request comes in (R534, 17_security.md): the DOE of a domain's DMF, or MCTP over I3C. -/
inductive SpdmVia | doe (h : Nat) | mctp
  deriving DecidableEq, Repr

/-- What wakes the part from Night (R514, 16_power_clocks.md). -/
inductive WakeSrc | wakePin | i3cStart | presence (sc : Nat) | alarm
  deriving DecidableEq, Repr

/-- An aperture write (R402, 11_remote_memory.md): BAR 2 or 4, offset, traffic class, bytes with their enables, the requester. -/
structure ApWrite where
  bar : Nat
  off : Nat
  tc : Nat
  data : List (Option Byte)
  reqId : Nat := 0
  deriving DecidableEq, Repr

/-- An aperture read: BAR 2 or 4, offset, length (0 for a zero-length read), traffic class, and the requester's identity. -/
structure ApRead where
  bar : Nat
  off : Nat
  len : Nat
  tc : Nat
  reqId : Nat
  tag : Nat
  deriving DecidableEq, Repr

/-- The commands: the rows of spec/opcode_table.json in its order. Where a row has a written word `v`, `m` is the master
number of the path it came by (R432). -/
inductive Instr
  /-- REGISTER_WRITE (R34): A write to a register that has no row of its own takes effect whole within 1 µs, field by field under R10 and R11. -/
  | registerWrite (m : Nat) (addr : Nat) (v : Word)
  /-- CP_ACCESS (R450): A control processor load, store or fetch is checked by its guard and gates and either performed or raises a precise access fault. -/
  | cpAccess (a : CpAcc)
  /-- GUARD_FENCE (R454): A read of GRD_FENCE returns once every access already checked by a guard, rights filter or gate has retired. -/
  | guardFence (m : Nat)
  /-- GATE_LOCK (R444): Setting LOCK of a gate fixes its masks and PRIV until the next warm or cold reset. -/
  | gateLock (m : Nat) (k : Nat) (v : Word)
  /-- RESET_PIN_LOW (R611): PWROK or SYS_RST_N low for 5 µs causes a cold reset. -/
  | resetPinLow (pin : ResetPin) (ns : Nat)
  /-- COLD_RESET (R78): GLB_RESET.COLD with the key starts a cold reset, which wins when WARM is written too. -/
  | coldReset (m : Nat) (v : Word)
  /-- WARM_RESET (R77): GLB_RESET.WARM with the key starts a warm reset that takes every upstream link down and records PREV and CAUSE. -/
  | warmReset (m : Nat) (v : Word)
  /-- STRAP_SAMPLE (R60): 10 µs after t0 the strap balls are sampled into GLB_STRAP and the strap pulls are released. -/
  | strapSample (boot : Nat) (flash : Nat) (i3c : Nat)
  /-- BOOT_START (R61): After a reset the security core powers PD01 to PD03, runs its self-tests and JESD216 discovery, and starts reading the first image. -/
  | bootStart (testsPass : Bool) (flashAnswers : Bool)
  /-- IMAGE_HEADER_CHECK (R64): Once the header is read it is checked for codes 2, 9, 3 and 4, and a failure moves to the other image. -/
  | imageHeaderCheck (answers : Bool)
  /-- SEGMENT_CHECK (R64): Once a segment is read its contents are checked for code 3 and its CRC-32C for code 6, and it is staged in control memory. -/
  | segmentCheck (answers : Bool)
  /-- SIGNATURE_VERIFY (R523): After the last byte of the image both signatures are verified within 20 ms, and a failure gives code 5. -/
  | signatureVerify
  /-- SETTINGS_RECORD_APPLY (R72): The next settings record is checked and applied by read-modify-write, or its poll condition is checked. -/
  | settingsRecordApply
  /-- SETTINGS_DELAY_END (R72): The delay of a written settings record expires and the next record proceeds. -/
  | settingsDelayEnd
  /-- SETTINGS_POLL_TIMEOUT (R72): A POLL record whose condition is unmet after its delay fails the image with code 7 and a warm reset. -/
  | settingsPollTimeout
  /-- BOOT_COMPLETE (R61): After programs and tables are loaded the control processors and port groups are released and GLB_MODE.CUR takes the target mode. -/
  | bootComplete
  /-- BOOT_CONFIRM (R67): A write of GLB_BOOT_CONFIRM.CONFIRM confirms the active image and stops its timeout. -/
  | bootConfirm (m : Nat) (v : Word)
  /-- CONFIRM_TIMEOUT (R67): An unconfirmed image times out, gets code 8, and causes a warm reset with cause 5. -/
  | confirmTimeout
  /-- MODE_REQUEST (R55): A write of GLB_MODE.GO starts the transition to REQ or refuses it with a reason. -/
  | modeRequest (m : Nat) (v : Word)
  /-- MODE_TRANSITION_COMPLETE (R52): A mode transition finishes, sets CUR and STATE DONE, and posts a MODE event. -/
  | modeTransitionComplete
  /-- GROUP_RESET (R76): A write of a GLB_GRP_RESET bit resets the group, empties its queues and reloads its den. -/
  | groupReset (m : Nat) (v : Word)
  /-- GROUP_RESET_DONE (R76): A group reset completes within 5 ms, the bit clears and the group's links retrain. -/
  | groupResetDone (g : Nat)
  /-- PCIE_LINK_TRAIN (R93): A PCI Express port advances its standard LTSSM, including polarity and lane-reversal detection. -/
  | pcieLinkTrain (port : Nat) (t : PcieTrain)
  /-- PCIE_EQ_PHASE (R96): As requester in an equalisation phase the device asks once for the table preset and ends the phase. -/
  | pcieEqPhase (g : Nat) (n : Nat) (rate : Nat) (rejected : Bool)
  /-- PARTNER_PRESET_REQUEST (R95): A preset or coefficient request from the partner is applied to the transmitter. -/
  | partnerPresetRequest (g : Nat) (n : Nat) (tx : TxRequest)
  /-- LANE_LOCK (R114): A lane's clock recovery locks after transmission at a rate starts. -/
  | laneLock (g : Nat) (n : Nat)
  /-- LANE_ALIGNED (R108): After two commas in place a lane is aligned and its polarity fixed. -/
  | laneAligned (g : Nat) (n : Nat) (inverted : Bool)
  /-- LANE_ALIGN_LOSS (R108): After four consecutive blocks with a violation the lane reports loss of alignment. -/
  | laneAlignLoss (g : Nat) (n : Nat)
  /-- ALIGN_TIMEOUT (R114): A lane not aligned within ALIGN_TO is reported to the link layer. -/
  | alignTimeout (g : Nat) (n : Nat)
  /-- LANE_TRAINING_RECORD (R112): A lane training record is received and checked, and its fields drive bring-up or a partner retrain. -/
  | laneTrainingRecord (g : Nat) (p : Nat) (n : Nat) (bytes : List Byte)
  /-- PROPOSE (R113): The leading end proposes the next higher rate. -/
  | propose (g : Nat) (p : Nat)
  /-- SWITCH (R113): After SWITCH both ends enter electrical idle and load the new rate's entries. -/
  | switchRate (g : Nat) (p : Nat)
  /-- RATE_IDLE_END (R113): The electrical idle of a rate step ends and both ends resume in ALIGN at the new rate. -/
  | rateIdleEnd (g : Nat) (p : Nat)
  /-- VERIFY_END (R115): The VERIFY time ends, and the link steps again, sends DONE, or falls back after a failed step. -/
  | verifyEnd (g : Nat) (p : VerifyTime)
  /-- LANE_ERROR_WINDOW (R117): A lane's error evaluation window ends and its internal counts start afresh. -/
  | laneErrorWindow (g : Nat) (n : LaneWindow)
  /-- SPARE_CMD (R122): A write of SPARE_CMD.GO requests a swap of the named lane or is refused with CMD_REF. -/
  | spareCmd (m : Nat) (g : Nat) (v : Word)
  /-- SPARE_ALIGNED (R119): The receiver aligns LSgg against the replaced lane and the end sends SWAP_READY. -/
  | spareAligned (g : Nat) (p : SpareLock)
  /-- EYE_SCAN (R123): A write of EYE_CTL.GO starts an eye scan, or is refused outside Maintenance or while busy. -/
  | eyeScan (m : Nat) (g : Nat) (v : Word)
  /-- EYE_SCAN_DONE (R124): An eye scan finishes comparing its symbols, reports ERRS and sets DONE. -/
  | eyeScanDone (g : Nat) (errs : Nat)
  /-- MARGIN_COMMAND (R125): A lane margining command under the standard is served with the eye-scan sampler. -/
  | marginCommand (g : Nat) (n : Nat) (c : MarginCmd)
  /-- EQ_OVERRIDE (R126): A write of EQ_OVR0.EN = 1 in Maintenance loads OVR1 to OVR3 into the lane. -/
  | eqOverride (m : Nat) (g : Nat) (v : Word)
  /-- FLIT_TRANSMIT (R151): At each flit slot the transmitter sends a replay, CTL, REQ, RSP or IDLE flit by precedence and credit. -/
  | flitTransmit (g : Nat) (p : Nat)
  /-- FLIT_RECEIVE (R139): A flit is checked, accepted, counted as a duplicate or dropped, and its ACK, NAK, credits and link packets are processed. -/
  | flitReceive (g : Nat) (p : Nat) (f : Flit) (errs : List LaneErr)
  /-- REPLAY_TIMEOUT (R144): The replay timer expires and the transmitter replays from its oldest unacknowledged flit, or declares the link broken. -/
  | replayTimeout (g : Nat) (p : Nat)
  /-- CREDIT_TIMEOUT (R153): A class's credit timer reaches CRD_TO and the link is declared broken with cause 1. -/
  | creditTimeout (g : Nat) (p : Nat) (cls : Nat)
  /-- INIT_TIMEOUT (R154): INIT lasting 1 ms without completing leads to RETRAIN with cause 4. -/
  | initTimeout (g : Nat) (p : Nat)
  /-- RETRAIN_PORT_RESET_DONE (R156): The port reset of a retrain completes and the link enters TRAINING or FAILED. -/
  | retrainPortResetDone (g : Nat) (p : Nat)
  /-- SWAP_REQ (R159): On receiving SWAP_REQ an end enters SWAP and prepares LSgg. -/
  | swapReq (g : Nat) (p : Nat) (lane : Nat)
  /-- SWAP_READY (R159): On receiving SWAP_READY the leader sends SWAP_GO once it has both sent and received it. -/
  | swapReady (g : Nat) (p : Nat) (lane : Nat)
  /-- SWAP_GO (R159): On receiving SWAP_GO the next block becomes the swap block. -/
  | swapGo (g : Nat) (p : Nat) (lane : Nat)
  /-- SWAP_ABORT (R161): On receiving SWAP_ABORT LSgg is powered down and the link retrains. -/
  | swapAbort (g : Nat) (p : Nat) (lane : Nat) (reason : Nat)
  /-- RETRAIN_REQ (R165): On receiving RETRAIN_REQ the link retrains with cause 3, clearing EXCL for operand 2. -/
  | retrainReq (g : Nat) (p : Nat) (op : Nat)
  /-- SWAP_BLOCK_END (R159): At the comma ending the swap block the multiplexers switch to LSgg and the link returns to UP. -/
  | swapBlockEnd (g : Nat) (p : Nat)
  /-- SWAP_TIMEOUT (R161): SWAP_READY not both sent and received within 200 µs leads to SWAP_ABORT and a retrain. -/
  | swapTimeout (g : Nat) (p : Nat)
  /-- LINK_CMD_RETRAIN (R619): LINK_CMD RETRAIN retrains the link with cause 3, or is refused. -/
  | linkCmdRetrain (m : Nat) (g : Nat) (p : Nat)
  /-- LINK_CMD_RETRAIN_FULL (R619): LINK_CMD RETRAIN_FULL clears EXCL and retrains or brings up with every lane. -/
  | linkCmdRetrainFull (m : Nat) (g : Nat) (p : Nat)
  /-- LINK_CMD_DISABLE (R619): LINK_CMD DISABLE takes the link to DISABLED. -/
  | linkCmdDisable (m : Nat) (g : Nat) (p : Nat)
  /-- LINK_CMD_ENABLE (R619): LINK_CMD ENABLE moves a FAILED or DISABLED link to TRAINING. -/
  | linkCmdEnable (m : Nat) (g : Nat) (p : Nat)
  /-- HOST_DOMAIN_ENABLE (R170): A write of GLB_HD_CFG_hh.EN = 1 samples the domain's upstream port and BAR sizes, or is refused. -/
  | hostDomainEnable (m : Nat) (h : Nat) (v : Word)
  /-- HOST_DOMAIN_DISABLE (R171): A write of EN = 0 takes the domain's upstream link down, resets its DMF and releases the port. -/
  | hostDomainDisable (m : Nat) (h : Nat) (v : Word)
  /-- TLP_RECEIVE (R238): A TLP passing the link check is classified, written to the sett and its header queued for the den. -/
  | tlpReceive (port : Nat) (t : Tlp)
  /-- CONFIG_REQUEST (R176): A configuration request to a domain's virtual switch, DMF or forwarded VF is served or answered with UR. -/
  | configRequest (h : Nat) (c : CfgReq)
  /-- UPSTREAM_RESET (R179): Hot reset or link down on an upstream port resets the domain's dedicated ports, forwarded VFs, DMF and configuration space. -/
  | upstreamReset (h : Nat) (linkDown : Bool)
  /-- SECONDARY_BUS_RESET (R179): Secondary Bus Reset on a virtual downstream port hot-resets a dedicated port or FLRs the VFs behind a synthetic port. -/
  | secondaryBusReset (h : Nat) (vdev : Nat)
  /-- PORT_RESET (R168): PCIE_CMD PORT_RESET resets the port, which takes its role, HD and VDEV. -/
  | portReset (m : Nat) (g : Nat) (p : Nat)
  /-- PCIE_PORT_DISABLE (R172): PCIE_CMD DISABLE takes the PCI Express port's link down. -/
  | pciePortDisable (m : Nat) (g : Nat) (p : Nat)
  /-- PCIE_PORT_ENABLE (R172): PCIE_CMD ENABLE lets the PCI Express port's link train again. -/
  | pciePortEnable (m : Nat) (g : Nat) (p : Nat)
  /-- DMF_BAR_ACCESS (R181): A host access to a DMF BAR0 CSR or reserved offset is filtered by rights and served. -/
  | dmfBarAccess (h : Nat) (a : BarAcc)
  /-- TRACKED_TIMEOUT (R193): A tracked request's timer expires and the device synthesises a Completer Abort and frees the entry. -/
  | trackedTimeout (port : Nat) (tag : Nat)
  /-- DPC_TRIGGER (R197): DPC is triggered in a virtual downstream port and tracked requests receive synthesised completions. -/
  | dpcTrigger (port : Nat) (cause : DpcCause)
  /-- DPC_RELEASE (R198): Software clears DPC Trigger Status, and containment of the physical port ends once owner and guests have released it. -/
  | dpcRelease (h : Nat) (vdev : Nat)
  /-- DMF_BME_WRITE (R199): The host writes the DMF's Bus Master Enable, stopping new host accesses or flushing queued events and interrupts. -/
  | dmfBmeWrite (h : Nat) (on : Bool)
  /-- HOST_READ_COMPLETION (R199): A completion for a DMF host read arrives and is used or discarded by BME, FLR or timeout rules. -/
  | hostReadCompletion (h : Nat) (tag : Nat) (st : CplStatus) (data : List Byte)
  /-- DMF_FLR (R201): An FLR of the DMF stops doorbells and host access, resets the domain's slices and waits for outstanding reads. -/
  | dmfFlr (h : Nat)
  /-- FLR_COMPLETE (R201): The FLR's wait ends by completion or the 90 ms limit, and the DMF is restored. -/
  | flrComplete (h : Nat) (limit : Bool)
  /-- APERTURE_YIELD (R205): After YIELD_TO the lower of two mutually waiting aperture bridges withdraws its requests. -/
  | apertureYield (a : Nat) (b : Nat)
  /-- APERTURE_REISSUE (R205): The withdrawn requests are reissued in order once the other domain's requests are served. -/
  | apertureReissue (a : Nat) (b : Nat)
  /-- INGRESS_RESUME (R620): An ingress that stopped for lack of a cell resumes writing when a cell is freed. -/
  | ingressResume (port : Nat)
  /-- JOB_DISPATCH (R242): A free fox thread takes a header and starts the job at the selected entry vector. -/
  | jobDispatch (d : Nat)
  /-- DESCRIPTOR_RELEASE (R23): A finished decision descriptor is released to the crossbar in arrival order per port and traffic class. -/
  | descriptorRelease (port : Nat) (tc : Nat)
  /-- ADMISSION_RETRY (R221): A held PCI Express TLP is checked again when its queue's depth falls and enqueued once it passes. -/
  | admissionRetry (q : Nat)
  /-- EGRESS_SCHEDULE (R224): An egress port picks the next packet that can start by strict priority and deficit round robin. -/
  | egressSchedule (port : Nat)
  /-- CELL_READ (R213): The egress group reads a cell, checks its CRC-32C, re-reads it, and poisons the packet on a persistent mismatch. -/
  | cellRead (port : Nat) (fails : Nat)
  /-- CUT_THROUGH_WAIT_TIMEOUT (R229): A cut-through copy waiting more than 2 µs for a cell is ended under R215. -/
  | cutThroughWaitTimeout (port : Nat)
  /-- QUARTER_CONTROL (R212): A write of SETT_CFG.QTR_EN stops allocation in a quarter or powers it up. -/
  | quarterControl (m : Nat) (v : Word)
  /-- QUARTER_POWER_UP_DONE (R212): A re-enabled sett quarter is powered and QTR_ON is set. -/
  | quarterPowerUpDone (q : Nat)
  /-- JOB_WATCHDOG (R273): A job that has not ended within LIMIT cycles ends with exception WATCHDOG. -/
  | jobWatchdog (th : Thr)
  /-- NOP (R287): The NOP instruction does nothing. -/
  | kNop (th : Thr)
  /-- MOV (R287): MOV copies a register or immediate into D. -/
  | kMov (th : Thr)
  /-- MOVH (R288): MOVH writes IMM to bits 63:32 of D. -/
  | kMovh (th : Thr)
  /-- ADD (R289): ADD adds and sets flags. -/
  | kAdd (th : Thr)
  /-- SUB (R289): SUB subtracts and sets flags. -/
  | kSub (th : Thr)
  /-- AND (R289): AND computes a bitwise and and sets flags. -/
  | kAnd (th : Thr)
  /-- OR (R289): OR computes a bitwise or and sets flags. -/
  | kOr (th : Thr)
  /-- XOR (R289): XOR computes a bitwise exclusive or and sets flags. -/
  | kXor (th : Thr)
  /-- SHL (R288): SHL shifts left and sets flags. -/
  | kShl (th : Thr)
  /-- SHR (R288): SHR shifts right logically and sets flags. -/
  | kShr (th : Thr)
  /-- SAR (R288): SAR shifts right arithmetically and sets flags. -/
  | kSar (th : Thr)
  /-- CMP (R289): CMP subtracts, discards the result and sets flags. -/
  | kCmp (th : Thr)
  /-- TST (R289): TST ands, discards the result and sets flags. -/
  | kTst (th : Thr)
  /-- CRC (R302): CRC updates D with the CRC-32C of the 8 bytes of gA. -/
  | kCrc (th : Thr)
  /-- TIME (R288): TIME reads the timebase in ns into D. -/
  | kTime (th : Thr)
  /-- EXT (R294): EXT extracts a field from the header view into D. -/
  | kExt (th : Thr)
  /-- INS (R295): INS writes a field of gB into the header view. -/
  | kIns (th : Thr)
  /-- BCC (R290): Bcc branches to IMM when its condition holds. -/
  | kBcc (th : Thr)
  /-- LKD (R297): LKD performs a direct table lookup. -/
  | kLkd (th : Thr)
  /-- LKH (R256): LKH performs a two-bucket hash table lookup. -/
  | kLkh (th : Thr)
  /-- LKR (R300): LKR performs a binary-search range table lookup. -/
  | kLkr (th : Thr)
  /-- LKT (R257): LKT performs a ternary match lookup. -/
  | kLkt (th : Thr)
  /-- RESOURCE_SLOT_SERVE (R285): A waiting table, ternary, meter or counter request, or an LKR probe, is served in arrival order. -/
  | resourceSlotServe (d : Nat) (res : Res)
  /-- MTR (R305): MTR runs the two-rate three-colour meter and writes the colour. -/
  | kMtr (th : Thr)
  /-- CNT (R309): CNT posts a packet and byte count update to a counter. -/
  | kCnt (th : Thr)
  /-- COUNTER_UPDATE_APPLY (R310): A posted counter update leaves the posting queue and is applied exactly once. -/
  | counterUpdateApply (d : Nat)
  /-- SETD (R312): SETD writes one decision descriptor field. -/
  | kSetd (th : Thr)
  /-- PUSH (R313): PUSH appends a push word and increments PUSHN. -/
  | kPush (th : Thr)
  /-- SMPL (R314): SMPL records the sample tag and may set SAMPLE. -/
  | kSmpl (th : Thr)
  /-- END (R315): END checks the decision and places the descriptor in the release buffer. -/
  | kEnd (th : Thr)
  /-- ECC_REPAIR (R259): The table writer rewrites an entry or instruction with a double-bit error from the master or shadow. -/
  | eccRepair (d : Nat) (loc : EccLoc)
  /-- TABLE_ENTRY_WRITE (R260): A write of TBL_WR_CMD.GO queues an entry write or is refused when the queue is full. -/
  | tableEntryWrite (m : Nat) (v : Word)
  /-- TABLE_WRITER_STEP (R261): The table writer applies the next step of its head command to the master or one den. -/
  | tableWriterStep
  /-- TABLE_FENCE (R264): A read of TBL_FENCE returns once the writes before it stand in every den and the affected jobs have ended. -/
  | tableFence (m : Nat)
  /-- PROGRAM_LOAD (R266): A write of TBL_PLOAD_CMD.GO queues a program load or refuses it. -/
  | programLoad (m : Nat) (v : Word)
  /-- PROGRAM_SWITCH (R267): A write of TBL_PSWITCH.GO queues a flip of SEL in the named dens, one den after another. -/
  | programSwitch (m : Nat) (v : Word)
  /-- DEN_DRAINED (R267): The last job under the old vector set ends, the den reports DRAINED and the switch moves to the next den. -/
  | denDrained (d : Nat)
  /-- PROG_SEL_WRITE (R268): A direct write of PROG_CTL.SEL takes effect at the next dispatch and updates the writer's shadow. -/
  | progSelWrite (m : Nat) (d : Nat) (v : Word)
  /-- METER_COMMIT (R307): A write of MTR_IDX.GO commits the staged rates, bursts and UNL to a meter and fills its buckets. -/
  | meterCommit (m : Nat) (d : Nat) (v : Word)
  /-- METER_READ (R322): A write of MTR_IDX.READ copies a meter's configuration into the staging registers. -/
  | meterRead (m : Nat) (d : Nat) (v : Word)
  /-- COUNTER_SNAP (R311): A write of CTR_IDX.SNAP copies a counter into the snapshot registers, clearing it when CLR is set. -/
  | counterSnap (m : Nat) (d : Nat) (v : Word)
  /-- HEARTBEAT_PERIOD (R358): Each HB_PERIOD the manager sends heartbeats and counts missed responses, marking devices lost. -/
  | heartbeatPeriod
  /-- HEARTBEAT (R359): A worker receives a heartbeat, accepts or rejects it, answers and runs the time exchange. -/
  | heartbeat (port : Nat) (msg : List Byte)
  /-- HEARTBEAT_RESPONSE (R358): The manager receives a heartbeat response and updates the directory record. -/
  | heartbeatResponse (msg : List Byte)
  /-- HEARTBEAT_TICK (R359): At each 1 ms tick a worker counts a heartbeat miss and declares manager loss at HB_MISS. -/
  | heartbeatTick
  /-- MANAGER_LISTEN_END (R363): A new manager that heard no manager in its listen time starts with epoch 1. -/
  | managerListenEnd
  /-- PROBE_REQ (R352): A worker sends PROBE out of the named port and waits for the neighbour. -/
  | probeReq (msg : List Byte)
  /-- PROBE (R353): A device receiving PROBE answers with its own state. -/
  | probe (port : Nat) (msg : List Byte)
  /-- PROBE_RESPONSE (R352): A worker receives the neighbour's PROBE response and returns it to the manager. -/
  | probeResponse (port : Nat) (msg : List Byte)
  /-- PROBE_TIMEOUT (R352): No PROBE response within 100 µs makes the worker answer status 4. -/
  | probeTimeout
  /-- ASSIGN (R353): A device without an id takes the assigned id and manager settings and retrains its unranked links. -/
  | assign (port : Nat) (msg : List Byte)
  /-- CTL_CSR_READ (R351): A CSR_READ control message from the current manager reads words on the fabric CTL path. -/
  | ctlCsrRead (msg : List Byte)
  /-- CTL_CSR_WRITE (R351): A CSR_WRITE control message from the current manager writes words on the fabric CTL path. -/
  | ctlCsrWrite (msg : List Byte)
  /-- TABLE_WRITE (R351): A TABLE_WRITE control message becomes one table writer command, answered after the fence if requested. -/
  | tableWrite (msg : List Byte)
  /-- EVENT (R366): The manager's unit acknowledges an EVENT and delivers, holds or drops it as a duplicate by EVSEQ. -/
  | fabEvent (msg : List Byte)
  /-- EVENT_RESPONSE (R365): A worker receives an acknowledgement and releases the acknowledged event. -/
  | eventResponse (msg : List Byte)
  /-- EVENT_RESEND_TIMEOUT (R365): After EV_RTO the worker resends its oldest unacknowledged event, and stops after 8 resends. -/
  | eventResendTimeout
  /-- TAKEOVER (R362): A worker accepts or refuses a TAKEOVER and adopts the new manager. -/
  | takeover (msg : List Byte)
  /-- WINDOW_OPEN (R372): WEN_WIN_CMD OPEN opens a CLOSED window and advances GEN. -/
  | windowOpen (m : Nat) (v : Word)
  /-- WINDOW_REVOKE (R396): WEN_WIN_CMD REVOKE sets REVOKING and places a drain marker, or is refused. -/
  | windowRevoke (m : Nat) (v : Word)
  /-- REVOKE_SLOT_START (R397): A slice-reset revoke that waited for one of the 256 places starts. -/
  | revokeSlotStart
  /-- REVOKE_DRAIN_DONE (R396): The drain marker passes, the window becomes CLOSED and a REVOKE record is written. -/
  | revokeDrainDone (w : Nat)
  /-- WINDOW_FENCE (R399): A read of WEN_FENCE returns once every access checked before it has retired. -/
  | windowFence (m : Nat)
  /-- SQ_DOORBELL (R424): A send-queue doorbell updates PI, or is discarded and counted. -/
  | sqDoorbell (h : Nat) (page : Nat) (v : Word)
  /-- CQ_DOORBELL (R424): A completion-queue doorbell updates CI and frees places for held records. -/
  | cqDoorbell (h : Nat) (page : Nat) (v : Word)
  /-- WQE_FETCH (R381): The engine fetches an element, checks it and takes a message slot, or completes it with an error. -/
  | wqeFetch (sq : Nat) (bytes : List Byte)
  /-- SHAPER_RELEASE (R429): A packet waiting at the slice's shaper starts once its tokens are at or above 0. -/
  | shaperRelease (sl : Nat)
  /-- REQUEST_PACKET_SEND (R386): The source sends a request packet of a message on its path. -/
  | requestPacketSend (slot : Nat)
  /-- WRITE (R390): The target checks a WRITE packet, allocates or joins an entry and writes its data. -/
  | rmWrite (pkt : FabPkt)
  /-- WRITE_NOTIFY (R391): The target handles a WRITE_NOTIFY packet and on completion posts a NOTIFY record. -/
  | rmWriteNotify (pkt : FabPkt)
  /-- READ (R395): The target checks a READ packet and reads the requested chunk from host memory. -/
  | rmRead (pkt : FabPkt)
  /-- CANCEL (R401): The target answers CANCEL with DONE, NAK ABORTED or NAK BUSY and ends the entry. -/
  | rmCancel (pkt : FabPkt)
  /-- HOST_WRITE_ISSUED (R390): Once a packet's host writes are issued the target answers ACK and completes the message if all data is in. -/
  | hostWriteIssued (id : Nat)
  /-- ACK (R387): The source receives an ACK and marks the packet answered, completing the message on DONE. -/
  | rmAck (pkt : FabPkt)
  /-- NAK (R387): The source receives a NAK and ends the message or schedules a back-off retry. -/
  | rmNak (pkt : FabPkt)
  /-- READ_DATA (R387): The source receives a READ_DATA chunk, checks MCRC and writes it to local memory. -/
  | rmReadData (pkt : FabPkt)
  /-- RETRANSMIT_TIMEOUT (R388): A packet unanswered for RTO is resent on the next path, or ends the message with RETRY_EXCEEDED. -/
  | retransmitTimeout (slot : Nat) (k : Nat)
  /-- BACKOFF_EXPIRY (R387): The back-off after BUSY or POLICED ends and the packet is sent again. -/
  | backoffExpiry (slot : Nat) (k : Nat)
  /-- PATH_HOLD_EXPIRY (R388): An excluded path is restored to its destination after PATH_HOLD. -/
  | pathHoldExpiry (dst : Nat) (path : Nat)
  /-- CQ_RECORD_WRITE (R385): A completion, NOTIFY or REVOKE record is written to its CQ when it has a free place. -/
  | cqRecordWrite (cq : Nat)
  /-- RETAIN_EXPIRY (R392): A DONE or ENDED inbound entry is released after RETAIN. -/
  | retainExpiry (src : Nat) (msgId : Nat)
  /-- INBOUND_IDLE_TIMEOUT (R394): An inbound entry without packets for INB_IDLE is released and counted. -/
  | inboundIdleTimeout (src : Nat) (msgId : Nat)
  /-- MESSAGE_ABORT (R400): A write of WEN_ABORT.GO finds the message and sends CANCEL, or reports NOTHING_TO_ABORT. -/
  | messageAbort (m : Nat) (v : Word)
  /-- CONTEXT_COMMIT (R407): WEN_CTX_SEL.GO commits staged SQ, CQ or aperture context data, or refuses it. -/
  | contextCommit (m : Nat) (v : Word)
  /-- CONTEXT_READ (R407): WEN_CTX_SEL.READ copies a context record into the staging registers. -/
  | contextRead (m : Nat) (v : Word)
  /-- APERTURE_WRITE (R403): A host write to an aperture range becomes WRITE messages. -/
  | apertureWrite (h : Nat) (a : ApWrite)
  /-- APERTURE_READ (R403): A host read to an aperture range becomes a READ message, is answered from prefetch, or waits for acknowledged writes. -/
  | apertureRead (h : Nat) (a : ApRead)
  /-- APERTURE_READ_RELEASE (R405): A held read in an acknowledged range is issued, or fails with Completer Abort, once earlier writes have ended. -/
  | apertureReadRelease (h : Nat)
  /-- PREFETCH_EXPIRY (R406): A prefetched chunk unused for PF_AGE is discarded and counted. -/
  | prefetchExpiry (h : Nat) (range : Nat) (chunk : Nat)
  /-- SLICE_CREATE (R411): SLC_s_CMD CREATE moves a FREE slice to ACTIVE with its quotas. -/
  | sliceCreate (m : Nat) (sl : Nat)
  /-- SLICE_QUIESCE (R413): QUIESCE moves an ACTIVE slice to QUIESCING. -/
  | sliceQuiesce (m : Nat) (sl : Nat)
  /-- SLICE_RESUME (R411): RESUME moves a QUIESCED slice to ACTIVE. -/
  | sliceResume (m : Nat) (sl : Nat)
  /-- SLICE_DISABLE (R411): DISABLE moves a QUIESCED slice to DISABLED, or a forced DISABLE sends the slice through STOPPING. -/
  | sliceDisable (m : Nat) (sl : Nat) (force : Bool)
  /-- SLICE_RESET (R411): RESET sends the slice to RESETTING, through STOPPING when forced. -/
  | sliceReset (m : Nat) (sl : Nat) (force : Bool)
  /-- SLICE_REASSIGN (R417): REASSIGN resets the slice and loads its new identity. -/
  | sliceReassign (m : Nat) (sl : Nat)
  /-- SLICE_RESIZE (R422): RESIZE applies the three quota registers. -/
  | sliceResize (m : Nat) (sl : Nat)
  /-- SLICE_DESTROY (R417): DESTROY resets the slice and returns it to FREE. -/
  | sliceDestroy (m : Nat) (sl : Nat)
  /-- SLICE_QUIESCED (R413): A QUIESCING slice enters QUIESCED once nothing is left in flight. -/
  | sliceQuiesced (sl : Nat)
  /-- SLICE_STOPPING_DONE (R416): STOPPING completes once records and host reads are done, and the slice enters DISABLED or RESETTING. -/
  | sliceStoppingDone (sl : Nat)
  /-- SLICE_RESET_DONE (R417): RESETTING completes once its revokes are done, and the slice enters QUIESCED, FREE or DISABLED. -/
  | sliceResetDone (sl : Nat)
  /-- IRQ_WRITE (R425): A fired interrupt entry issues its posted write after the record's write, merging pending triggers. -/
  | irqWrite (sl : Nat) (i : Nat)
  /-- IRQ_UNMASK (R426): Clearing MASK with PEND set sends one interrupt write and clears PEND. -/
  | irqUnmask (m : Nat) (sl : Nat) (i : Nat) (v : Word)
  /-- SHAPER_COMMIT (R431): QOS_SHP_CFG.GO commits the shaper's rate, burst, overhead and EN and sets its tokens. -/
  | shaperCommit (m : Nat) (sl : Nat) (v : Word)
  /-- POLICER_COMMIT (R431): QOS_POL_CFG.GO commits the policer's rate, burst, overhead and EN and sets its tokens. -/
  | policerCommit (m : Nat) (sl : Nat) (v : Word)
  /-- FAULT_MESSAGE (R457): The owl receives a fault message, writes a record and starts a timer, recovery, escalation or the safe state. -/
  | faultMessage (f : FaultMsg)
  /-- CLASS_C_CONTAINMENT (R460): The detecting block starts the containment action of the fault's domain within 500 ns. -/
  | classCContainment (f : FaultMsg)
  /-- FAULT_TIMER_EXPIRY (R463): An unacknowledged class S timer expires, and the owl writes ESCALATE and contains the parent domain. -/
  | faultTimerExpiry (seq : Nat)
  /-- FAULT_ACK (R462): A write of FLT_ACK stops the named timer or counts ACK_BAD. -/
  | faultAck (m : Nat) (v : Word)
  /-- QUIET_PERIOD_END (R467): A domain's quiet period ends, RCNT advances, and the domain is released or LATCHED. -/
  | quietPeriodEnd (sp : Scope) (idx : Nat)
  /-- DOMAIN_CLEAR (R467): FLT_DOM_SEL.CLEAR releases a LATCHED domain and zeroes its RCNT. -/
  | domainClear (m : Nat) (v : Word)
  /-- OWL_PARITY (R469): Owl parity error forces the safe state within 1 µs. -/
  | owlParity (off : Nat) (inRing : Bool)
  /-- FW_SAFE (R470): A write of FLT_SAFE.GO with the key enters the safe state with cause 5. -/
  | fwSafe (m : Nat) (v : Word)
  /-- SLOT_POWER_CONTROL_WRITE (R481): A host write of Power Controller Control requests slot power on or off. -/
  | slotPowerControlWrite (sc : Nat) (off : Bool)
  /-- SLOT_ON (R481): SLOT_CMD ON requests slot power-on. -/
  | slotOn (m : Nat) (sc : Nat)
  /-- SLOT_OFF (R481): SLOT_CMD OFF requests slot power-off. -/
  | slotOff (m : Nat) (sc : Nat)
  /-- PRESENCE_OCCUPIED (R494): PRSNT_N low for 20 ms makes presence occupied, reports the change and may request power-on. -/
  | presenceOccupied (sc : Nat)
  /-- PRESENCE_EMPTY (R495): PRSNT_N high on 4 ticks is a removal that turns the slot off and takes the link down. -/
  | presenceEmpty (sc : Nat)
  /-- SLOT_RAMP_START (R482): A held power-on proceeds to RAMP once every condition of R482 holds. -/
  | slotRampStart (sc : Nat)
  /-- SLOT_PG_LEVEL (R483): VSL reaches PG_TH in RAMP, and the slot enters QUAL with the gate fully on. -/
  | slotPgLevel (sc : Nat) (vsl : Nat)
  /-- SLOT_PG_QUALIFIED (R490): PG_QUAL ticks pass with no slow-trip timer running and the slot enters ON. -/
  | slotPgQualified (sc : Nat) (vsl : Nat)
  /-- PERST_RELEASE (R493): PERST_N is released PERST_DLY after entry to ON. -/
  | perstRelease (sc : Nat)
  /-- FEED_GOOD (R485): A feed within its band for FEED_QUAL becomes good. -/
  | feedGood (sc : Nat) (f : Feed) (volt : Nat)
  /-- FEED_LOST (R485): A feed out of band on 2 ticks is lost, starting a switch-over or a drain. -/
  | feedLost (sc : Nat) (f : Feed) (volt : Nat)
  /-- SWITCH_BBM_END (R487): The outgoing feed's shunt falls below 0.5 mV after BBM, and the incoming gate turns on. -/
  | switchBbmEnd (sc : Nat) (shunt : Nat)
  /-- SWITCH_COMPLETE (R487): VSL reaches PG_TH on the new feed and the slot returns to ON. -/
  | switchComplete (sc : Nat) (vsl : Nat)
  /-- SWITCH_TIMEOUT (R491): VSL not at PG_TH 100 µs after the incoming gate turned on is a PG failure with cause 6. -/
  | switchTimeout (sc : Nat) (vsl : Nat)
  /-- PWRBRK_RELEASE (R487): PWRBRK_N is released PWRBRK_HOLD after a completed switch-over. -/
  | pwrbrkRelease (sc : Nat)
  /-- FAST_TRIP (R488): A shunt crossing FAST_TH discharges the gate within 1 µs and trips the slot. -/
  | fastTrip (sc : Nat) (f : Feed)
  /-- SLOW_TRIP_TIMER_START (R489): A shunt reading above SLOW_TH starts the feed's slow-trip timer. -/
  | slowTripTimerStart (sc : Nat) (f : Feed) (shunt : Nat)
  /-- SLOW_TRIP_TIMER_STOP (R489): A shunt reading at or below SLOW_TH ends the slow-trip timer without a trip. -/
  | slowTripTimerStop (sc : Nat) (f : Feed) (shunt : Nat)
  /-- SLOW_TRIP (R489): The slow-trip timer reaches SLOW_T and the feed trips. -/
  | slowTrip (sc : Nat) (f : Feed)
  /-- RAMP_TIMEOUT (R491): RAMP lasting longer than SS_TO is a PG failure with cause 3. -/
  | rampTimeout (sc : Nat)
  /-- PG_LOST (R491): VSL below PG_TH on 4 ticks in ON is a PG failure with cause 4. -/
  | pgLost (sc : Nat) (vsl : Nat)
  /-- TURN_OFF_WAIT_END (R484): 100 µs after PERST_N in a requested turn-off, PWRBRK_N is asserted and the gates turn off. -/
  | turnOffWaitEnd (sc : Nat)
  /-- DRAIN_END (R483): VSL falls below OFF_TH in DRAIN and the slot enters OFF. -/
  | drainEnd (sc : Nat) (vsl : Nat)
  /-- DRAIN_TIMEOUT (R483): DRAIN ends after 500 ms and is counted in DRAIN_TO. -/
  | drainTimeout (sc : Nat)
  /-- POWER_DOMAIN_CONTROL (R504): A write of PWR_PD_CTL switches domains off one by one, or refuses and sets PD_REF. -/
  | powerDomainControl (m : Nat) (v : Word)
  /-- DOMAIN_POWER_UP_DONE (R505): A domain finishes powering up with its fields at warm reset values. -/
  | domainPowerUpDone (k : Nat)
  /-- DUSK_ENTRY (R507): An island idle for IDLE gates its clock. -/
  | duskEntry (ci : Nat)
  /-- ISLAND_WAKE (R508): An island in Dusk finishes waking and serves the waking event. -/
  | islandWake (ci : Nat)
  /-- PLL_LOCK_LOSS (R511): A group PLL, the core PLL or REFCLK_C loses lock and a class C fault is raised. -/
  | pllLockLoss (l : PllLoss)
  /-- SUPPLY_OUT_OF_RANGE (R600): A supply monitor finds its rail out of range and raises PD_FAIL. -/
  | supplyOutOfRange (pd : Nat)
  /-- TEMP_THRESHOLD (R616): A junction sensor passes 105 °C or 115 °C, and TEMP_HI or TEMP_CRIT is raised. -/
  | tempThreshold (sensor : Nat) (degC : Nat)
  /-- NIGHT_IDLE_TIMEOUT (R512): The Night idle timer expires, the entry conditions are checked, and entry starts or is refused. -/
  | nightIdleTimeout
  /-- NIGHT_GO (R512): A write of PWR_NIGHT_CFG.GO checks the conditions and starts Night entry or refuses it. -/
  | nightGo (m : Nat) (v : Word)
  /-- NIGHT_DRAIN_END (R513): The sett empties, or 1 ms passes and held packets are discarded, and the digests start. -/
  | nightDrainEnd (limit : Bool)
  /-- NIGHT_DIGEST_DONE (R513): The retained-bank digests are stored, the pads latched and the domains switched off. -/
  | nightDigestDone
  /-- NIGHT_WAKE (R514): WAKE_IN_N, an I3C START or a presence change wakes the device from Night by a warm reset. -/
  | nightWake (src : WakeSrc)
  /-- NIGHT_ALARM_EXPIRY (R514): PWR_NIGHT_ALARM expires and the device wakes. -/
  | nightAlarmExpiry
  /-- PAD_HOLD_RELEASE (R518): A write of PWR_PAD_HOLD_RELEASE releases pad groups whose domains are on. -/
  | padHoldRelease (m : Nat) (v : Word)
  /-- GET_RANDOM (R541): The mailbox command GET_RANDOM returns TRNG bytes. -/
  | getRandom (m : Nat)
  /-- PROVISION_KEY (R530): PROVISION_KEY programs an unprogrammed key slot in Recovery from MCTP. -/
  | provisionKey (m : Nat)
  /-- LOCK_PROV (R530): LOCK_PROV sets PROV_LOCK. -/
  | lockProv (m : Nat)
  /-- REVOKE_KEY (R531): REVOKE_KEY verifies a purpose-3 block and revokes a slot. -/
  | revokeKey (m : Nat)
  /-- ADVANCE_FLOOR (R532): ADVANCE_FLOOR programs rollback floor bits up to v. -/
  | advanceFloor (m : Nat)
  /-- DEBUG_CHALLENGE (R538): DEBUG_CHALLENGE returns the UID and a fresh nonce. -/
  | debugChallenge (m : Nat)
  /-- DEBUG_UNLOCK (R538): DEBUG_UNLOCK verifies the statement and grants debug permissions. -/
  | debugUnlock (m : Nat)
  /-- DEBUG_NEVER (R539): DEBUG_NEVER permanently refuses every later unlock. -/
  | debugNever (m : Nat)
  /-- CERT_WRITE (R533): CERT_WRITE writes the certificate store. -/
  | certWrite (m : Nat)
  /-- MAILBOX_COMMAND_DONE (R540): A mailbox command finishes, writing its output, status and OUT_LEN and clearing BUSY. -/
  | mailboxCommandDone
  /-- TRNG_HEALTH_FAIL (R522): A continuous TRNG health test fails and SEC_TAMPER leads to the safe state. -/
  | trngHealthFail
  /-- GET_CERTIFICATE (R534): An SPDM GET_CERTIFICATE request is answered from the certificate store. -/
  | getCertificate (req : SpdmVia) (certSlot : Nat) (off : Nat) (len : Nat)
  /-- CHALLENGE (R535): An SPDM CHALLENGE is answered with an RSA-signed CHALLENGE_AUTH and starts the SLH-DSA signature. -/
  | challenge (req : SpdmVia) (certSlot : Nat) (msgToSign : List Byte)
  /-- GET_MEASUREMENTS (R536): An SPDM GET_MEASUREMENTS request returns the measurement blocks, signed when asked. -/
  | getMeasurements (req : SpdmVia) (signed : Bool) (msgToSign : List Byte)
  /-- KEY_EXCHANGE (R534): An SPDM KEY_EXCHANGE opens a session or is refused at the session limit. -/
  | keyExchange (req : SpdmVia) (certSlot : Nat) (msgToSign : List Byte)
  /-- VENDOR_DEFINED_REQUEST (R535): An SPDM vendor-defined request returns the pending SLH-DSA signature or ResponseNotReady. -/
  | vendorDefinedRequest (req : SpdmVia) (cmd : Nat)
  /-- SLH_SIGNATURE_READY (R535): The SLH-DSA signature over the last signed response is ready. -/
  | slhSignatureReady
  /-- CHECK_JOB_START (R543): CHK_CMD START samples a job slot and queues it, or is refused. -/
  | checkJobStart (m : Nat) (v : Word)
  /-- CHECK_JOB_ABORT (R547): CHK_CMD ABORT ends an undecided job as ABORTED or reports NOTHING_TO_ABORT. -/
  | checkJobAbort (m : Nat) (v : Word)
  /-- CHECK_JOB_RUN (R544): The next queued check job starts reading its space. -/
  | checkJobRun
  /-- CHECK_JOB_END (R545): A check job ends with one result, writes RES, sets DONE and may raise CHK_MISMATCH. -/
  | checkJobEnd
  /-- RECORD_CHECK (R549): A watched record falls due, is read and its CHECK, LEN and ALIVE are checked. -/
  | recordCheck (r : Nat) (data : HostBytes)
  /-- RECORD_RECHECK (R549): A record read that failed is repeated 1 µs later, and a second failure is reported. -/
  | recordRecheck (r : Nat) (data : HostBytes)
  /-- COUNTER_SELECT (R554): A write of TEL_CTR_b_i_SEL clears the counter and starts counting the new selection. -/
  | counterSelect (m : Nat) (b : Nat) (i : Nat) (v : Word)
  /-- SNAPSHOT_SET (R556): At each INTERVAL the reader reads every enabled counter into a set in ring 0, or skips it when the ring is full. -/
  | snapshotSet
  /-- SPOOR_RING_WRITE (R563): A queued spoor record is written to ring 1 when it has room. -/
  | spoorRingWrite
  /-- SAMPLE_RING_WRITE (R564): A queued mirror or trap record is written to ring 2 or 3 when it has room. -/
  | sampleRingWrite (ring : Nat)
  /-- RING_ENABLE (R572): Setting MGT_RING_CTL.EN samples the ring bases and sizes and zeroes the indices. -/
  | ringEnable (m : Nat) (h : Nat) (v : Word)
  /-- RING_DISABLE (R572): Clearing EN discards the running command's response and zeroes the indices. -/
  | ringDisable (m : Nat) (h : Nat) (v : Word)
  /-- COMMAND_DOORBELL (R573): A write of MGT_CMD_IDX.PI is accepted or discarded with IDX_ERR. -/
  | commandDoorbell (m : Nat) (h : Nat) (v : Word)
  /-- COMMAND_FETCH (R574): The channel engine fetches the next command once the response ring has room and the previous response is written. -/
  | commandFetch (h : Nat) (entry : HostBytes)
  /-- CMD_NOP (R577): The NOP command completes with OK. -/
  | cmdNop (path : Nat)
  /-- GET_INFO (R577): GET_INFO returns part, stepping, mode, image, path, id, version and UID. -/
  | getInfo (path : Nat)
  /-- CSR_READ (R579): The CSR_READ command reads words on the issuing path until the first refusal. -/
  | csrReadCmd (path : Nat)
  /-- CSR_WRITE (R579): The CSR_WRITE command writes words on the issuing path until the first refusal. -/
  | csrWriteCmd (path : Nat)
  /-- FLASH_INFO (R577): FLASH_INFO returns the flash's density, chip selects, read mode and erase size. -/
  | flashInfo (path : Nat)
  /-- FLASH_READ (R580): FLASH_READ reads flash into the buffer, or is refused. -/
  | flashRead (path : Nat)
  /-- FLASH_WRITE (R580): FLASH_WRITE programs flash pages from the buffer, or is refused. -/
  | flashWrite (path : Nat) (data : HostBytes)
  /-- FLASH_ERASE (R580): FLASH_ERASE erases flash blocks, or is refused. -/
  | flashErase (path : Nat)
  /-- FLASH_OP_DONE (R580): A flash operation finishes or fails, and its response is written. -/
  | flashOpDone (res : FlashRes)
  /-- RESET (R581): The RESET command is checked as a GLB_RESET write and starts the reset after its response. -/
  | resetCmd (path : Nat)
  /-- FW_COMMAND (R582): A firmware-defined command is placed in the firmware queue and CP0 is interrupted. -/
  | fwCommand (path : Nat)
  /-- FW_POST_RESPONSE (R582): MGT_FW_POST with KIND 0 answers the matching outstanding command, or counts FW_LATE. -/
  | fwPostResponse (m : Nat) (v : Word)
  /-- FW_POST_EVENT (R583): MGT_FW_POST with KIND 1 queues an event for a domain, or sets POST_ERR. -/
  | fwPostEvent (m : Nat) (v : Word)
  /-- FW_TIMEOUT (R582): No matching post within TO answers the command with FW_TIMEOUT. -/
  | fwTimeout (path : Nat)
  /-- EVENT_RING_WRITE (R584): The oldest queued event is written to the event ring when EN, BME and room allow. -/
  | eventRingWrite (h : Nat)
  /-- MCTP_COMMAND (R588): A vendor-defined MCTP message carries one command on path 16, or is answered BUSY. -/
  | mctpCommand (entry : List Byte)
  /-- I3C_ADDRESS_ASSIGN (R587): ENTDAA or SETDASA assigns the device's I3C dynamic address. -/
  | i3cAddressAssign (addr : Nat)
  /-- SET_ENDPOINT_ID (R587): The MCTP Set Endpoint ID control message sets the endpoint ID. -/
  | setEndpointId (eid : Nat)
  /-- PWROK_AND_SYS_RST_N_HIGH (R610): PWROK and SYS_RST_N are both high, which is t0, ending the cold reset and starting the strap timer and Boot. -/
  | pwrokAndSysRstNHigh
  /-- DMF_COMPLETION_TIMEOUT (R183): A host read issued by a DMF reaches the completion timeout from Device Control 2 and is ended with an error. -/
  | dmfCompletionTimeout (h : Nat) (tag : Nat)
  /-- FLOW_CONTROL_UPDATE (R225): A PCI Express partner grants flow-control credit, letting a waiting head packet start or a held non-posted request proceed. -/
  | flowControlUpdate (port : Nat) (cls : Nat) (hdrCr : Nat) (dataCr : Nat)
  /-- INJECTED_PACKET (R238): The control processors inject a packet of class 24 through the control port into the crossbar and a den. -/
  | injectedPacket (den : Nat) (bytes : List Byte)
  /-- UNKNOWN_CONTROL_OPCODE (R350): A control message request with an opcode the fabric control unit does not know is answered with status 1. -/
  | unknownControlOpcode (port : Nat) (msg : List Byte)
  /-- JTAG_ACCESS (R537): A JTAG access is performed as boundary scan or as a granted debug access, or is refused while locked. -/
  | jtagAccess (k : JtagKind)
  /-- END_SESSION (R534): An SPDM session is ended by the requester and frees one of the four session places. -/
  | endSession (id : Nat)
  deriving DecidableEq, Repr

end Sys2Proof
end

