-- ==== Sys2Proof/Decode.lean ====
section
/-! DEFINITION. The command a word spells. The spec's table of commands gives no row any bits, so no word spells one. -/

namespace Sys2Proof

/-- The command that a word spells by the bits of the table: none, for the table gives no bits. -/
def decodeTableWord (_nbits _w : Nat) : Option Instr := none

end Sys2Proof
end

