-- ==== Sys2Proof/Config.lean ====
section
/-! DEFINITION. What the spec leaves open, as constants without a body: nothing in Lean can evaluate them or prove a value
of them. `free` values are applied to the counter `State.free`, which every use advances; uninterpreted functions stand for
the part's signing, whose private keys no one can read. -/

namespace Sys2Proof.Config

/-- A free number: what the spec leaves open at its `n`-th use (notes/assumptions/2.md). -/
opaque freeNat : Nat → Nat

/-- The row of a sett bank that its `i`-th allocation slot stands for (R209 gives the bank, no rule gives the row). -/
opaque cellRow : Nat → Nat → Nat

/-- The PCI-SIG vendor ID of Deczia (R176 names it and gives no number). -/
opaque vendorId : BitVec 16

/-- The identity RSA-3072 private key in CRT form, 1,152 bytes (R528): made by the security core at test, and no path returns it. -/
opaque identityRsa : List Byte

/-- The identity SLH-DSA-SHA2-192s private key, 96 bytes (R528). -/
opaque identitySlh : List Byte

/-- The RSASSA-PSS signature of a message under a private key; its salt and the key's layout are not stated. -/
opaque rsaSign : List Byte → List Byte → List Byte

/-- The SLH-DSA signature of a message under a private key. -/
opaque slhSign : List Byte → List Byte → List Byte

/-- The device UID (R528): written by Deczia at test, no value given. -/
opaque deviceUid : BitVec 64

/-- The factory segment in ROM (R72): settings records the spec does not list. -/
opaque factorySegment : List Byte

/-- The version of the boot ROM (R536), which no rule gives. -/
opaque romVersion : List Byte

/-- The purpose bits that a byte of PROVISION_KEY's input names, IMG and DBG (R530, R541): no rule gives their places. -/
opaque purposeBits : Nat → Bool × Bool

/-- The certificate chain of a slot as it stands in the store (R533): the spec does not say how the store is laid out. -/
opaque certChain : Nat → List Byte → List Byte

/-- The bits of a standard capability register that the spec gives no value (R173 names what is supported), by the kind of function (0 a
virtual port, 1 the DMF) and the register. -/
opaque capBits : Nat → Nat → BitVec 32

end Sys2Proof.Config
end

