-- ==== Sys2Proof/Machine/Regs.lean ====
section
/-! DEFINITION. The register file of the part as data: every register's address (`R`), every field's place, type, reset
scope and reset value (`F`), and the table of rows from which reset words and write masks are computed.
Each name is the spec's register name with its instance letters taken off; the instance numbers are arguments.
Addresses are CSR addresses: block base (R568, 20_management_registers.md) plus the offset of the register's heading. -/

namespace Sys2Proof.Machine

/-- Field types (R10, 00_scope.md). Reserved bits have no field: they read 0 and ignore writes. -/
inductive FTy | rw | ro | w1c | w1s | wo | rc
  deriving DecidableEq, Repr

/-- The Reset column of a field table (R14, 00_scope.md): the narrowest reset that restores the field. -/
inductive RKind | cold | warm | group | port | flr | slice | none
  deriving DecidableEq, Repr

/-- One field: its lowest bit, its width, its type, its reset scope and its reset value. -/
structure Fld where
  lo : Nat
  w : Nat
  ty : FTy
  rk : RKind
  rv : Nat
  deriving DecidableEq, Repr

/-- One register heading: the address of instance 0, its (stride, count) pairs from the widest stride down, its fields. -/
structure Row where
  base : Nat
  dims : List (Nat × Nat)
  flds : List Fld
  deriving DecidableEq, Repr

/-- GLB_MODE, Global Mode Register (02_modes_and_boot.md). -/
def R.GLB_MODE : Nat := 0x10
def F.GLB_MODE_CUR : Fld := ⟨0, 3, .ro, .warm, 0⟩
def F.GLB_MODE_PREV : Fld := ⟨4, 3, .ro, .cold, 0⟩
def F.GLB_MODE_REQ : Fld := ⟨8, 3, .rw, .warm, 0⟩
def F.GLB_MODE_GO : Fld := ⟨12, 1, .wo, .none, 0⟩
def F.GLB_MODE_STATE : Fld := ⟨16, 2, .ro, .warm, 0⟩
def F.GLB_MODE_REASON : Fld := ⟨20, 4, .ro, .warm, 0⟩

/-- GLB_STRAP, Strap Register (02_modes_and_boot.md). -/
def R.GLB_STRAP : Nat := 0x14
def F.GLB_STRAP_BOOT : Fld := ⟨0, 2, .ro, .cold, 0⟩
def F.GLB_STRAP_FLASH : Fld := ⟨2, 1, .ro, .cold, 0⟩
def F.GLB_STRAP_I3C : Fld := ⟨3, 3, .ro, .cold, 0⟩

/-- GLB_BOOT_STATUS, Boot Status Register (02_modes_and_boot.md). -/
def R.GLB_BOOT_STATUS : Nat := 0x18
def F.GLB_BOOT_STATUS_ACTIVE_IMG : Fld := ⟨0, 2, .ro, .warm, 0⟩
def F.GLB_BOOT_STATUS_A_RESULT : Fld := ⟨4, 4, .ro, .warm, 0⟩
def F.GLB_BOOT_STATUS_B_RESULT : Fld := ⟨8, 4, .ro, .warm, 0⟩
def F.GLB_BOOT_STATUS_CAUSE : Fld := ⟨12, 4, .ro, .cold, 0⟩
def F.GLB_BOOT_STATUS_CONFIRMED : Fld := ⟨16, 1, .ro, .warm, 0⟩
def F.GLB_BOOT_STATUS_REC : Fld := ⟨17, 15, .ro, .cold, 0⟩

/-- GLB_BOOT_CONFIRM, Boot Confirm Register (02_modes_and_boot.md). -/
def R.GLB_BOOT_CONFIRM : Nat := 0x1C
def F.GLB_BOOT_CONFIRM_CONFIRM : Fld := ⟨0, 1, .wo, .none, 0⟩
def F.GLB_BOOT_CONFIRM_TIMEOUT : Fld := ⟨8, 8, .ro, .warm, 0⟩
def F.GLB_BOOT_CONFIRM_REMAIN : Fld := ⟨16, 8, .ro, .warm, 0⟩

/-- GLB_RESET, Reset Control Register (02_modes_and_boot.md). -/
def R.GLB_RESET : Nat := 0x20
def F.GLB_RESET_WARM : Fld := ⟨0, 1, .wo, .none, 0⟩
def F.GLB_RESET_COLD : Fld := ⟨1, 1, .wo, .none, 0⟩
def F.GLB_RESET_KEY : Fld := ⟨16, 16, .wo, .none, 0⟩

/-- GLB_GRP_RESET, Group Reset Register (02_modes_and_boot.md). -/
def R.GLB_GRP_RESET : Nat := 0x24
def F.GLB_GRP_RESET_GRP : Fld := ⟨0, 16, .w1s, .warm, 0⟩

/-- GRPgg_PORT_CFG_p, Port Configuration Register p (03_lanes.md). -/
def R.GRP_PORT_CFG (g p : Nat) : Nat := 0x100000 + g * 0x10000 + p * 0x4
def F.GRP_PORT_CFG_EN : Fld := ⟨0, 1, .rw, .warm, 0⟩
def F.GRP_PORT_CFG_MODE : Fld := ⟨1, 1, .rw, .warm, 0⟩
def F.GRP_PORT_CFG_WIDTH : Fld := ⟨2, 3, .rw, .warm, 0⟩
def F.GRP_PORT_CFG_FIRST : Fld := ⟨8, 4, .rw, .warm, 0⟩
def F.GRP_PORT_CFG_MAXRATE : Fld := ⟨12, 4, .rw, .warm, 15⟩

/-- GRPgg_LANE_CTL_n, Lane Control Register n (03_lanes.md). -/
def R.GRP_LANE_CTL (g n : Nat) : Nat := 0x100040 + g * 0x10000 + n * 0x4
def F.GRP_LANE_CTL_OFF : Fld := ⟨0, 1, .rw, .warm, 0⟩
def F.GRP_LANE_CTL_POL : Fld := ⟨1, 1, .ro, .port, 0⟩
def F.GRP_LANE_CTL_LOCK : Fld := ⟨2, 1, .ro, .port, 0⟩
def F.GRP_LANE_CTL_ALIGNED : Fld := ⟨3, 1, .ro, .port, 0⟩
def F.GRP_LANE_CTL_POS : Fld := ⟨4, 4, .ro, .port, 0⟩
def F.GRP_LANE_CTL_RATE : Fld := ⟨8, 4, .ro, .port, 0⟩
def F.GRP_LANE_CTL_EQ_SRC : Fld := ⟨12, 2, .ro, .port, 0⟩
def F.GRP_LANE_CTL_EQ_REJ : Fld := ⟨14, 1, .ro, .port, 0⟩

/-- GRPgg_LANE_ERR_n, Lane Error Register n (03_lanes.md). -/
def R.GRP_LANE_ERR (g n : Nat) : Nat := 0x1000C0 + g * 0x10000 + n * 0x4
def F.GRP_LANE_ERR_LCV : Fld := ⟨0, 12, .rc, .warm, 0⟩
def F.GRP_LANE_ERR_ATTR : Fld := ⟨12, 12, .rc, .warm, 0⟩
def F.GRP_LANE_ERR_SWAP_REQ : Fld := ⟨24, 1, .ro, .port, 0⟩

/-- GRPgg_LANE_PSE_n, Lane Pseudo-Error Register n (03_lanes.md). -/
def R.GRP_LANE_PSE (g n : Nat) : Nat := 0x100140 + g * 0x10000 + n * 0x4
def F.GRP_LANE_PSE_PSE : Fld := ⟨0, 32, .rc, .warm, 0⟩

/-- GRPgg_LANE_STAT, Lane Status Register (03_lanes.md). -/
def R.GRP_LANE_STAT (g : Nat) : Nat := 0x1001A4 + g * 0x10000
def F.GRP_LANE_STAT_CFG_ERR : Fld := ⟨0, 1, .ro, .group, 0⟩
def F.GRP_LANE_STAT_SPARE_STATE : Fld := ⟨4, 2, .ro, .group, 0⟩
def F.GRP_LANE_STAT_SPARE_LANE : Fld := ⟨8, 4, .ro, .group, 0⟩
def F.GRP_LANE_STAT_SPARE_PORT : Fld := ⟨12, 3, .ro, .group, 0⟩
def F.GRP_LANE_STAT_CMD_REF : Fld := ⟨15, 1, .ro, .group, 0⟩
def F.GRP_LANE_STAT_SWAPS : Fld := ⟨16, 8, .ro, .warm, 0⟩
def F.GRP_LANE_STAT_EQ_BAD : Fld := ⟨24, 8, .ro, .warm, 0⟩

/-- GRPgg_ERR_CFG, Lane Error Configuration Register (03_lanes.md). -/
def R.GRP_ERR_CFG (g : Nat) : Nat := 0x1001A0 + g * 0x10000
def F.GRP_ERR_CFG_WIN : Fld := ⟨0, 10, .rw, .warm, 10⟩
def F.GRP_ERR_CFG_HARD_TH : Fld := ⟨12, 8, .rw, .warm, 4⟩
def F.GRP_ERR_CFG_PSE_BAND : Fld := ⟨20, 4, .rw, .warm, 7⟩
def F.GRP_ERR_CFG_PSE_TH_EXP : Fld := ⟨24, 5, .rw, .warm, 20⟩
def F.GRP_ERR_CFG_AUTO_SWAP : Fld := ⟨29, 1, .rw, .warm, 1⟩
def F.GRP_ERR_CFG_PSE_EN : Fld := ⟨30, 1, .rw, .warm, 1⟩

/-- GRPgg_SPARE_CMD, Spare Command Register (03_lanes.md). -/
def R.GRP_SPARE_CMD (g : Nat) : Nat := 0x1001A8 + g * 0x10000
def F.GRP_SPARE_CMD_LANE : Fld := ⟨0, 4, .wo, .none, 0⟩
def F.GRP_SPARE_CMD_GO : Fld := ⟨8, 1, .wo, .none, 0⟩

/-- GRPgg_BRING_CFG, Bring-up Configuration Register (03_lanes.md). -/
def R.GRP_BRING_CFG (g : Nat) : Nat := 0x1001AC + g * 0x10000
def F.GRP_BRING_CFG_VERIFY : Fld := ⟨0, 10, .rw, .warm, 10⟩
def F.GRP_BRING_CFG_ALIGN_TO : Fld := ⟨16, 8, .rw, .warm, 10⟩

/-- GRPgg_EYE_CTL, Eye Scan Control Register (03_lanes.md). -/
def R.GRP_EYE_CTL (g : Nat) : Nat := 0x1001C0 + g * 0x10000
def F.GRP_EYE_CTL_LANE : Fld := ⟨0, 5, .rw, .warm, 0⟩
def F.GRP_EYE_CTL_EYE : Fld := ⟨5, 2, .rw, .warm, 0⟩
def F.GRP_EYE_CTL_PHASE : Fld := ⟨8, 7, .rw, .warm, 0⟩
def F.GRP_EYE_CTL_VOLT : Fld := ⟨16, 7, .rw, .warm, 0⟩
def F.GRP_EYE_CTL_DWELL : Fld := ⟨24, 4, .rw, .warm, 0⟩
def F.GRP_EYE_CTL_GO : Fld := ⟨31, 1, .wo, .none, 0⟩

/-- GRPgg_EYE_RES, Eye Scan Result Register (03_lanes.md). -/
def R.GRP_EYE_RES (g : Nat) : Nat := 0x1001C4 + g * 0x10000
def F.GRP_EYE_RES_ERRS : Fld := ⟨0, 24, .ro, .warm, 0⟩
def F.GRP_EYE_RES_DONE : Fld := ⟨24, 1, .ro, .warm, 0⟩
def F.GRP_EYE_RES_BUSY : Fld := ⟨25, 1, .ro, .warm, 0⟩
def F.GRP_EYE_RES_REFUSED : Fld := ⟨26, 1, .ro, .warm, 0⟩

/-- GRPgg_EQ_OVR0, Equalisation Override Control (03_lanes.md). -/
def R.GRP_EQ_OVR0 (g : Nat) : Nat := 0x1001D0 + g * 0x10000
def F.GRP_EQ_OVR0_LANE : Fld := ⟨0, 5, .rw, .warm, 0⟩
def F.GRP_EQ_OVR0_RATE : Fld := ⟨8, 4, .rw, .warm, 0⟩
def F.GRP_EQ_OVR0_EN : Fld := ⟨16, 1, .rw, .warm, 0⟩

/-- GRPgg_EQ_OVR1, Equalisation Override Transmit (03_lanes.md). -/
def R.GRP_EQ_OVR1 (g : Nat) : Nat := 0x1001D4 + g * 0x10000
def F.GRP_EQ_OVR1_PRE2 : Fld := ⟨0, 8, .rw, .warm, 0⟩
def F.GRP_EQ_OVR1_PRE1 : Fld := ⟨8, 8, .rw, .warm, 0⟩
def F.GRP_EQ_OVR1_MAIN : Fld := ⟨16, 8, .rw, .warm, 0⟩
def F.GRP_EQ_OVR1_POST1 : Fld := ⟨24, 8, .rw, .warm, 0⟩

/-- GRPgg_EQ_OVR2, Equalisation Override Receive A (03_lanes.md). -/
def R.GRP_EQ_OVR2 (g : Nat) : Nat := 0x1001D8 + g * 0x10000
def F.GRP_EQ_OVR2_PRESET : Fld := ⟨0, 8, .rw, .warm, 0⟩
def F.GRP_EQ_OVR2_CTLE : Fld := ⟨8, 8, .rw, .warm, 0⟩
def F.GRP_EQ_OVR2_VGA : Fld := ⟨16, 8, .rw, .warm, 0⟩
def F.GRP_EQ_OVR2_DFE1 : Fld := ⟨24, 8, .rw, .warm, 0⟩

/-- GRPgg_EQ_OVR3, Equalisation Override Receive B (03_lanes.md). -/
def R.GRP_EQ_OVR3 (g : Nat) : Nat := 0x1001DC + g * 0x10000
def F.GRP_EQ_OVR3_DFE2 : Fld := ⟨0, 8, .rw, .warm, 0⟩
def F.GRP_EQ_OVR3_DFE3 : Fld := ⟨8, 8, .rw, .warm, 0⟩
def F.GRP_EQ_OVR3_CDR : Fld := ⟨16, 8, .rw, .warm, 0⟩

/-- GRPgg_LINK_CTL_p, Link Control Register (04_woell_link.md). -/
def R.GRP_LINK_CTL (g p : Nat) : Nat := 0x100400 + g * 0x10000 + p * 0x40
def F.GRP_LINK_CTL_CRD_TO : Fld := ⟨0, 14, .rw, .warm, 100⟩
def F.GRP_LINK_CTL_REPLAY_TO : Fld := ⟨14, 10, .rw, .warm, 20⟩
def F.GRP_LINK_CTL_RT_LIM : Fld := ⟨24, 8, .rw, .warm, 8⟩

/-- GRPgg_LINK_CRD_p, Link Credit Configuration (04_woell_link.md). -/
def R.GRP_LINK_CRD (g p : Nat) : Nat := 0x100404 + g * 0x10000 + p * 0x40
def F.GRP_LINK_CRD_REQ_UNITS : Fld := ⟨0, 16, .rw, .warm, 2048⟩
def F.GRP_LINK_CRD_RSP_UNITS : Fld := ⟨16, 16, .rw, .warm, 2048⟩

/-- GRPgg_LINK_CMD_p, Link Command Register (04_woell_link.md). -/
def R.GRP_LINK_CMD (g p : Nat) : Nat := 0x100408 + g * 0x10000 + p * 0x40
def F.GRP_LINK_CMD_OP : Fld := ⟨0, 3, .wo, .none, 0⟩

/-- GRPgg_LINK_STAT_p, Link Status Register (04_woell_link.md). -/
def R.GRP_LINK_STAT (g p : Nat) : Nat := 0x10040C + g * 0x10000 + p * 0x40
def F.GRP_LINK_STAT_STATE : Fld := ⟨0, 3, .ro, .port, 0⟩
def F.GRP_LINK_STAT_WIDTH : Fld := ⟨3, 2, .ro, .port, 0⟩
def F.GRP_LINK_STAT_RATE : Fld := ⟨5, 4, .ro, .port, 0⟩
def F.GRP_LINK_STAT_EXCL : Fld := ⟨9, 16, .ro, .group, 0⟩
def F.GRP_LINK_STAT_CAUSE : Fld := ⟨25, 4, .ro, .warm, 0⟩
def F.GRP_LINK_STAT_LEADER : Fld := ⟨29, 1, .ro, .port, 0⟩
def F.GRP_LINK_STAT_CMD_REF : Fld := ⟨30, 1, .ro, .port, 0⟩

/-- GRPgg_LINK_SEQ_p, Link Transmit Sequence (04_woell_link.md). -/
def R.GRP_LINK_SEQ (g p : Nat) : Nat := 0x100410 + g * 0x10000 + p * 0x40
def F.GRP_LINK_SEQ_TX_NEXT : Fld := ⟨0, 12, .ro, .port, 0⟩
def F.GRP_LINK_SEQ_TX_ACK : Fld := ⟨12, 12, .ro, .port, 4095⟩

/-- GRPgg_LINK_RX_p, Link Receive Sequence (04_woell_link.md). -/
def R.GRP_LINK_RX (g p : Nat) : Nat := 0x100414 + g * 0x10000 + p * 0x40
def F.GRP_LINK_RX_RX_NEXT : Fld := ⟨0, 12, .ro, .port, 0⟩
def F.GRP_LINK_RX_NAK_PEND : Fld := ⟨12, 1, .ro, .port, 0⟩
def F.GRP_LINK_RX_CTL_CRD : Fld := ⟨16, 7, .ro, .port, 0⟩

/-- GRPgg_LINK_CRDS_p, Link Credits Held (04_woell_link.md). -/
def R.GRP_LINK_CRDS (g p : Nat) : Nat := 0x100418 + g * 0x10000 + p * 0x40
def F.GRP_LINK_CRDS_REQ_CRD : Fld := ⟨0, 16, .ro, .port, 0⟩
def F.GRP_LINK_CRDS_RSP_CRD : Fld := ⟨16, 16, .ro, .port, 0⟩

/-- GRPgg_LINK_PEER_p, Link Partner (04_woell_link.md). -/
def R.GRP_LINK_PEER (g p : Nat) : Nat := 0x10041C + g * 0x10000 + p * 0x40
def F.GRP_LINK_PEER_PEER_ID : Fld := ⟨0, 8, .ro, .port, 0⟩
def F.GRP_LINK_PEER_PEER_PORT : Fld := ⟨8, 7, .ro, .port, 0⟩

/-- GRPgg_LINK_ERR_p, Link Error Counters (04_woell_link.md). -/
def R.GRP_LINK_ERR (g p : Nat) : Nat := 0x100420 + g * 0x10000 + p * 0x40
def F.GRP_LINK_ERR_CRC_ERR : Fld := ⟨0, 16, .rc, .warm, 0⟩
def F.GRP_LINK_ERR_SEQ_DROP : Fld := ⟨16, 16, .rc, .warm, 0⟩

/-- GRPgg_LINK_RPL_p, Link Replay Counters (04_woell_link.md). -/
def R.GRP_LINK_RPL (g p : Nat) : Nat := 0x100424 + g * 0x10000 + p * 0x40
def F.GRP_LINK_RPL_REPLAYS : Fld := ⟨0, 12, .rc, .warm, 0⟩
def F.GRP_LINK_RPL_DUPS : Fld := ⟨12, 12, .rc, .warm, 0⟩
def F.GRP_LINK_RPL_RETRAINS : Fld := ⟨24, 8, .rc, .warm, 0⟩

/-- GLB_HD_CFG_hh, Host Domain Configuration (05_pcie_host_domains.md). -/
def R.GLB_HD_CFG (h : Nat) : Nat := 0x100 + h * 0x10
def F.GLB_HD_CFG_EN : Fld := ⟨0, 1, .rw, .warm, 0⟩
def F.GLB_HD_CFG_UP_PORT : Fld := ⟨1, 7, .rw, .warm, 0⟩
def F.GLB_HD_CFG_APP_SZ : Fld := ⟨8, 6, .rw, .warm, 30⟩
def F.GLB_HD_CFG_APN_SZ : Fld := ⟨14, 6, .rw, .warm, 24⟩

/-- GLB_HD_STAT_hh, Host Domain Status (05_pcie_host_domains.md). -/
def R.GLB_HD_STAT (h : Nat) : Nat := 0x104 + h * 0x10
def F.GLB_HD_STAT_STATE : Fld := ⟨0, 2, .ro, .warm, 0⟩
def F.GLB_HD_STAT_BME : Fld := ⟨2, 1, .ro, .flr, 0⟩
def F.GLB_HD_STAT_EN_ERR : Fld := ⟨3, 1, .ro, .warm, 0⟩
def F.GLB_HD_STAT_FLR_CTO : Fld := ⟨4, 1, .ro, .warm, 0⟩
def F.GLB_HD_STAT_DB_FOREIGN : Fld := ⟨16, 16, .rc, .warm, 0⟩

/-- GLB_HD_CNT_hh, Host Domain Counters (05_pcie_host_domains.md). -/
def R.GLB_HD_CNT (h : Nat) : Nat := 0x108 + h * 0x10
def F.GLB_HD_CNT_BME_DISC : Fld := ⟨0, 16, .rc, .warm, 0⟩
def F.GLB_HD_CNT_EVT_OVF : Fld := ⟨16, 16, .rc, .warm, 0⟩

/-- GLB_HD_CNT2_hh, Host Domain Counters 2 (05_pcie_host_domains.md). -/
def R.GLB_HD_CNT2 (h : Nat) : Nat := 0x10C + h * 0x10
def F.GLB_HD_CNT2_YIELDS : Fld := ⟨0, 16, .rc, .warm, 0⟩
def F.GLB_HD_CNT2_FLR_DISC : Fld := ⟨16, 16, .rc, .warm, 0⟩

/-- GLB_AP_YIELD, Aperture Yield Timer (05_pcie_host_domains.md). -/
def R.GLB_AP_YIELD : Nat := 0x200
def F.GLB_AP_YIELD_YIELD_TO : Fld := ⟨0, 10, .rw, .warm, 50⟩

/-- GRPgg_PCIE_CFG_p, PCI Express Port Configuration (05_pcie_host_domains.md). -/
def R.GRP_PCIE_CFG (g p : Nat) : Nat := 0x100800 + g * 0x10000 + p * 0x40
def F.GRP_PCIE_CFG_HD : Fld := ⟨0, 4, .rw, .warm, 0⟩
def F.GRP_PCIE_CFG_SHARED : Fld := ⟨4, 1, .rw, .warm, 0⟩
def F.GRP_PCIE_CFG_VDEV : Fld := ⟨5, 5, .rw, .warm, 0⟩

/-- GRPgg_PCIE_CMD_p, PCI Express Port Command (05_pcie_host_domains.md). -/
def R.GRP_PCIE_CMD (g p : Nat) : Nat := 0x100804 + g * 0x10000 + p * 0x40
def F.GRP_PCIE_CMD_OP : Fld := ⟨0, 2, .wo, .none, 0⟩

/-- GRPgg_PCIE_STAT_p, PCI Express Port Status (05_pcie_host_domains.md). -/
def R.GRP_PCIE_STAT (g p : Nat) : Nat := 0x100808 + g * 0x10000 + p * 0x40
def F.GRP_PCIE_STAT_UP : Fld := ⟨0, 1, .ro, .port, 0⟩
def F.GRP_PCIE_STAT_ROLE : Fld := ⟨1, 2, .ro, .port, 0⟩
def F.GRP_PCIE_STAT_HD_ACT : Fld := ⟨3, 4, .ro, .port, 0⟩
def F.GRP_PCIE_STAT_VDEV_ACT : Fld := ⟨7, 5, .ro, .port, 0⟩
def F.GRP_PCIE_STAT_RATE : Fld := ⟨12, 4, .ro, .port, 0⟩
def F.GRP_PCIE_STAT_WIDTH : Fld := ⟨16, 3, .ro, .port, 0⟩
def F.GRP_PCIE_STAT_FLIT : Fld := ⟨19, 1, .ro, .port, 0⟩
def F.GRP_PCIE_STAT_DPC : Fld := ⟨20, 1, .ro, .port, 0⟩
def F.GRP_PCIE_STAT_CFG_ERR : Fld := ⟨21, 1, .ro, .port, 0⟩

/-- GRPgg_PCIE_CTO_p, PCI Express Tracked Timeout (05_pcie_host_domains.md). -/
def R.GRP_PCIE_CTO (g p : Nat) : Nat := 0x10080C + g * 0x10000 + p * 0x40
def F.GRP_PCIE_CTO_TO : Fld := ⟨0, 12, .rw, .warm, 50⟩

/-- GRPgg_PCIE_CNT_p, PCI Express Port Counters (05_pcie_host_domains.md). -/
def R.GRP_PCIE_CNT (g p : Nat) : Nat := 0x100810 + g * 0x10000 + p * 0x40
def F.GRP_PCIE_CNT_UR_SENT : Fld := ⟨0, 16, .rc, .warm, 0⟩
def F.GRP_PCIE_CNT_UNEXP_CPL : Fld := ⟨16, 16, .rc, .warm, 0⟩

/-- GRPgg_PCIE_CNT2_p, PCI Express Port Counters 2 (05_pcie_host_domains.md). -/
def R.GRP_PCIE_CNT2 (g p : Nat) : Nat := 0x100814 + g * 0x10000 + p * 0x40
def F.GRP_PCIE_CNT2_CTO_SYN : Fld := ⟨0, 16, .rc, .warm, 0⟩
def F.GRP_PCIE_CNT2_IDE_DROP : Fld := ⟨16, 16, .rc, .warm, 0⟩

/-- SETT_CFG, Sett Configuration (06_switch_core.md). -/
def R.SETT_CFG : Nat := 0x200000
def F.SETT_CFG_QTR_EN : Fld := ⟨0, 4, .rw, .warm, 15⟩
def F.SETT_CFG_CT_DIS : Fld := ⟨4, 1, .rw, .warm, 0⟩

/-- SETT_STAT, Sett Status (06_switch_core.md). -/
def R.SETT_STAT : Nat := 0x200004
def F.SETT_STAT_FREE : Fld := ⟨0, 20, .ro, .warm, 0⟩
def F.SETT_STAT_QTR_ON : Fld := ⟨20, 4, .ro, .warm, 0⟩

/-- SETT_ERR, Sett Error Counters (06_switch_core.md). -/
def R.SETT_ERR : Nat := 0x200008
def F.SETT_ERR_REREAD_OK : Fld := ⟨0, 8, .rc, .warm, 0⟩
def F.SETT_ERR_POISONED : Fld := ⟨8, 8, .rc, .warm, 0⟩
def F.SETT_ERR_CT_ABORT : Fld := ⟨16, 8, .rc, .warm, 0⟩
def F.SETT_ERR_RETIRED : Fld := ⟨24, 4, .rc, .warm, 0⟩
def F.SETT_ERR_MC_PCIE : Fld := ⟨28, 4, .rc, .warm, 0⟩

/-- SETT_CTW, Sett Cut-Through Waits (06_switch_core.md). -/
def R.SETT_CTW : Nat := 0x20000C
def F.SETT_CTW_CT_WAIT : Fld := ⟨0, 32, .rc, .warm, 0⟩

/-- SETT_BANK_OUT_0, Banks Out of Service 0 and 1 (06_switch_core.md). -/
def R.SETT_BANK_OUT_0 : Nat := 0x200010
def F.SETT_BANK_OUT_0_OUT : Fld := ⟨0, 32, .ro, .warm, 0⟩

/-- SETT_BANK_OUT_1, Banks Out of Service 0 and 1 (06_switch_core.md). -/
def R.SETT_BANK_OUT_1 : Nat := 0x200014
def F.SETT_BANK_OUT_1_OUT : Fld := ⟨0, 32, .ro, .warm, 0⟩

/-- SETT_POOL, Shared Pool (06_switch_core.md). -/
def R.SETT_POOL : Nat := 0x200020
def F.SETT_POOL_HEADROOM : Fld := ⟨0, 20, .rw, .warm, 8192⟩

/-- SETT_MIRROR, Mirror Control (06_switch_core.md). -/
def R.SETT_MIRROR : Nat := 0x200030
def F.SETT_MIRROR_NM1 : Fld := ⟨0, 24, .rw, .warm, 0⟩
def F.SETT_MIRROR_EN : Fld := ⟨24, 1, .rw, .warm, 0⟩
def F.SETT_MIRROR_ALL : Fld := ⟨25, 1, .rw, .warm, 0⟩
def F.SETT_MIRROR_JITTER : Fld := ⟨26, 1, .rw, .warm, 0⟩

/-- SETT_MIRROR_CNT, Mirror Counters (06_switch_core.md). -/
def R.SETT_MIRROR_CNT : Nat := 0x200034
def F.SETT_MIRROR_CNT_QDEPTH : Fld := ⟨0, 10, .rw, .warm, 256⟩
def F.SETT_MIRROR_CNT_SENT : Fld := ⟨10, 11, .rc, .warm, 0⟩
def F.SETT_MIRROR_CNT_DROP : Fld := ⟨21, 11, .rc, .warm, 0⟩

/-- SETT_PCFG_p, Ingress Reserve (06_switch_core.md). -/
def R.SETT_PCFG (p : Nat) : Nat := 0x201000 + p * 0x4
def F.SETT_PCFG_IN_RES : Fld := ⟨0, 16, .rw, .warm, 256⟩

/-- SETT_SCHED_p, Scheduler Strict (06_switch_core.md). -/
def R.SETT_SCHED (p : Nat) : Nat := 0x202000 + p * 0x10
def F.SETT_SCHED_STRICT : Fld := ⟨0, 8, .rw, .warm, 0⟩

/-- SETT_SCHED_p_Q0, Scheduler Quanta (06_switch_core.md). -/
def R.SETT_SCHED_Q0 (p : Nat) : Nat := 0x202004 + p * 0x10
def F.SETT_SCHED_Q0_T0 : Fld := ⟨0, 8, .rw, .warm, 16⟩
def F.SETT_SCHED_Q0_T1 : Fld := ⟨8, 8, .rw, .warm, 16⟩
def F.SETT_SCHED_Q0_T2 : Fld := ⟨16, 8, .rw, .warm, 16⟩
def F.SETT_SCHED_Q0_T3 : Fld := ⟨24, 8, .rw, .warm, 16⟩

/-- SETT_SCHED_p_Q1, Scheduler Quanta (06_switch_core.md). -/
def R.SETT_SCHED_Q1 (p : Nat) : Nat := 0x202008 + p * 0x10
def F.SETT_SCHED_Q1_T4 : Fld := ⟨0, 8, .rw, .warm, 16⟩
def F.SETT_SCHED_Q1_T5 : Fld := ⟨8, 8, .rw, .warm, 16⟩
def F.SETT_SCHED_Q1_T6 : Fld := ⟨16, 8, .rw, .warm, 16⟩
def F.SETT_SCHED_Q1_T7 : Fld := ⟨24, 8, .rw, .warm, 16⟩

/-- SETT_QCFG_n, Queue Configuration (06_switch_core.md). -/
def R.SETT_QCFG (n : Nat) : Nat := 0x204000 + n * 0x8
def F.SETT_QCFG_MIN : Fld := ⟨0, 16, .rw, .warm, 64⟩
def F.SETT_QCFG_DYN : Fld := ⟨16, 4, .rw, .warm, 2⟩

/-- SETT_QCFG2_n, Queue Mark Threshold (06_switch_core.md). -/
def R.SETT_QCFG2 (n : Nat) : Nat := 0x204004 + n * 0x8
def F.SETT_QCFG2_MARK_TH : Fld := ⟨0, 16, .rw, .warm, 1024⟩

/-- SETT_QSTAT_n, Queue Status (06_switch_core.md). -/
def R.SETT_QSTAT (n : Nat) : Nat := 0x206000 + n * 0x4
def F.SETT_QSTAT_DEPTH : Fld := ⟨0, 20, .ro, .port, 0⟩
def F.SETT_QSTAT_DROPS : Fld := ⟨20, 12, .rc, .warm, 0⟩

/-- DENdd_VEC_s_c, Entry Vector (07_forwarding_model.md). -/
def R.DEN_VEC (d set c : Nat) : Nat := 0x300000 + d * 0x10000 + set * 0x100 + c * 0x4
def F.DEN_VEC_ENTRY : Fld := ⟨0, 14, .rw, .warm, 0⟩
def F.DEN_VEC_EN : Fld := ⟨31, 1, .rw, .warm, 0⟩

/-- DENdd_PROG_CTL, Program Control (07_forwarding_model.md). -/
def R.DEN_PROG_CTL (d : Nat) : Nat := 0x300200 + d * 0x10000
def F.DEN_PROG_CTL_SEL : Fld := ⟨0, 1, .rw, .warm, 0⟩

/-- DENdd_PROG_STAT, Program Status (07_forwarding_model.md). -/
def R.DEN_PROG_STAT (d : Nat) : Nat := 0x300204 + d * 0x10000
def F.DEN_PROG_STAT_OLD_JOBS : Fld := ⟨0, 8, .ro, .group, 0⟩
def F.DEN_PROG_STAT_DRAINED : Fld := ⟨8, 1, .ro, .group, 1⟩
def F.DEN_PROG_STAT_RUNNING : Fld := ⟨16, 8, .ro, .group, 0⟩

/-- DENdd_REGION_s, Program Region s (07_forwarding_model.md). -/
def R.DEN_REGION (d set : Nat) : Nat := 0x300208 + d * 0x10000 + set * 0x4
def F.DEN_REGION_LO : Fld := ⟨0, 14, .rw, .warm, 0⟩
def F.DEN_REGION_HI : Fld := ⟨16, 14, .rw, .warm, 16383⟩

/-- DENdd_PORT_CLS, Port Class Select (07_forwarding_model.md). -/
def R.DEN_PORT_CLS (d : Nat) : Nat := 0x300210 + d * 0x10000
def F.DEN_PORT_CLS_ALT : Fld := ⟨0, 8, .rw, .warm, 0⟩

/-- DENdd_EXC_CFG, Exception Configuration (07_forwarding_model.md). -/
def R.DEN_EXC_CFG (d : Nat) : Nat := 0x300214 + d * 0x10000
def F.DEN_EXC_CFG_LIMIT : Fld := ⟨0, 16, .rw, .warm, 1024⟩
def F.DEN_EXC_CFG_ACT : Fld := ⟨16, 1, .rw, .warm, 0⟩

/-- DENdd_EXC_STAT, Exception Status (07_forwarding_model.md). -/
def R.DEN_EXC_STAT (d : Nat) : Nat := 0x300218 + d * 0x10000
def F.DEN_EXC_STAT_CODE : Fld := ⟨0, 4, .ro, .group, 0⟩
def F.DEN_EXC_STAT_PC : Fld := ⟨4, 14, .ro, .group, 0⟩
def F.DEN_EXC_STAT_FOX : Fld := ⟨18, 5, .ro, .group, 0⟩
def F.DEN_EXC_STAT_THREAD : Fld := ⟨23, 2, .ro, .group, 0⟩
def F.DEN_EXC_STAT_VALID : Fld := ⟨25, 1, .w1c, .group, 0⟩

/-- DENdd_EXC_CNT, Exception Count (07_forwarding_model.md). -/
def R.DEN_EXC_CNT (d : Nat) : Nat := 0x30021C + d * 0x10000
def F.DEN_EXC_CNT_COUNT : Fld := ⟨0, 32, .rc, .warm, 0⟩

/-- DENdd_HQ_STAT, Header Queue Status (07_forwarding_model.md). -/
def R.DEN_HQ_STAT (d : Nat) : Nat := 0x300220 + d * 0x10000
def F.DEN_HQ_STAT_DEPTH : Fld := ⟨0, 10, .ro, .group, 0⟩
def F.DEN_HQ_STAT_HWM : Fld := ⟨16, 10, .rc, .group, 0⟩

/-- DENdd_JOB_CNT, Job Count (07_forwarding_model.md). -/
def R.DEN_JOB_CNT (d : Nat) : Nat := 0x300224 + d * 0x10000
def F.DEN_JOB_CNT_JOBS : Fld := ⟨0, 32, .rc, .warm, 0⟩

/-- DENdd_JOB_CYC, Job Cycles (07_forwarding_model.md). -/
def R.DEN_JOB_CYC (d : Nat) : Nat := 0x300228 + d * 0x10000
def F.DEN_JOB_CYC_ISSUED : Fld := ⟨0, 32, .rc, .warm, 0⟩

/-- DENdd_DROP_CNT, Drop Count (07_forwarding_model.md). -/
def R.DEN_DROP_CNT (d : Nat) : Nat := 0x30022C + d * 0x10000
def F.DEN_DROP_CNT_NODEC : Fld := ⟨0, 16, .rc, .warm, 0⟩
def F.DEN_DROP_CNT_NOPORT : Fld := ⟨16, 8, .rc, .warm, 0⟩
def F.DEN_DROP_CNT_CPL_BAD : Fld := ⟨24, 8, .rc, .warm, 0⟩

/-- DENdd_TRAP_CNT, Trap Count (07_forwarding_model.md). -/
def R.DEN_TRAP_CNT (d : Nat) : Nat := 0x300230 + d * 0x10000
def F.DEN_TRAP_CNT_TRAPS : Fld := ⟨0, 16, .rc, .warm, 0⟩
def F.DEN_TRAP_CNT_QFULL : Fld := ⟨16, 16, .rc, .warm, 0⟩

/-- DENdd_ECC_CNT, ECC Count (07_forwarding_model.md). -/
def R.DEN_ECC_CNT (d : Nat) : Nat := 0x300234 + d * 0x10000
def F.DEN_ECC_CNT_SGL : Fld := ⟨0, 16, .rc, .warm, 0⟩
def F.DEN_ECC_CNT_DBL : Fld := ⟨16, 16, .rc, .warm, 0⟩

/-- SETT_MCSET_s_k, Multicast Set (07_forwarding_model.md). -/
def R.SETT_MCSET (s k : Nat) : Nat := 0x208000 + s * 0x10 + k * 0x4
def F.SETT_MCSET_MEMB : Fld := ⟨0, 32, .rw, .warm, 0⟩

/-- TBL_WR_ADDR, Write Address (07_forwarding_model.md). -/
def R.TBL_WR_ADDR : Nat := 0x800000
def F.TBL_WR_ADDR_OFFSET : Fld := ⟨3, 18, .rw, .warm, 0⟩

/-- TBL_WR_DATA_k, Write Data k (07_forwarding_model.md). -/
def R.TBL_WR_DATA (k : Nat) : Nat := 0x800040 + k * 0x4
def F.TBL_WR_DATA_DATA : Fld := ⟨0, 32, .rw, .warm, 0⟩

/-- TBL_WR_CMD, Write Command (07_forwarding_model.md). -/
def R.TBL_WR_CMD : Nat := 0x800004
def F.TBL_WR_CMD_LEN : Fld := ⟨0, 2, .rw, .warm, 0⟩
def F.TBL_WR_CMD_GO : Fld := ⟨31, 1, .wo, .none, 0⟩

/-- TBL_WR_STAT, Write Status (07_forwarding_model.md). -/
def R.TBL_WR_STAT : Nat := 0x800008
def F.TBL_WR_STAT_QDEPTH : Fld := ⟨0, 7, .ro, .warm, 0⟩
def F.TBL_WR_STAT_BUSY : Fld := ⟨7, 1, .ro, .warm, 0⟩
def F.TBL_WR_STAT_ERR : Fld := ⟨8, 2, .w1c, .warm, 0⟩

/-- TBL_FENCE, Fence (07_forwarding_model.md). -/
def R.TBL_FENCE : Nat := 0x80000C
def F.TBL_FENCE_FENCE : Fld := ⟨0, 32, .ro, .none, 0⟩

/-- TBL_PLOAD_SRC, Program Load Source (07_forwarding_model.md). -/
def R.TBL_PLOAD_SRC : Nat := 0x800010
def F.TBL_PLOAD_SRC_SRC : Fld := ⟨3, 21, .rw, .warm, 0⟩

/-- TBL_PLOAD_DST, Program Load Destination (07_forwarding_model.md). -/
def R.TBL_PLOAD_DST : Nat := 0x800014
def F.TBL_PLOAD_DST_DST : Fld := ⟨0, 14, .rw, .warm, 0⟩
def F.TBL_PLOAD_DST_COUNT_M1 : Fld := ⟨16, 14, .rw, .warm, 0⟩

/-- TBL_PLOAD_CMD, Program Load Command (07_forwarding_model.md). -/
def R.TBL_PLOAD_CMD : Nat := 0x800018
def F.TBL_PLOAD_CMD_DENS : Fld := ⟨0, 16, .rw, .warm, 0⟩
def F.TBL_PLOAD_CMD_GO : Fld := ⟨31, 1, .wo, .none, 0⟩

/-- TBL_PSWITCH, Program Switch (07_forwarding_model.md). -/
def R.TBL_PSWITCH : Nat := 0x80001C
def F.TBL_PSWITCH_DENS : Fld := ⟨0, 16, .rw, .warm, 0⟩
def F.TBL_PSWITCH_GO : Fld := ⟨31, 1, .wo, .none, 0⟩

/-- TBL_PSTAT, Program Status (07_forwarding_model.md). -/
def R.TBL_PSTAT : Nat := 0x800020
def F.TBL_PSTAT_BUSY : Fld := ⟨0, 1, .ro, .warm, 0⟩
def F.TBL_PSTAT_REFUSED : Fld := ⟨1, 1, .w1c, .warm, 0⟩
def F.TBL_PSTAT_CUR_DEN : Fld := ⟨4, 4, .ro, .warm, 0⟩

/-- DENdd_MTR_IDX, Meter Index (08_kolzen_isa.md). -/
def R.DEN_MTR_IDX (d : Nat) : Nat := 0x300300 + d * 0x10000
def F.DEN_MTR_IDX_IDX : Fld := ⟨0, 10, .rw, .warm, 0⟩
def F.DEN_MTR_IDX_UNL : Fld := ⟨29, 1, .rw, .warm, 1⟩
def F.DEN_MTR_IDX_READ : Fld := ⟨30, 1, .wo, .none, 0⟩
def F.DEN_MTR_IDX_GO : Fld := ⟨31, 1, .wo, .none, 0⟩

/-- DENdd_MTR_RATE, Meter Rates (08_kolzen_isa.md). -/
def R.DEN_MTR_RATE (d : Nat) : Nat := 0x300304 + d * 0x10000
def F.DEN_MTR_RATE_CIR : Fld := ⟨0, 16, .rw, .warm, 0⟩
def F.DEN_MTR_RATE_PIR : Fld := ⟨16, 16, .rw, .warm, 0⟩

/-- DENdd_MTR_BURST, Meter Bursts (08_kolzen_isa.md). -/
def R.DEN_MTR_BURST (d : Nat) : Nat := 0x300308 + d * 0x10000
def F.DEN_MTR_BURST_CBS : Fld := ⟨0, 16, .rw, .warm, 0⟩
def F.DEN_MTR_BURST_PBS : Fld := ⟨16, 16, .rw, .warm, 0⟩

/-- DENdd_CTR_IDX, Counter Index (08_kolzen_isa.md). -/
def R.DEN_CTR_IDX (d : Nat) : Nat := 0x300310 + d * 0x10000
def F.DEN_CTR_IDX_IDX : Fld := ⟨0, 13, .rw, .warm, 0⟩
def F.DEN_CTR_IDX_CLR : Fld := ⟨30, 1, .wo, .none, 0⟩
def F.DEN_CTR_IDX_SNAP : Fld := ⟨31, 1, .wo, .none, 0⟩

/-- DENdd_CTR_PKT_LO, Counter Snapshot Packets Low (08_kolzen_isa.md). -/
def R.DEN_CTR_PKT_LO (d : Nat) : Nat := 0x300314 + d * 0x10000
def F.DEN_CTR_PKT_LO_PKT_LO : Fld := ⟨0, 32, .ro, .group, 0⟩

/-- DENdd_CTR_PKT_HI, Counter Snapshot Packets High (08_kolzen_isa.md). -/
def R.DEN_CTR_PKT_HI (d : Nat) : Nat := 0x300318 + d * 0x10000
def F.DEN_CTR_PKT_HI_PKT_HI : Fld := ⟨0, 32, .ro, .group, 0⟩

/-- DENdd_CTR_BYT_LO, Counter Snapshot Bytes Low (08_kolzen_isa.md). -/
def R.DEN_CTR_BYT_LO (d : Nat) : Nat := 0x30031C + d * 0x10000
def F.DEN_CTR_BYT_LO_BYT_LO : Fld := ⟨0, 32, .ro, .group, 0⟩

/-- DENdd_CTR_BYT_HI, Counter Snapshot Bytes High (08_kolzen_isa.md). -/
def R.DEN_CTR_BYT_HI (d : Nat) : Nat := 0x300320 + d * 0x10000
def F.DEN_CTR_BYT_HI_BYT_HI : Fld := ⟨0, 32, .ro, .group, 0⟩

/-- MGT_FAB_ID, Fabric Identity (10_fabric.md). -/
def R.MGT_FAB_ID : Nat := 0x41000
def F.MGT_FAB_ID_ID : Fld := ⟨0, 8, .ro, .warm, 0⟩
def F.MGT_FAB_ID_VALID : Fld := ⟨8, 1, .ro, .warm, 0⟩
def F.MGT_FAB_ID_ROLE : Fld := ⟨9, 2, .ro, .warm, 3⟩

/-- MGT_FAB_CFG, Fabric Configuration (10_fabric.md). -/
def R.MGT_FAB_CFG : Nat := 0x41004
def F.MGT_FAB_CFG_HB_PERIOD : Fld := ⟨0, 10, .rw, .warm, 10⟩
def F.MGT_FAB_CFG_HB_MISS : Fld := ⟨10, 4, .rw, .warm, 3⟩
def F.MGT_FAB_CFG_EV_RTO : Fld := ⟨14, 8, .rw, .warm, 10⟩

/-- MGT_FAB_MGR, Fabric Manager (10_fabric.md). -/
def R.MGT_FAB_MGR : Nat := 0x41008
def F.MGT_FAB_MGR_MGR_ID : Fld := ⟨0, 8, .ro, .warm, 0⟩
def F.MGT_FAB_MGR_STBY_ID : Fld := ⟨8, 8, .rw, .warm, 0⟩
def F.MGT_FAB_MGR_EPOCH : Fld := ⟨16, 8, .ro, .warm, 0⟩
def F.MGT_FAB_MGR_STBY_PRESENT : Fld := ⟨24, 1, .rw, .warm, 0⟩
def F.MGT_FAB_MGR_MGR_LOST : Fld := ⟨25, 1, .ro, .warm, 0⟩
def F.MGT_FAB_MGR_MISSES : Fld := ⟨26, 4, .ro, .warm, 0⟩

/-- MGT_FAB_EVQ, Fabric Event Queue (10_fabric.md). -/
def R.MGT_FAB_EVQ : Nat := 0x4100C
def F.MGT_FAB_EVQ_QUEUED : Fld := ⟨0, 7, .ro, .warm, 0⟩
def F.MGT_FAB_EVQ_HELD : Fld := ⟨7, 1, .ro, .warm, 0⟩
def F.MGT_FAB_EVQ_EV_OVF : Fld := ⟨16, 16, .rc, .warm, 0⟩

/-- MGT_FAB_ERR, Fabric Errors (10_fabric.md). -/
def R.MGT_FAB_ERR : Nat := 0x41010
def F.MGT_FAB_ERR_CRC16_ERR : Fld := ⟨0, 8, .rc, .warm, 0⟩
def F.MGT_FAB_ERR_STALE : Fld := ⟨8, 8, .rc, .warm, 0⟩
def F.MGT_FAB_ERR_EPOCH_REJ : Fld := ⟨16, 8, .rc, .warm, 0⟩
def F.MGT_FAB_ERR_NOPATH : Fld := ⟨24, 8, .rc, .warm, 0⟩

/-- MGT_FAB_DIR, Fabric Directory (10_fabric.md). -/
def R.MGT_FAB_DIR : Nat := 0x41014
def F.MGT_FAB_DIR_BASE : Fld := ⟨5, 19, .rw, .warm, 0⟩

/-- MGT_FAB_TIME, Fabric Time Control (10_fabric.md). -/
def R.MGT_FAB_TIME : Nat := 0x41018
def F.MGT_FAB_TIME_RTT_MAX : Fld := ⟨0, 14, .rw, .warm, 20⟩
def F.MGT_FAB_TIME_EN : Fld := ⟨14, 1, .rw, .warm, 1⟩
def F.MGT_FAB_TIME_LOCKED : Fld := ⟨15, 1, .ro, .warm, 0⟩

/-- MGT_FAB_TOFS, Fabric Time Offset (10_fabric.md). -/
def R.MGT_FAB_TOFS : Nat := 0x4101C
def F.MGT_FAB_TOFS_OFFSET : Fld := ⟨0, 32, .ro, .warm, 0⟩

/-- WEN_RM_CFG, Remote Memory Configuration (11_remote_memory.md). -/
def R.WEN_RM_CFG : Nat := 0x400000
def F.WEN_RM_CFG_RTO : Fld := ⟨0, 14, .rw, .warm, 20⟩
def F.WEN_RM_CFG_RETRY : Fld := ⟨14, 4, .rw, .warm, 8⟩

/-- WEN_RM_CFG2, Remote Memory Configuration 2 (11_remote_memory.md). -/
def R.WEN_RM_CFG2 : Nat := 0x400004
def F.WEN_RM_CFG2_RETAIN : Fld := ⟨0, 10, .rw, .warm, 50⟩
def F.WEN_RM_CFG2_INB_IDLE : Fld := ⟨10, 10, .rw, .warm, 10⟩

/-- WEN_RM_CFG3, Remote Memory Configuration 3 (11_remote_memory.md). -/
def R.WEN_RM_CFG3 : Nat := 0x400008
def F.WEN_RM_CFG3_PBACK : Fld := ⟨0, 10, .rw, .warm, 5⟩
def F.WEN_RM_CFG3_PATH_TH : Fld := ⟨10, 4, .rw, .warm, 3⟩
def F.WEN_RM_CFG3_PATH_HOLD : Fld := ⟨14, 8, .rw, .warm, 10⟩

/-- WEN_FENCE, Window Fence (11_remote_memory.md). -/
def R.WEN_FENCE : Nat := 0x40000C
def F.WEN_FENCE_FENCE : Fld := ⟨0, 32, .ro, .none, 0⟩

/-- WEN_CNT0, Window Engine Counters 0 (11_remote_memory.md). -/
def R.WEN_CNT0 : Nat := 0x400010
def F.WEN_CNT0_IDLE_FREE : Fld := ⟨0, 16, .rc, .warm, 0⟩
def F.WEN_CNT0_DUP_SE : Fld := ⟨16, 16, .rc, .warm, 0⟩

/-- WEN_CNT1, Window Engine Counters 1 (11_remote_memory.md). -/
def R.WEN_CNT1 : Nat := 0x400014
def F.WEN_CNT1_BAD_HDR : Fld := ⟨0, 12, .rc, .warm, 0⟩
def F.WEN_CNT1_BUSY_NAK : Fld := ⟨12, 10, .rc, .warm, 0⟩
def F.WEN_CNT1_POL_NAK : Fld := ⟨22, 10, .rc, .warm, 0⟩

/-- WEN_ABORT, Abort Command (11_remote_memory.md). -/
def R.WEN_ABORT : Nat := 0x400020
def F.WEN_ABORT_SQ : Fld := ⟨0, 15, .rw, .warm, 0⟩
def F.WEN_ABORT_GO : Fld := ⟨31, 1, .wo, .none, 0⟩

/-- WEN_ABORT_ID_LO, Abort Identifier (11_remote_memory.md). -/
def R.WEN_ABORT_ID_LO : Nat := 0x400024
def F.WEN_ABORT_ID_LO_WR_ID : Fld := ⟨0, 32, .rw, .warm, 0⟩

/-- WEN_ABORT_ID_HI, Abort Identifier (11_remote_memory.md). -/
def R.WEN_ABORT_ID_HI : Nat := 0x400028
def F.WEN_ABORT_ID_HI_WR_ID : Fld := ⟨0, 32, .rw, .warm, 0⟩

/-- WEN_ABORT_STAT, Abort Status (11_remote_memory.md). -/
def R.WEN_ABORT_STAT : Nat := 0x40002C
def F.WEN_ABORT_STAT_BUSY : Fld := ⟨0, 1, .ro, .warm, 0⟩
def F.WEN_ABORT_STAT_RESULT : Fld := ⟨1, 2, .ro, .warm, 0⟩

/-- WEN_WIN_SEL, Window Select (11_remote_memory.md). -/
def R.WEN_WIN_SEL : Nat := 0x400100
def F.WEN_WIN_SEL_IDX : Fld := ⟨0, 16, .rw, .warm, 0⟩

/-- WEN_WIN_CTL, Window Control (11_remote_memory.md). -/
def R.WEN_WIN_CTL : Nat := 0x400104
def F.WEN_WIN_CTL_VALID : Fld := ⟨0, 1, .rw, .warm, 0⟩
def F.WEN_WIN_CTL_STATE : Fld := ⟨1, 2, .ro, .warm, 0⟩
def F.WEN_WIN_CTL_PERM_R : Fld := ⟨3, 1, .rw, .warm, 0⟩
def F.WEN_WIN_CTL_PERM_W : Fld := ⟨4, 1, .rw, .warm, 0⟩
def F.WEN_WIN_CTL_PERM_N : Fld := ⟨5, 1, .rw, .warm, 0⟩
def F.WEN_WIN_CTL_PF : Fld := ⟨6, 1, .rw, .warm, 0⟩
def F.WEN_WIN_CTL_LANE : Fld := ⟨7, 2, .rw, .warm, 0⟩

/-- WEN_WIN_OWNER, Window Owner (11_remote_memory.md). -/
def R.WEN_WIN_OWNER : Nat := 0x400108
def F.WEN_WIN_OWNER_HD : Fld := ⟨0, 4, .rw, .warm, 0⟩
def F.WEN_WIN_OWNER_PASID_EN : Fld := ⟨4, 1, .rw, .warm, 0⟩
def F.WEN_WIN_OWNER_PASID : Fld := ⟨5, 20, .rw, .warm, 0⟩

/-- WEN_WIN_PROT, Window Protection (11_remote_memory.md). -/
def R.WEN_WIN_PROT : Nat := 0x40010C
def F.WEN_WIN_PROT_PDOM : Fld := ⟨0, 12, .rw, .warm, 0⟩
def F.WEN_WIN_PROT_GEN : Fld := ⟨16, 8, .ro, .warm, 0⟩

/-- WEN_WIN_KEY, Window Key (11_remote_memory.md). -/
def R.WEN_WIN_KEY : Nat := 0x400110
def F.WEN_WIN_KEY_KEY : Fld := ⟨0, 32, .rw, .warm, 0⟩

/-- WEN_WIN_BASE_LO, Window Base (11_remote_memory.md). -/
def R.WEN_WIN_BASE_LO : Nat := 0x400114
def F.WEN_WIN_BASE_LO_BASE : Fld := ⟨12, 20, .rw, .warm, 0⟩

/-- WEN_WIN_BASE_HI, Window Base (11_remote_memory.md). -/
def R.WEN_WIN_BASE_HI : Nat := 0x400118
def F.WEN_WIN_BASE_HI_BASE : Fld := ⟨0, 32, .rw, .warm, 0⟩

/-- WEN_WIN_LEN_LO, Window Length (11_remote_memory.md). -/
def R.WEN_WIN_LEN_LO : Nat := 0x40011C
def F.WEN_WIN_LEN_LO_PAGES_M1 : Fld := ⟨0, 32, .rw, .warm, 0⟩

/-- WEN_WIN_LEN_HI, Window Length (11_remote_memory.md). -/
def R.WEN_WIN_LEN_HI : Nat := 0x400120
def F.WEN_WIN_LEN_HI_PAGES_M1 : Fld := ⟨0, 4, .rw, .warm, 0⟩

/-- WEN_WIN_CMD, Window Command (11_remote_memory.md). -/
def R.WEN_WIN_CMD : Nat := 0x400124
def F.WEN_WIN_CMD_OP : Fld := ⟨0, 2, .wo, .none, 0⟩
def F.WEN_WIN_CMD_RESULT : Fld := ⟨2, 2, .ro, .warm, 0⟩
def F.WEN_WIN_CMD_BUSY : Fld := ⟨4, 1, .ro, .warm, 0⟩
def F.WEN_WIN_CMD_CQ : Fld := ⟨16, 15, .rw, .warm, 32767⟩

/-- WEN_CTX_SEL, Context Select (11_remote_memory.md). -/
def R.WEN_CTX_SEL : Nat := 0x400200
def F.WEN_CTX_SEL_IDX : Fld := ⟨0, 16, .rw, .warm, 0⟩
def F.WEN_CTX_SEL_TYPE : Fld := ⟨16, 2, .rw, .warm, 0⟩
def F.WEN_CTX_SEL_REF : Fld := ⟨29, 1, .ro, .warm, 0⟩
def F.WEN_CTX_SEL_GO : Fld := ⟨30, 1, .wo, .none, 0⟩
def F.WEN_CTX_SEL_READ : Fld := ⟨31, 1, .wo, .none, 0⟩

/-- WEN_CTX_DATA_k, Context Data (11_remote_memory.md). -/
def R.WEN_CTX_DATA (k : Nat) : Nat := 0x400240 + k * 0x4
def F.WEN_CTX_DATA_DATA : Fld := ⟨0, 32, .rw, .warm, 0⟩

/-- WEN_AP_CFG, Aperture Configuration (11_remote_memory.md). -/
def R.WEN_AP_CFG : Nat := 0x400300
def F.WEN_AP_CFG_PF_DEPTH : Fld := ⟨0, 4, .rw, .warm, 2⟩
def F.WEN_AP_CFG_PF_AGE : Fld := ⟨4, 12, .rw, .warm, 10⟩

/-- WEN_AP_ERR_hh, Aperture Error (11_remote_memory.md). -/
def R.WEN_AP_ERR (h : Nat) : Nat := 0x400400 + h * 0x10
def F.WEN_AP_ERR_VALID : Fld := ⟨0, 1, .w1c, .flr, 0⟩
def F.WEN_AP_ERR_STATUS : Fld := ⟨1, 5, .ro, .flr, 0⟩
def F.WEN_AP_ERR_RANGE : Fld := ⟨6, 8, .ro, .flr, 0⟩
def F.WEN_AP_ERR_VEC : Fld := ⟨14, 5, .rw, .flr, 0⟩
def F.WEN_AP_ERR_COUNT : Fld := ⟨19, 13, .rc, .flr, 0⟩

/-- WEN_AP_ADDR_LO_hh, Aperture Error Address (11_remote_memory.md). -/
def R.WEN_AP_ADDR_LO (h : Nat) : Nat := 0x400404 + h * 0x10
def F.WEN_AP_ADDR_LO_ADDR : Fld := ⟨0, 32, .ro, .flr, 0⟩

/-- WEN_AP_ADDR_HI_hh, Aperture Error Address (11_remote_memory.md). -/
def R.WEN_AP_ADDR_HI (h : Nat) : Nat := 0x400408 + h * 0x10
def F.WEN_AP_ADDR_HI_ADDR : Fld := ⟨0, 32, .ro, .flr, 0⟩

/-- WEN_AP_CNT_hh, Aperture Counters (11_remote_memory.md). -/
def R.WEN_AP_CNT (h : Nat) : Nat := 0x40040C + h * 0x10
def F.WEN_AP_CNT_PF_DISC : Fld := ⟨0, 16, .rc, .warm, 0⟩
def F.WEN_AP_CNT_ACK_WAIT : Fld := ⟨16, 16, .rc, .warm, 0⟩

/-- SLC_s_CMD, Slice Command (12_slices_qos.md). -/
def R.SLC_CMD (s : Nat) : Nat := 0x500000 + s * 0x100
def F.SLC_CMD_OP : Fld := ⟨0, 4, .wo, .none, 0⟩
def F.SLC_CMD_FORCE : Fld := ⟨4, 1, .wo, .none, 0⟩

/-- SLC_s_STATE, Slice State (12_slices_qos.md). -/
def R.SLC_STATE (s : Nat) : Nat := 0x500004 + s * 0x100
def F.SLC_STATE_STATE : Fld := ⟨0, 3, .ro, .warm, 0⟩
def F.SLC_STATE_BUSY : Fld := ⟨3, 1, .ro, .warm, 0⟩
def F.SLC_STATE_ERR : Fld := ⟨4, 4, .ro, .warm, 0⟩
def F.SLC_STATE_RESETS : Fld := ⟨8, 8, .ro, .warm, 0⟩
def F.SLC_STATE_CAUSE : Fld := ⟨16, 2, .ro, .warm, 0⟩

/-- SLC_s_ID, Slice Identity and Identity Argument (12_slices_qos.md). -/
def R.SLC_ID (s : Nat) : Nat := 0x500008 + s * 0x100
def F.SLC_ID_HD : Fld := ⟨0, 4, .ro, .warm, 0⟩
def F.SLC_ID_PASID_EN : Fld := ⟨4, 1, .ro, .warm, 0⟩
def F.SLC_ID_PASID : Fld := ⟨5, 20, .ro, .warm, 0⟩

/-- SLC_s_ARG, Slice Identity and Identity Argument (12_slices_qos.md). -/
def R.SLC_ARG (s : Nat) : Nat := 0x50000C + s * 0x100
def F.SLC_ARG_HD : Fld := ⟨0, 4, .rw, .warm, 0⟩
def F.SLC_ARG_PASID_EN : Fld := ⟨4, 1, .rw, .warm, 0⟩
def F.SLC_ARG_PASID : Fld := ⟨5, 20, .rw, .warm, 0⟩

/-- SLC_s_Q_SRC, Slice Quotas (12_slices_qos.md). -/
def R.SLC_Q_SRC (s : Nat) : Nat := 0x500010 + s * 0x100
def F.SLC_Q_SRC_QUOTA : Fld := ⟨0, 20, .rw, .warm, 256⟩

/-- SLC_s_Q_INB, Slice Quotas (12_slices_qos.md). -/
def R.SLC_Q_INB (s : Nat) : Nat := 0x500014 + s * 0x100
def F.SLC_Q_INB_QUOTA : Fld := ⟨0, 20, .rw, .warm, 256⟩

/-- SLC_s_Q_CELL, Slice Quotas (12_slices_qos.md). -/
def R.SLC_Q_CELL (s : Nat) : Nat := 0x500018 + s * 0x100
def F.SLC_Q_CELL_QUOTA : Fld := ⟨0, 20, .rw, .warm, 4096⟩

/-- SLC_s_U_SRC, Slice Use (12_slices_qos.md). -/
def R.SLC_U_SRC (s : Nat) : Nat := 0x50001C + s * 0x100
def F.SLC_U_SRC_USE : Fld := ⟨0, 20, .ro, .warm, 0⟩

/-- SLC_s_U_INB, Slice Use (12_slices_qos.md). -/
def R.SLC_U_INB (s : Nat) : Nat := 0x500020 + s * 0x100
def F.SLC_U_INB_USE : Fld := ⟨0, 20, .ro, .warm, 0⟩

/-- SLC_s_U_CELL, Slice Use (12_slices_qos.md). -/
def R.SLC_U_CELL (s : Nat) : Nat := 0x500024 + s * 0x100
def F.SLC_U_CELL_USE : Fld := ⟨0, 20, .ro, .warm, 0⟩

/-- SLC_s_NCQ, Slice Notify Queue (12_slices_qos.md). -/
def R.SLC_NCQ (s : Nat) : Nat := 0x500028 + s * 0x100
def F.SLC_NCQ_NCQ : Fld := ⟨0, 15, .rw, .slice, 0⟩
def F.SLC_NCQ_EN : Fld := ⟨15, 1, .rw, .slice, 0⟩

/-- SLC_s_IRQ_i_ADDR_LO, Interrupt Entry Address (12_slices_qos.md). -/
def R.SLC_IRQ_ADDR_LO (s i : Nat) : Nat := 0x500040 + s * 0x100 + i * 0x10
def F.SLC_IRQ_ADDR_LO_ADDR : Fld := ⟨2, 30, .rw, .flr, 0⟩

/-- SLC_s_IRQ_i_ADDR_HI, Interrupt Entry Address (12_slices_qos.md). -/
def R.SLC_IRQ_ADDR_HI (s i : Nat) : Nat := 0x500044 + s * 0x100 + i * 0x10
def F.SLC_IRQ_ADDR_HI_ADDR : Fld := ⟨0, 32, .rw, .flr, 0⟩

/-- SLC_s_IRQ_i_DATA, Interrupt Entry Data (12_slices_qos.md). -/
def R.SLC_IRQ_DATA (s i : Nat) : Nat := 0x500048 + s * 0x100 + i * 0x10
def F.SLC_IRQ_DATA_DATA : Fld := ⟨0, 32, .rw, .flr, 0⟩

/-- SLC_s_IRQ_i_CTL, Interrupt Entry Control (12_slices_qos.md). -/
def R.SLC_IRQ_CTL (s i : Nat) : Nat := 0x50004C + s * 0x100 + i * 0x10
def F.SLC_IRQ_CTL_MASK : Fld := ⟨0, 1, .rw, .flr, 1⟩
def F.SLC_IRQ_CTL_PEND : Fld := ⟨1, 1, .ro, .slice, 0⟩

/-- SLC_s_CNT_DB, Slice Doorbell Counters (12_slices_qos.md). -/
def R.SLC_CNT_DB (s : Nat) : Nat := 0x500080 + s * 0x100
def F.SLC_CNT_DB_DB_BAD : Fld := ⟨0, 16, .rc, .slice, 0⟩
def F.SLC_CNT_DB_DB_OFF : Fld := ⟨16, 16, .rc, .slice, 0⟩

/-- SLC_s_CNT_POL, Slice Policer Drops (12_slices_qos.md). -/
def R.SLC_CNT_POL (s : Nat) : Nat := 0x500084 + s * 0x100
def F.SLC_CNT_POL_POL_DROP : Fld := ⟨0, 32, .rc, .slice, 0⟩

/-- SLC_s_CNT_IRQ, Slice Interrupt Counters (12_slices_qos.md). -/
def R.SLC_CNT_IRQ (s : Nat) : Nat := 0x500088 + s * 0x100
def F.SLC_CNT_IRQ_IRQ_LOST : Fld := ⟨0, 16, .rc, .slice, 0⟩
def F.SLC_CNT_IRQ_CPL_LOST : Fld := ⟨16, 16, .rc, .warm, 0⟩

/-- QOS_SHP_RATE_s, Shaper and Policer Rate (12_slices_qos.md). -/
def R.QOS_SHP_RATE (s : Nat) : Nat := 0x600000 + s * 0x10
def F.QOS_SHP_RATE_RATE : Fld := ⟨0, 16, .rw, .warm, 0⟩
def F.QOS_SHP_RATE_OVH : Fld := ⟨16, 8, .rw, .warm, 0⟩

/-- QOS_POL_RATE_s, Shaper and Policer Rate (12_slices_qos.md). -/
def R.QOS_POL_RATE (s : Nat) : Nat := 0x610000 + s * 0x10
def F.QOS_POL_RATE_RATE : Fld := ⟨0, 16, .rw, .warm, 0⟩
def F.QOS_POL_RATE_OVH : Fld := ⟨16, 8, .rw, .warm, 0⟩

/-- QOS_SHP_CFG_s, Shaper and Policer Configuration (12_slices_qos.md). -/
def R.QOS_SHP_CFG (s : Nat) : Nat := 0x600004 + s * 0x10
def F.QOS_SHP_CFG_BURST : Fld := ⟨0, 16, .rw, .warm, 0⟩
def F.QOS_SHP_CFG_EN : Fld := ⟨16, 1, .rw, .warm, 0⟩
def F.QOS_SHP_CFG_FILL : Fld := ⟨17, 1, .rw, .warm, 0⟩
def F.QOS_SHP_CFG_GO : Fld := ⟨31, 1, .wo, .none, 0⟩

/-- QOS_POL_CFG_s, Shaper and Policer Configuration (12_slices_qos.md). -/
def R.QOS_POL_CFG (s : Nat) : Nat := 0x610004 + s * 0x10
def F.QOS_POL_CFG_BURST : Fld := ⟨0, 16, .rw, .warm, 0⟩
def F.QOS_POL_CFG_EN : Fld := ⟨16, 1, .rw, .warm, 0⟩
def F.QOS_POL_CFG_FILL : Fld := ⟨17, 1, .rw, .warm, 0⟩
def F.QOS_POL_CFG_GO : Fld := ⟨31, 1, .wo, .none, 0⟩

/-- QOS_SHP_TOK_s, Shaper and Policer Tokens (12_slices_qos.md). -/
def R.QOS_SHP_TOK (s : Nat) : Nat := 0x600008 + s * 0x10
def F.QOS_SHP_TOK_TOKENS : Fld := ⟨0, 32, .ro, .slice, 0⟩

/-- QOS_POL_TOK_s, Shaper and Policer Tokens (12_slices_qos.md). -/
def R.QOS_POL_TOK (s : Nat) : Nat := 0x610008 + s * 0x10
def F.QOS_POL_TOK_TOKENS : Fld := ⟨0, 32, .ro, .slice, 0⟩

/-- GRD_FENCE, Guard Fence (13_access_control.md). -/
def R.GRD_FENCE : Nat := 0x80000
def F.GRD_FENCE_FENCE : Fld := ⟨0, 32, .ro, .none, 0⟩

/-- GRD_m_RGN_r_BASE, Region Base (13_access_control.md). -/
def R.GRD_RGN_BASE (m r : Nat) : Nat := 0x81000 + m * 0x100 + r * 0x8
def F.GRD_RGN_BASE_BASE : Fld := ⟨9, 17, .rw, .warm, 0⟩

/-- GRD_m_RGN_r_CFG, Region Configuration (13_access_control.md). -/
def R.GRD_RGN_CFG (m r : Nat) : Nat := 0x81004 + m * 0x100 + r * 0x8
def F.GRD_RGN_CFG_EN : Fld := ⟨0, 1, .rw, .warm, 0⟩
def F.GRD_RGN_CFG_SIZE : Fld := ⟨1, 5, .rw, .warm, 9⟩
def F.GRD_RGN_CFG_SRD : Fld := ⟨8, 8, .rw, .warm, 0⟩
def F.GRD_RGN_CFG_PR : Fld := ⟨16, 1, .rw, .warm, 0⟩
def F.GRD_RGN_CFG_PW : Fld := ⟨17, 1, .rw, .warm, 0⟩
def F.GRD_RGN_CFG_PX : Fld := ⟨18, 1, .rw, .warm, 0⟩
def F.GRD_RGN_CFG_UR : Fld := ⟨19, 1, .rw, .warm, 0⟩
def F.GRD_RGN_CFG_UW : Fld := ⟨20, 1, .rw, .warm, 0⟩
def F.GRD_RGN_CFG_UX : Fld := ⟨21, 1, .rw, .warm, 0⟩
def F.GRD_RGN_CFG_C_OK : Fld := ⟨22, 1, .rw, .warm, 0⟩
def F.GRD_RGN_CFG_O_REQ : Fld := ⟨23, 1, .rw, .warm, 1⟩

/-- GRD_GATE_k_RD, Gate Read Mask (13_access_control.md). -/
def R.GRD_GATE_RD (k : Nat) : Nat := 0x80100 + k * 0x10
def F.GRD_GATE_RD_RD : Fld := ⟨0, 32, .rw, .warm, 0⟩

/-- GRD_GATE_k_WR, Gate Write Mask (13_access_control.md). -/
def R.GRD_GATE_WR (k : Nat) : Nat := 0x80104 + k * 0x10
def F.GRD_GATE_WR_WR : Fld := ⟨0, 32, .rw, .warm, 0⟩

/-- GRD_GATE_k_CTL, Gate Control (13_access_control.md). -/
def R.GRD_GATE_CTL (k : Nat) : Nat := 0x80108 + k * 0x10
def F.GRD_GATE_CTL_PRIV : Fld := ⟨0, 1, .rw, .warm, 1⟩
def F.GRD_GATE_CTL_LOCK : Fld := ⟨1, 1, .w1s, .warm, 0⟩

/-- GRD_HR_p_RD, Rights Read Bitmap (13_access_control.md). -/
def R.GRD_HR_RD (p : Nat) : Nat := 0x80400 + p * 0x20
def F.GRD_HR_RD_RD : Fld := ⟨0, 17, .rw, .warm, 0⟩

/-- GRD_HR_p_WR, Rights Write Bitmap (13_access_control.md). -/
def R.GRD_HR_WR (p : Nat) : Nat := 0x80404 + p * 0x20
def F.GRD_HR_WR_WR : Fld := ⟨0, 17, .rw, .warm, 0⟩

/-- GRD_HR_p_WIN, Rights Window Range (13_access_control.md). -/
def R.GRD_HR_WIN (p : Nat) : Nat := 0x80408 + p * 0x20
def F.GRD_HR_WIN_WIN_BASE : Fld := ⟨0, 12, .rw, .warm, 0⟩
def F.GRD_HR_WIN_WIN_CNT : Fld := ⟨12, 13, .rw, .warm, 0⟩

/-- GRD_HR_p_QUE, Rights Queue Range (13_access_control.md). -/
def R.GRD_HR_QUE (p : Nat) : Nat := 0x8040C + p * 0x20
def F.GRD_HR_QUE_QUE_BASE : Fld := ⟨0, 12, .rw, .warm, 0⟩
def F.GRD_HR_QUE_QUE_CNT : Fld := ⟨12, 13, .rw, .warm, 0⟩

/-- GRD_VLOG_m, Violation Log (13_access_control.md). -/
def R.GRD_VLOG (m : Nat) : Nat := 0x80800 + m * 0x10
def F.GRD_VLOG_VALID : Fld := ⟨0, 1, .w1c, .warm, 0⟩
def F.GRD_VLOG_KIND : Fld := ⟨1, 3, .ro, .warm, 0⟩
def F.GRD_VLOG_INDEX : Fld := ⟨4, 5, .ro, .warm, 0⟩
def F.GRD_VLOG_ACC : Fld := ⟨9, 2, .ro, .warm, 0⟩
def F.GRD_VLOG_PRIV : Fld := ⟨11, 1, .ro, .warm, 0⟩

/-- GRD_VADDR_m, Violation Address (13_access_control.md). -/
def R.GRD_VADDR (m : Nat) : Nat := 0x80804 + m * 0x10
def F.GRD_VADDR_ADDR : Fld := ⟨0, 26, .ro, .warm, 0⟩

/-- GRD_VCNT_m, Violation Count (13_access_control.md). -/
def R.GRD_VCNT (m : Nat) : Nat := 0x80808 + m * 0x10
def F.GRD_VCNT_COUNT : Fld := ⟨0, 32, .rc, .warm, 0⟩

/-- FLT_CFG, Fault Configuration (14_faults.md). -/
def R.FLT_CFG : Nat := 0x20000
def F.FLT_CFG_S_TO : Fld := ⟨0, 10, .rw, .cold, 50⟩

/-- FLT_CFG2, Fault Configuration 2 (14_faults.md). -/
def R.FLT_CFG2 : Nat := 0x20004
def F.FLT_CFG2_QUIET : Fld := ⟨0, 14, .rw, .cold, 100⟩
def F.FLT_CFG2_REC_LIM : Fld := ⟨16, 8, .rw, .cold, 8⟩

/-- FLT_STAT, Fault Status (14_faults.md). -/
def R.FLT_STAT : Nat := 0x20008
def F.FLT_STAT_OPEN_S : Fld := ⟨0, 7, .ro, .warm, 0⟩
def F.FLT_STAT_REC_ACT : Fld := ⟨8, 7, .ro, .warm, 0⟩
def F.FLT_STAT_SAFE : Fld := ⟨15, 1, .ro, .warm, 0⟩
def F.FLT_STAT_SAFE_CAUSE : Fld := ⟨16, 3, .ro, .warm, 0⟩
def F.FLT_STAT_PAR : Fld := ⟨19, 1, .ro, .cold, 0⟩

/-- FLT_RING, Record Ring (14_faults.md). -/
def R.FLT_RING : Nat := 0x2000C
def F.FLT_RING_WR : Fld := ⟨0, 9, .ro, .cold, 0⟩
def F.FLT_RING_RD : Fld := ⟨16, 9, .rw, .cold, 0⟩

/-- FLT_ACK, Acknowledge (14_faults.md). -/
def R.FLT_ACK : Nat := 0x20010
def F.FLT_ACK_SEQ : Fld := ⟨0, 16, .wo, .none, 0⟩

/-- FLT_CNT, Fault Counters (14_faults.md). -/
def R.FLT_CNT : Nat := 0x20014
def F.FLT_CNT_REC_OVF : Fld := ⟨0, 16, .rc, .cold, 0⟩
def F.FLT_CNT_ACK_BAD : Fld := ⟨16, 16, .rc, .cold, 0⟩

/-- FLT_SAFE, Safe State Control (14_faults.md). -/
def R.FLT_SAFE : Nat := 0x20018
def F.FLT_SAFE_GO : Fld := ⟨0, 1, .wo, .none, 0⟩
def F.FLT_SAFE_SLOT_OFF : Fld := ⟨1, 1, .rw, .cold, 0⟩
def F.FLT_SAFE_KEY : Fld := ⟨16, 16, .wo, .none, 0⟩

/-- FLT_DOM_SEL, Domain Select (14_faults.md). -/
def R.FLT_DOM_SEL : Nat := 0x2001C
def F.FLT_DOM_SEL_INDEX : Fld := ⟨0, 12, .rw, .warm, 0⟩
def F.FLT_DOM_SEL_SCOPE : Fld := ⟨12, 3, .rw, .warm, 0⟩
def F.FLT_DOM_SEL_CLEAR : Fld := ⟨31, 1, .wo, .none, 0⟩

/-- FLT_DOM_STAT, Domain Status (14_faults.md). -/
def R.FLT_DOM_STAT : Nat := 0x20020
def F.FLT_DOM_STAT_STATE : Fld := ⟨0, 2, .ro, .cold, 0⟩
def F.FLT_DOM_STAT_RCNT : Fld := ⟨2, 8, .ro, .cold, 0⟩
def F.FLT_DOM_STAT_REMAIN : Fld := ⟨10, 14, .ro, .warm, 0⟩

/-- FLT_KIND_k, Kind Configuration (14_faults.md). -/
def R.FLT_KIND (k : Nat) : Nat := 0x20100 + k * 0x4
def F.FLT_KIND_MASK : Fld := ⟨0, 1, .rw, .cold, 0⟩
def F.FLT_KIND_NOESC : Fld := ⟨1, 1, .rw, .cold, 0⟩

/-- SLOT_SCss_BIND, Slot Binding (15_slot_power.md). -/
def R.SLOT_BIND (sc : Nat) : Nat := 0x70000 + sc * 0x40
def F.SLOT_BIND_EN : Fld := ⟨0, 1, .rw, .warm, 0⟩
def F.SLOT_BIND_PORT : Fld := ⟨1, 7, .rw, .warm, 0⟩

/-- SLOT_SCss_CFG, Slot Configuration (15_slot_power.md). -/
def R.SLOT_CFG (sc : Nat) : Nat := 0x70004 + sc * 0x40
def F.SLOT_CFG_PRI : Fld := ⟨0, 1, .rw, .warm, 0⟩
def F.SLOT_CFG_REVERT : Fld := ⟨1, 1, .rw, .warm, 0⟩
def F.SLOT_CFG_AUTO_ON : Fld := ⟨2, 1, .rw, .warm, 0⟩
def F.SLOT_CFG_FEED_A_EN : Fld := ⟨3, 1, .rw, .warm, 1⟩
def F.SLOT_CFG_FEED_B_EN : Fld := ⟨4, 1, .rw, .warm, 1⟩
def F.SLOT_CFG_PSN : Fld := ⟨5, 13, .rw, .warm, 0⟩

/-- SLOT_SCss_TIME, Slot Timing (15_slot_power.md). -/
def R.SLOT_TIME (sc : Nat) : Nat := 0x70008 + sc * 0x40
def F.SLOT_TIME_MIN_OFF : Fld := ⟨0, 10, .rw, .warm, 100⟩
def F.SLOT_TIME_PERST_DLY : Fld := ⟨10, 10, .rw, .warm, 100⟩
def F.SLOT_TIME_BBM : Fld := ⟨20, 7, .rw, .warm, 2⟩

/-- SLOT_SCss_TIME2, Slot Timing 2 (15_slot_power.md). -/
def R.SLOT_TIME2 (sc : Nat) : Nat := 0x7000C + sc * 0x40
def F.SLOT_TIME2_SS_TO : Fld := ⟨0, 8, .rw, .warm, 50⟩
def F.SLOT_TIME2_FEED_QUAL : Fld := ⟨8, 8, .rw, .warm, 10⟩
def F.SLOT_TIME2_PWRBRK_HOLD : Fld := ⟨16, 8, .rw, .warm, 10⟩
def F.SLOT_TIME2_PG_QUAL : Fld := ⟨24, 8, .rw, .warm, 10⟩

/-- SLOT_SCss_ILIM, Slot Current Limits (15_slot_power.md). -/
def R.SLOT_ILIM (sc : Nat) : Nat := 0x70010 + sc * 0x40
def F.SLOT_ILIM_FAST_TH : Fld := ⟨0, 10, .rw, .warm, 400⟩
def F.SLOT_ILIM_SLOW_TH : Fld := ⟨10, 10, .rw, .warm, 130⟩
def F.SLOT_ILIM_INRUSH : Fld := ⟨20, 10, .rw, .warm, 40⟩

/-- SLOT_SCss_ILIM2, Slot Trip Timing (15_slot_power.md). -/
def R.SLOT_ILIM2 (sc : Nat) : Nat := 0x70014 + sc * 0x40
def F.SLOT_ILIM2_SLOW_T : Fld := ⟨0, 10, .rw, .warm, 10⟩

/-- SLOT_SCss_VLIM, Slot Voltage Limits (15_slot_power.md). -/
def R.SLOT_VLIM (sc : Nat) : Nat := 0x70018 + sc * 0x40
def F.SLOT_VLIM_FEED_UV : Fld := ⟨0, 11, .rw, .warm, 1104⟩
def F.SLOT_VLIM_FEED_OV : Fld := ⟨11, 11, .rw, .warm, 1296⟩

/-- SLOT_SCss_VLIM2, Slot Voltage Limits 2 (15_slot_power.md). -/
def R.SLOT_VLIM2 (sc : Nat) : Nat := 0x7001C + sc * 0x40
def F.SLOT_VLIM2_PG_TH : Fld := ⟨0, 11, .rw, .warm, 1080⟩
def F.SLOT_VLIM2_OFF_TH : Fld := ⟨11, 11, .rw, .warm, 100⟩

/-- SLOT_SCss_STAT, Slot Status (15_slot_power.md). -/
def R.SLOT_STAT (sc : Nat) : Nat := 0x70020 + sc * 0x40
def F.SLOT_STAT_STATE : Fld := ⟨0, 3, .ro, .cold, 0⟩
def F.SLOT_STAT_FEED : Fld := ⟨3, 2, .ro, .cold, 0⟩
def F.SLOT_STAT_PRSNT : Fld := ⟨5, 1, .ro, .cold, 0⟩
def F.SLOT_STAT_PG : Fld := ⟨6, 1, .ro, .cold, 0⟩
def F.SLOT_STAT_PWRBRK : Fld := ⟨7, 1, .ro, .cold, 0⟩
def F.SLOT_STAT_PERST : Fld := ⟨8, 1, .ro, .cold, 1⟩
def F.SLOT_STAT_HELD : Fld := ⟨9, 1, .ro, .cold, 0⟩
def F.SLOT_STAT_A_GOOD : Fld := ⟨10, 1, .ro, .cold, 0⟩
def F.SLOT_STAT_B_GOOD : Fld := ⟨11, 1, .ro, .cold, 0⟩
def F.SLOT_STAT_BIND_ERR : Fld := ⟨12, 1, .ro, .warm, 0⟩
def F.SLOT_STAT_TRIP : Fld := ⟨13, 3, .ro, .cold, 0⟩
def F.SLOT_STAT_PDC_CNT : Fld := ⟨16, 8, .ro, .cold, 0⟩

/-- SLOT_SCss_MEAS_A, Slot Measurements (15_slot_power.md). -/
def R.SLOT_MEAS_A (sc : Nat) : Nat := 0x70024 + sc * 0x40
def F.SLOT_MEAS_A_VOLT : Fld := ⟨0, 11, .ro, .cold, 0⟩
def F.SLOT_MEAS_A_SHUNT : Fld := ⟨16, 10, .ro, .cold, 0⟩

/-- SLOT_SCss_MEAS_B, Slot Measurements (15_slot_power.md). -/
def R.SLOT_MEAS_B (sc : Nat) : Nat := 0x70028 + sc * 0x40
def F.SLOT_MEAS_B_VOLT : Fld := ⟨0, 11, .ro, .cold, 0⟩
def F.SLOT_MEAS_B_SHUNT : Fld := ⟨16, 10, .ro, .cold, 0⟩

/-- SLOT_SCss_MEAS_S, Slot Rail Measurement (15_slot_power.md). -/
def R.SLOT_MEAS_S (sc : Nat) : Nat := 0x7002C + sc * 0x40
def F.SLOT_MEAS_S_VSL : Fld := ⟨0, 11, .ro, .cold, 0⟩

/-- SLOT_SCss_CNT, Slot Counters (15_slot_power.md). -/
def R.SLOT_CNT (sc : Nat) : Nat := 0x70030 + sc * 0x40
def F.SLOT_CNT_TRIPS : Fld := ⟨0, 8, .rc, .cold, 0⟩
def F.SLOT_CNT_PG_FAIL : Fld := ⟨8, 8, .rc, .cold, 0⟩
def F.SLOT_CNT_SWITCHES : Fld := ⟨16, 8, .rc, .cold, 0⟩
def F.SLOT_CNT_DRAIN_TO : Fld := ⟨24, 8, .rc, .cold, 0⟩

/-- SLOT_SCss_CMD, Slot Command (15_slot_power.md). -/
def R.SLOT_CMD (sc : Nat) : Nat := 0x70034 + sc * 0x40
def F.SLOT_CMD_OP : Fld := ⟨0, 2, .wo, .none, 0⟩

/-- PWR_PD_CTL, Power Domain Control (16_power_clocks.md). -/
def R.PWR_PD_CTL : Nat := 0x10000
def F.PWR_PD_CTL_OFF4 : Fld := ⟨4, 1, .rw, .warm, 0⟩
def F.PWR_PD_CTL_OFF : Fld := ⟨26, 5, .rw, .warm, 0⟩

/-- PWR_PD_STAT, Power Domain Status (16_power_clocks.md). -/
def R.PWR_PD_STAT : Nat := 0x10004
def F.PWR_PD_STAT_ON : Fld := ⟨0, 32, .ro, .warm, 0⟩

/-- PWR_LP_STAT, Low-Power Status (16_power_clocks.md). -/
def R.PWR_LP_STAT : Nat := 0x10008
def F.PWR_LP_STAT_PD_REF : Fld := ⟨0, 1, .w1c, .warm, 0⟩
def F.PWR_LP_STAT_OFF_ACC : Fld := ⟨16, 16, .rc, .warm, 0⟩

/-- PWR_DUSK_CFG, Dusk Configuration (16_power_clocks.md). -/
def R.PWR_DUSK_CFG : Nat := 0x10010
def F.PWR_DUSK_CFG_IDLE : Fld := ⟨0, 14, .rw, .warm, 100⟩

/-- PWR_DUSK_EN_0, Dusk Enable (16_power_clocks.md). -/
def R.PWR_DUSK_EN_0 : Nat := 0x10014
def F.PWR_DUSK_EN_0_EN : Fld := ⟨0, 32, .rw, .warm, 0⟩

/-- PWR_DUSK_EN_1, Dusk Enable (16_power_clocks.md). -/
def R.PWR_DUSK_EN_1 : Nat := 0x10018
def F.PWR_DUSK_EN_1_EN : Fld := ⟨0, 4, .rw, .warm, 0⟩

/-- PWR_DUSK_STAT_0, Dusk Status (16_power_clocks.md). -/
def R.PWR_DUSK_STAT_0 : Nat := 0x1001C
def F.PWR_DUSK_STAT_0_DUSK : Fld := ⟨0, 32, .ro, .warm, 0⟩

/-- PWR_DUSK_STAT_1, Dusk Status (16_power_clocks.md). -/
def R.PWR_DUSK_STAT_1 : Nat := 0x10020
def F.PWR_DUSK_STAT_1_DUSK : Fld := ⟨0, 4, .ro, .warm, 0⟩

/-- PWR_NIGHT_CFG, Night Configuration (16_power_clocks.md). -/
def R.PWR_NIGHT_CFG : Nat := 0x10030
def F.PWR_NIGHT_CFG_IDLE : Fld := ⟨0, 12, .rw, .cold, 10⟩
def F.PWR_NIGHT_CFG_EN : Fld := ⟨16, 1, .rw, .cold, 0⟩
def F.PWR_NIGHT_CFG_GO : Fld := ⟨31, 1, .wo, .none, 0⟩

/-- PWR_NIGHT_ALARM, Night Alarm (16_power_clocks.md). -/
def R.PWR_NIGHT_ALARM : Nat := 0x10034
def F.PWR_NIGHT_ALARM_ALARM : Fld := ⟨0, 16, .rw, .cold, 0⟩

/-- PWR_NIGHT_KEEP, Night Retention (16_power_clocks.md). -/
def R.PWR_NIGHT_KEEP : Nat := 0x10038
def F.PWR_NIGHT_KEEP_KEEP : Fld := ⟨0, 16, .rw, .cold, 0⟩

/-- PWR_NIGHT_STAT, Night Status (16_power_clocks.md). -/
def R.PWR_NIGHT_STAT : Nat := 0x1003C
def F.PWR_NIGHT_STAT_REF : Fld := ⟨0, 3, .ro, .cold, 0⟩
def F.PWR_NIGHT_STAT_FAST : Fld := ⟨3, 1, .ro, .cold, 0⟩
def F.PWR_NIGHT_STAT_WAKE_SRC : Fld := ⟨4, 3, .ro, .cold, 0⟩
def F.PWR_NIGHT_STAT_STAGE_LAST : Fld := ⟨8, 4, .ro, .cold, 0⟩
def F.PWR_NIGHT_STAT_NIGHTS : Fld := ⟨16, 16, .ro, .cold, 0⟩

/-- PWR_PAD_HOLD, Pad Hold Status (16_power_clocks.md). -/
def R.PWR_PAD_HOLD : Nat := 0x10040
def F.PWR_PAD_HOLD_HELD : Fld := ⟨0, 4, .ro, .cold, 0⟩

/-- PWR_PAD_HOLD_RELEASE, Pad Hold Release (16_power_clocks.md). -/
def R.PWR_PAD_HOLD_RELEASE : Nat := 0x10044
def F.PWR_PAD_HOLD_RELEASE_RELEASE : Fld := ⟨0, 4, .wo, .none, 0⟩

/-- PWR_CLK_STAT, Clock Status (16_power_clocks.md). -/
def R.PWR_CLK_STAT : Nat := 0x10050
def F.PWR_CLK_STAT_GRP_LOCK : Fld := ⟨0, 16, .ro, .warm, 0⟩
def F.PWR_CLK_STAT_CORE_LOCK : Fld := ⟨16, 1, .ro, .warm, 0⟩

/-- SEC_MB_CMD, Mailbox Command (17_security.md). -/
def R.SEC_MB_CMD : Nat := 0x30000
def F.SEC_MB_CMD_OP : Fld := ⟨0, 8, .wo, .none, 0⟩

/-- SEC_MB_LEN, Mailbox Length (17_security.md). -/
def R.SEC_MB_LEN : Nat := 0x30004
def F.SEC_MB_LEN_LEN : Fld := ⟨0, 16, .rw, .warm, 0⟩

/-- SEC_MB_STAT, Mailbox Status (17_security.md). -/
def R.SEC_MB_STAT : Nat := 0x30008
def F.SEC_MB_STAT_BUSY : Fld := ⟨0, 1, .ro, .warm, 0⟩
def F.SEC_MB_STAT_STATUS : Fld := ⟨1, 3, .ro, .warm, 0⟩
def F.SEC_MB_STAT_REJ : Fld := ⟨4, 1, .w1c, .warm, 0⟩
def F.SEC_MB_STAT_OWNER : Fld := ⟨5, 5, .ro, .warm, 0⟩
def F.SEC_MB_STAT_OUT_LEN : Fld := ⟨16, 16, .ro, .warm, 0⟩

/-- SEC_STAT, Security State (17_security.md). -/
def R.SEC_STAT : Nat := 0x3000C
def F.SEC_STAT_SLOT : Fld := ⟨0, 2, .ro, .warm, 0⟩
def F.SEC_STAT_FLOOR : Fld := ⟨2, 7, .ro, .cold, 0⟩
def F.SEC_STAT_LAST_FAIL : Fld := ⟨9, 3, .ro, .cold, 0⟩
def F.SEC_STAT_PROV_LOCK : Fld := ⟨12, 1, .ro, .cold, 0⟩
def F.SEC_STAT_DEBUG_NEVER : Fld := ⟨13, 1, .ro, .cold, 0⟩

/-- SEC_SVN, Active Security Version (17_security.md). -/
def R.SEC_SVN : Nat := 0x30010
def F.SEC_SVN_SVN : Fld := ⟨0, 32, .ro, .warm, 0⟩

/-- SEC_KEYS, Key Slot State (17_security.md). -/
def R.SEC_KEYS : Nat := 0x30014
def F.SEC_KEYS_SLOT0 : Fld := ⟨0, 4, .ro, .cold, 0⟩
def F.SEC_KEYS_SLOT1 : Fld := ⟨4, 4, .ro, .cold, 0⟩
def F.SEC_KEYS_SLOT2 : Fld := ⟨8, 4, .ro, .cold, 0⟩
def F.SEC_KEYS_SLOT3 : Fld := ⟨12, 4, .ro, .cold, 0⟩

/-- SEC_DBG, Debug State (17_security.md). -/
def R.SEC_DBG : Nat := 0x30018
def F.SEC_DBG_PERM : Fld := ⟨0, 3, .ro, .warm, 0⟩

/-- SEC_MB_DATA_k, Mailbox Data (17_security.md). -/
def R.SEC_MB_DATA (k : Nat) : Nat := 0x38000 + k * 0x4
def F.SEC_MB_DATA_DATA : Fld := ⟨0, 32, .rw, .warm, 0⟩

/-- CHK_CMD, Command (18_check_values.md). -/
def R.CHK_CMD : Nat := 0x60000
def F.CHK_CMD_JOB : Fld := ⟨0, 4, .wo, .none, 0⟩
def F.CHK_CMD_OP : Fld := ⟨4, 2, .wo, .none, 0⟩

/-- CHK_STAT, Engine Status (18_check_values.md). -/
def R.CHK_STAT : Nat := 0x60004
def F.CHK_STAT_REF : Fld := ⟨0, 1, .w1c, .warm, 0⟩
def F.CHK_STAT_ABORT_RES : Fld := ⟨1, 2, .ro, .warm, 0⟩

/-- CHK_DONE, Done (18_check_values.md). -/
def R.CHK_DONE : Nat := 0x60008
def F.CHK_DONE_DONE : Fld := ⟨0, 16, .w1c, .warm, 0⟩

/-- CHK_JOB_j_ADDR_LO, Job Address (18_check_values.md). -/
def R.CHK_JOB_ADDR_LO (j : Nat) : Nat := 0x60100 + j * 0x20
def F.CHK_JOB_ADDR_LO_ADDR : Fld := ⟨0, 32, .rw, .warm, 0⟩

/-- CHK_JOB_j_ADDR_HI, Job Address (18_check_values.md). -/
def R.CHK_JOB_ADDR_HI (j : Nat) : Nat := 0x60104 + j * 0x20
def F.CHK_JOB_ADDR_HI_ADDR : Fld := ⟨0, 32, .rw, .warm, 0⟩

/-- CHK_JOB_j_LEN, Job Length (18_check_values.md). -/
def R.CHK_JOB_LEN (j : Nat) : Nat := 0x60108 + j * 0x20
def F.CHK_JOB_LEN_LEN : Fld := ⟨0, 32, .rw, .warm, 0⟩

/-- CHK_JOB_j_CFG, Job Configuration (18_check_values.md). -/
def R.CHK_JOB_CFG (j : Nat) : Nat := 0x6010C + j * 0x20
def F.CHK_JOB_CFG_POLY : Fld := ⟨0, 2, .rw, .warm, 0⟩
def F.CHK_JOB_CFG_SPACE : Fld := ⟨2, 1, .rw, .warm, 0⟩
def F.CHK_JOB_CFG_CMP : Fld := ⟨3, 1, .rw, .warm, 0⟩
def F.CHK_JOB_CFG_HD : Fld := ⟨4, 4, .rw, .warm, 0⟩
def F.CHK_JOB_CFG_PASID_EN : Fld := ⟨8, 1, .rw, .warm, 0⟩
def F.CHK_JOB_CFG_PASID : Fld := ⟨9, 20, .rw, .warm, 0⟩

/-- CHK_JOB_j_EXP_LO, Job Expected and Result (18_check_values.md). -/
def R.CHK_JOB_EXP_LO (j : Nat) : Nat := 0x60110 + j * 0x20
def F.CHK_JOB_EXP_LO_VALUE : Fld := ⟨0, 32, .rw, .warm, 0⟩

/-- CHK_JOB_j_EXP_HI, Job Expected and Result (18_check_values.md). -/
def R.CHK_JOB_EXP_HI (j : Nat) : Nat := 0x60114 + j * 0x20
def F.CHK_JOB_EXP_HI_VALUE : Fld := ⟨0, 32, .rw, .warm, 0⟩

/-- CHK_JOB_j_RES_LO, Job Expected and Result (18_check_values.md). -/
def R.CHK_JOB_RES_LO (j : Nat) : Nat := 0x60118 + j * 0x20
def F.CHK_JOB_RES_LO_VALUE : Fld := ⟨0, 32, .ro, .warm, 0⟩

/-- CHK_JOB_j_RES_HI, Job Expected and Result (18_check_values.md). -/
def R.CHK_JOB_RES_HI (j : Nat) : Nat := 0x6011C + j * 0x20
def F.CHK_JOB_RES_HI_VALUE : Fld := ⟨0, 32, .ro, .warm, 0⟩

/-- CHK_JSTAT_j, Job Status (18_check_values.md). -/
def R.CHK_JSTAT (j : Nat) : Nat := 0x60400 + j * 0x4
def F.CHK_JSTAT_STATE : Fld := ⟨0, 2, .ro, .warm, 0⟩
def F.CHK_JSTAT_RESULT : Fld := ⟨2, 3, .ro, .warm, 0⟩

/-- CHK_REC_r_ADDR_LO, Record Address (18_check_values.md). -/
def R.CHK_REC_ADDR_LO (r : Nat) : Nat := 0x60800 + r * 0x20
def F.CHK_REC_ADDR_LO_ADDR : Fld := ⟨2, 30, .rw, .warm, 0⟩

/-- CHK_REC_r_ADDR_HI, Record Address (18_check_values.md). -/
def R.CHK_REC_ADDR_HI (r : Nat) : Nat := 0x60804 + r * 0x20
def F.CHK_REC_ADDR_HI_ADDR : Fld := ⟨0, 32, .rw, .warm, 0⟩

/-- CHK_REC_r_CFG, Record Configuration (18_check_values.md). -/
def R.CHK_REC_CFG (r : Nat) : Nat := 0x60808 + r * 0x20
def F.CHK_REC_CFG_EN : Fld := ⟨0, 1, .rw, .warm, 0⟩
def F.CHK_REC_CFG_SPACE : Fld := ⟨1, 1, .rw, .warm, 0⟩
def F.CHK_REC_CFG_HD : Fld := ⟨2, 4, .rw, .warm, 0⟩
def F.CHK_REC_CFG_PERIOD : Fld := ⟨6, 10, .rw, .warm, 10⟩
def F.CHK_REC_CFG_MISS_LIM : Fld := ⟨16, 4, .rw, .warm, 3⟩

/-- CHK_REC_r_LAST, Record Last Alive (18_check_values.md). -/
def R.CHK_REC_LAST (r : Nat) : Nat := 0x6080C + r * 0x20
def F.CHK_REC_LAST_LAST : Fld := ⟨0, 32, .ro, .warm, 0⟩

/-- CHK_REC_r_STAT, Record Status (18_check_values.md). -/
def R.CHK_REC_STAT (r : Nat) : Nat := 0x60810 + r * 0x20
def F.CHK_REC_STAT_CHK_ERR : Fld := ⟨0, 1, .w1c, .warm, 0⟩
def F.CHK_REC_STAT_STALE : Fld := ⟨1, 1, .w1c, .warm, 0⟩
def F.CHK_REC_STAT_MISSES : Fld := ⟨2, 4, .ro, .warm, 0⟩

/-- TEL_CFG, Telemetry Configuration (19_telemetry.md). -/
def R.TEL_CFG : Nat := 0x50000
def F.TEL_CFG_INTERVAL : Fld := ⟨0, 20, .rw, .warm, 100⟩
def F.TEL_CFG_EN : Fld := ⟨20, 1, .rw, .warm, 0⟩

/-- TEL_STAT, Telemetry Status (19_telemetry.md). -/
def R.TEL_STAT : Nat := 0x50004
def F.TEL_STAT_BUSY : Fld := ⟨0, 1, .ro, .warm, 0⟩
def F.TEL_STAT_SKIP : Fld := ⟨16, 16, .rc, .warm, 0⟩

/-- TEL_SPOOR_CFG, Spoor Configuration (19_telemetry.md). -/
def R.TEL_SPOOR_CFG : Nat := 0x50010
def F.TEL_SPOOR_CFG_NM1 : Fld := ⟨0, 24, .rw, .warm, 0⟩
def F.TEL_SPOOR_CFG_EN : Fld := ⟨24, 1, .rw, .warm, 0⟩

/-- TEL_SPOOR_DENS, Spoor Dens (19_telemetry.md). -/
def R.TEL_SPOOR_DENS : Nat := 0x50014
def F.TEL_SPOOR_DENS_DENS : Fld := ⟨0, 16, .rw, .warm, 0⟩

/-- TEL_SPOOR_CNT, Spoor Counters (19_telemetry.md). -/
def R.TEL_SPOOR_CNT : Nat := 0x50018
def F.TEL_SPOOR_CNT_LOST : Fld := ⟨0, 16, .rc, .warm, 0⟩
def F.TEL_SPOOR_CNT_RECORDS : Fld := ⟨16, 16, .rc, .warm, 0⟩

/-- TEL_RING_r_CFG, Ring Configuration (19_telemetry.md). -/
def R.TEL_RING_CFG (r : Nat) : Nat := 0x50040 + r * 0x8
def F.TEL_RING_CFG_BASE : Fld := ⟨0, 12, .rw, .warm, 0⟩
def F.TEL_RING_CFG_LOG : Fld := ⟨12, 4, .rw, .warm, 0⟩
def F.TEL_RING_CFG_ERR : Fld := ⟨16, 1, .ro, .warm, 0⟩

/-- TEL_RING_r_PTR, Ring Pointers (19_telemetry.md). -/
def R.TEL_RING_PTR (r : Nat) : Nat := 0x50044 + r * 0x8
def F.TEL_RING_PTR_WR : Fld := ⟨0, 16, .ro, .warm, 0⟩
def F.TEL_RING_PTR_RD : Fld := ⟨16, 16, .rw, .warm, 0⟩

/-- TEL_CTR_b_i_SEL, Counter Select (19_telemetry.md). -/
def R.TEL_CTR_SEL (b i : Nat) : Nat := 0x51000 + b * 0x100 + i * 0x4
def F.TEL_CTR_SEL_EVENT : Fld := ⟨0, 8, .rw, .warm, 0⟩
def F.TEL_CTR_SEL_QUAL : Fld := ⟨8, 12, .rw, .warm, 0⟩
def F.TEL_CTR_SEL_ALL : Fld := ⟨20, 1, .rw, .warm, 0⟩
def F.TEL_CTR_SEL_ENA : Fld := ⟨21, 1, .rw, .warm, 0⟩
def F.TEL_CTR_SEL_BAD : Fld := ⟨22, 1, .ro, .warm, 0⟩

/-- GLB_ID, Device Identification (20_management_registers.md). -/
def R.GLB_ID : Nat := 0x0
def F.GLB_ID_PART : Fld := ⟨0, 16, .ro, .cold, 62038⟩
def F.GLB_ID_STEP : Fld := ⟨16, 8, .ro, .cold, 177⟩

/-- SETT_VIEW, Sett View Select (20_management_registers.md). -/
def R.SETT_VIEW : Nat := 0x200040
def F.SETT_VIEW_BANK : Fld := ⟨0, 6, .rw, .warm, 0⟩
def F.SETT_VIEW_PART : Fld := ⟨6, 2, .rw, .warm, 0⟩

/-- MGT_RING_CTL_hh, Ring Control (20_management_registers.md). -/
def R.MGT_RING_CTL (h : Nat) : Nat := 0x40000 + h * 0x40
def F.MGT_RING_CTL_EN : Fld := ⟨0, 1, .rw, .flr, 0⟩
def F.MGT_RING_CTL_CMD_LOG : Fld := ⟨1, 4, .rw, .flr, 0⟩
def F.MGT_RING_CTL_RSP_LOG : Fld := ⟨5, 4, .rw, .flr, 0⟩
def F.MGT_RING_CTL_EVT_LOG : Fld := ⟨9, 4, .rw, .flr, 0⟩
def F.MGT_RING_CTL_RSP_VEC : Fld := ⟨13, 5, .rw, .flr, 0⟩
def F.MGT_RING_CTL_EVT_VEC : Fld := ⟨18, 5, .rw, .flr, 0⟩

/-- MGT_CMD_BASE_LO_hh, Ring Bases (20_management_registers.md). -/
def R.MGT_CMD_BASE_LO (h : Nat) : Nat := 0x40004 + h * 0x40
def F.MGT_CMD_BASE_LO_BASE : Fld := ⟨12, 20, .rw, .flr, 0⟩

/-- MGT_CMD_BASE_HI_hh, Ring Bases (20_management_registers.md). -/
def R.MGT_CMD_BASE_HI (h : Nat) : Nat := 0x40008 + h * 0x40
def F.MGT_CMD_BASE_HI_BASE : Fld := ⟨0, 32, .rw, .flr, 0⟩

/-- MGT_RSP_BASE_LO_hh, Ring Bases (20_management_registers.md). -/
def R.MGT_RSP_BASE_LO (h : Nat) : Nat := 0x4000C + h * 0x40
def F.MGT_RSP_BASE_LO_BASE : Fld := ⟨12, 20, .rw, .flr, 0⟩

/-- MGT_RSP_BASE_HI_hh, Ring Bases (20_management_registers.md). -/
def R.MGT_RSP_BASE_HI (h : Nat) : Nat := 0x40010 + h * 0x40
def F.MGT_RSP_BASE_HI_BASE : Fld := ⟨0, 32, .rw, .flr, 0⟩

/-- MGT_EVT_BASE_LO_hh, Ring Bases (20_management_registers.md). -/
def R.MGT_EVT_BASE_LO (h : Nat) : Nat := 0x40014 + h * 0x40
def F.MGT_EVT_BASE_LO_BASE : Fld := ⟨12, 20, .rw, .flr, 0⟩

/-- MGT_EVT_BASE_HI_hh, Ring Bases (20_management_registers.md). -/
def R.MGT_EVT_BASE_HI (h : Nat) : Nat := 0x40018 + h * 0x40
def F.MGT_EVT_BASE_HI_BASE : Fld := ⟨0, 32, .rw, .flr, 0⟩

/-- MGT_CMD_IDX_hh, Ring Indices (20_management_registers.md). -/
def R.MGT_CMD_IDX (h : Nat) : Nat := 0x4001C + h * 0x40
def F.MGT_CMD_IDX_PI : Fld := ⟨0, 16, .rw, .flr, 0⟩
def F.MGT_CMD_IDX_CI : Fld := ⟨16, 16, .ro, .flr, 0⟩

/-- MGT_RSP_IDX_hh, Ring Indices (20_management_registers.md). -/
def R.MGT_RSP_IDX (h : Nat) : Nat := 0x40020 + h * 0x40
def F.MGT_RSP_IDX_PI : Fld := ⟨0, 16, .ro, .flr, 0⟩
def F.MGT_RSP_IDX_CI : Fld := ⟨16, 16, .rw, .flr, 0⟩

/-- MGT_EVT_IDX_hh, Ring Indices (20_management_registers.md). -/
def R.MGT_EVT_IDX (h : Nat) : Nat := 0x40024 + h * 0x40
def F.MGT_EVT_IDX_PI : Fld := ⟨0, 16, .ro, .flr, 0⟩
def F.MGT_EVT_IDX_CI : Fld := ⟨16, 16, .rw, .flr, 0⟩

/-- MGT_RING_STAT_hh, Ring Status (20_management_registers.md). -/
def R.MGT_RING_STAT (h : Nat) : Nat := 0x40028 + h * 0x40
def F.MGT_RING_STAT_BUSY : Fld := ⟨0, 1, .ro, .flr, 0⟩
def F.MGT_RING_STAT_IDX_ERR : Fld := ⟨1, 1, .w1c, .flr, 0⟩
def F.MGT_RING_STAT_DMA_ERR : Fld := ⟨2, 1, .w1c, .flr, 0⟩

/-- MGT_FW_CFG, Firmware Queue Configuration (20_management_registers.md). -/
def R.MGT_FW_CFG : Nat := 0x40800
def F.MGT_FW_CFG_BASE : Fld := ⟨0, 12, .rw, .warm, 0⟩
def F.MGT_FW_CFG_LOG : Fld := ⟨12, 4, .rw, .warm, 5⟩
def F.MGT_FW_CFG_TO : Fld := ⟨16, 10, .rw, .warm, 100⟩
def F.MGT_FW_CFG_EN : Fld := ⟨26, 1, .rw, .warm, 0⟩

/-- MGT_FW_IDX, Firmware Queue Indices (20_management_registers.md). -/
def R.MGT_FW_IDX : Nat := 0x40804
def F.MGT_FW_IDX_WR : Fld := ⟨0, 16, .ro, .warm, 0⟩
def F.MGT_FW_IDX_RD : Fld := ⟨16, 16, .rw, .warm, 0⟩

/-- MGT_FW_POST, Firmware Post (20_management_registers.md). -/
def R.MGT_FW_POST : Nat := 0x40808
def F.MGT_FW_POST_PATH : Fld := ⟨0, 5, .rw, .warm, 0⟩
def F.MGT_FW_POST_KIND : Fld := ⟨5, 1, .rw, .warm, 0⟩
def F.MGT_FW_POST_GO : Fld := ⟨31, 1, .wo, .none, 0⟩

/-- MGT_FW_STAT, Firmware Status (20_management_registers.md). -/
def R.MGT_FW_STAT : Nat := 0x4080C
def F.MGT_FW_STAT_POST_ERR : Fld := ⟨0, 1, .w1c, .warm, 0⟩
def F.MGT_FW_STAT_FAB_DROP : Fld := ⟨8, 8, .rc, .warm, 0⟩
def F.MGT_FW_STAT_FW_LATE : Fld := ⟨16, 16, .rc, .warm, 0⟩

/-- MGT_FLASH_EN, Flash Permission (20_management_registers.md). -/
def R.MGT_FLASH_EN : Nat := 0x40810
def F.MGT_FLASH_EN_EN : Fld := ⟨0, 16, .rw, .warm, 0⟩

/-- MGT_FW_DATA_k, Firmware Data k (20_management_registers.md). -/
def R.MGT_FW_DATA (k : Nat) : Nat := 0x40840 + k * 0x4
def F.MGT_FW_DATA_DATA : Fld := ⟨0, 32, .rw, .warm, 0⟩

/-- MGT_FAB_HOST, Fabric Manager Host (20_management_registers.md). -/
def R.MGT_FAB_HOST : Nat := 0x41020
def F.MGT_FAB_HOST_HD : Fld := ⟨0, 4, .rw, .warm, 0⟩
def F.MGT_FAB_HOST_EN : Fld := ⟨4, 1, .rw, .warm, 0⟩

def rowsGLB : List Row := [
  ⟨0x10, [], [F.GLB_MODE_CUR, F.GLB_MODE_PREV, F.GLB_MODE_REQ, F.GLB_MODE_GO, F.GLB_MODE_STATE, F.GLB_MODE_REASON]⟩,
  ⟨0x14, [], [F.GLB_STRAP_BOOT, F.GLB_STRAP_FLASH, F.GLB_STRAP_I3C]⟩,
  ⟨0x18, [], [F.GLB_BOOT_STATUS_ACTIVE_IMG, F.GLB_BOOT_STATUS_A_RESULT, F.GLB_BOOT_STATUS_B_RESULT, F.GLB_BOOT_STATUS_CAUSE, F.GLB_BOOT_STATUS_CONFIRMED, F.GLB_BOOT_STATUS_REC]⟩,
  ⟨0x1C, [], [F.GLB_BOOT_CONFIRM_CONFIRM, F.GLB_BOOT_CONFIRM_TIMEOUT, F.GLB_BOOT_CONFIRM_REMAIN]⟩,
  ⟨0x20, [], [F.GLB_RESET_WARM, F.GLB_RESET_COLD, F.GLB_RESET_KEY]⟩,
  ⟨0x24, [], [F.GLB_GRP_RESET_GRP]⟩,
  ⟨0x100, [(0x10, 16)], [F.GLB_HD_CFG_EN, F.GLB_HD_CFG_UP_PORT, F.GLB_HD_CFG_APP_SZ, F.GLB_HD_CFG_APN_SZ]⟩,
  ⟨0x104, [(0x10, 16)], [F.GLB_HD_STAT_STATE, F.GLB_HD_STAT_BME, F.GLB_HD_STAT_EN_ERR, F.GLB_HD_STAT_FLR_CTO, F.GLB_HD_STAT_DB_FOREIGN]⟩,
  ⟨0x108, [(0x10, 16)], [F.GLB_HD_CNT_BME_DISC, F.GLB_HD_CNT_EVT_OVF]⟩,
  ⟨0x10C, [(0x10, 16)], [F.GLB_HD_CNT2_YIELDS, F.GLB_HD_CNT2_FLR_DISC]⟩,
  ⟨0x200, [], [F.GLB_AP_YIELD_YIELD_TO]⟩,
  ⟨0x0, [], [F.GLB_ID_PART, F.GLB_ID_STEP]⟩]

def rowsGRP : List Row := [
  ⟨0x100000, [(0x10000, 16), (0x4, 8)], [F.GRP_PORT_CFG_EN, F.GRP_PORT_CFG_MODE, F.GRP_PORT_CFG_WIDTH, F.GRP_PORT_CFG_FIRST, F.GRP_PORT_CFG_MAXRATE]⟩,
  ⟨0x100040, [(0x10000, 16), (0x4, 17)], [F.GRP_LANE_CTL_OFF, F.GRP_LANE_CTL_POL, F.GRP_LANE_CTL_LOCK, F.GRP_LANE_CTL_ALIGNED, F.GRP_LANE_CTL_POS, F.GRP_LANE_CTL_RATE, F.GRP_LANE_CTL_EQ_SRC, F.GRP_LANE_CTL_EQ_REJ]⟩,
  ⟨0x1000C0, [(0x10000, 16), (0x4, 17)], [F.GRP_LANE_ERR_LCV, F.GRP_LANE_ERR_ATTR, F.GRP_LANE_ERR_SWAP_REQ]⟩,
  ⟨0x100140, [(0x10000, 16), (0x4, 17)], [F.GRP_LANE_PSE_PSE]⟩,
  ⟨0x1001A4, [(0x10000, 16)], [F.GRP_LANE_STAT_CFG_ERR, F.GRP_LANE_STAT_SPARE_STATE, F.GRP_LANE_STAT_SPARE_LANE, F.GRP_LANE_STAT_SPARE_PORT, F.GRP_LANE_STAT_CMD_REF, F.GRP_LANE_STAT_SWAPS, F.GRP_LANE_STAT_EQ_BAD]⟩,
  ⟨0x1001A0, [(0x10000, 16)], [F.GRP_ERR_CFG_WIN, F.GRP_ERR_CFG_HARD_TH, F.GRP_ERR_CFG_PSE_BAND, F.GRP_ERR_CFG_PSE_TH_EXP, F.GRP_ERR_CFG_AUTO_SWAP, F.GRP_ERR_CFG_PSE_EN]⟩,
  ⟨0x1001A8, [(0x10000, 16)], [F.GRP_SPARE_CMD_LANE, F.GRP_SPARE_CMD_GO]⟩,
  ⟨0x1001AC, [(0x10000, 16)], [F.GRP_BRING_CFG_VERIFY, F.GRP_BRING_CFG_ALIGN_TO]⟩,
  ⟨0x1001C0, [(0x10000, 16)], [F.GRP_EYE_CTL_LANE, F.GRP_EYE_CTL_EYE, F.GRP_EYE_CTL_PHASE, F.GRP_EYE_CTL_VOLT, F.GRP_EYE_CTL_DWELL, F.GRP_EYE_CTL_GO]⟩,
  ⟨0x1001C4, [(0x10000, 16)], [F.GRP_EYE_RES_ERRS, F.GRP_EYE_RES_DONE, F.GRP_EYE_RES_BUSY, F.GRP_EYE_RES_REFUSED]⟩,
  ⟨0x1001D0, [(0x10000, 16)], [F.GRP_EQ_OVR0_LANE, F.GRP_EQ_OVR0_RATE, F.GRP_EQ_OVR0_EN]⟩,
  ⟨0x1001D4, [(0x10000, 16)], [F.GRP_EQ_OVR1_PRE2, F.GRP_EQ_OVR1_PRE1, F.GRP_EQ_OVR1_MAIN, F.GRP_EQ_OVR1_POST1]⟩,
  ⟨0x1001D8, [(0x10000, 16)], [F.GRP_EQ_OVR2_PRESET, F.GRP_EQ_OVR2_CTLE, F.GRP_EQ_OVR2_VGA, F.GRP_EQ_OVR2_DFE1]⟩,
  ⟨0x1001DC, [(0x10000, 16)], [F.GRP_EQ_OVR3_DFE2, F.GRP_EQ_OVR3_DFE3, F.GRP_EQ_OVR3_CDR]⟩]

def rowsGRP_LINK : List Row := [
  ⟨0x100400, [(0x10000, 16), (0x40, 8)], [F.GRP_LINK_CTL_CRD_TO, F.GRP_LINK_CTL_REPLAY_TO, F.GRP_LINK_CTL_RT_LIM]⟩,
  ⟨0x100404, [(0x10000, 16), (0x40, 8)], [F.GRP_LINK_CRD_REQ_UNITS, F.GRP_LINK_CRD_RSP_UNITS]⟩,
  ⟨0x100408, [(0x10000, 16), (0x40, 8)], [F.GRP_LINK_CMD_OP]⟩,
  ⟨0x10040C, [(0x10000, 16), (0x40, 8)], [F.GRP_LINK_STAT_STATE, F.GRP_LINK_STAT_WIDTH, F.GRP_LINK_STAT_RATE, F.GRP_LINK_STAT_EXCL, F.GRP_LINK_STAT_CAUSE, F.GRP_LINK_STAT_LEADER, F.GRP_LINK_STAT_CMD_REF]⟩,
  ⟨0x100410, [(0x10000, 16), (0x40, 8)], [F.GRP_LINK_SEQ_TX_NEXT, F.GRP_LINK_SEQ_TX_ACK]⟩,
  ⟨0x100414, [(0x10000, 16), (0x40, 8)], [F.GRP_LINK_RX_RX_NEXT, F.GRP_LINK_RX_NAK_PEND, F.GRP_LINK_RX_CTL_CRD]⟩,
  ⟨0x100418, [(0x10000, 16), (0x40, 8)], [F.GRP_LINK_CRDS_REQ_CRD, F.GRP_LINK_CRDS_RSP_CRD]⟩,
  ⟨0x10041C, [(0x10000, 16), (0x40, 8)], [F.GRP_LINK_PEER_PEER_ID, F.GRP_LINK_PEER_PEER_PORT]⟩,
  ⟨0x100420, [(0x10000, 16), (0x40, 8)], [F.GRP_LINK_ERR_CRC_ERR, F.GRP_LINK_ERR_SEQ_DROP]⟩,
  ⟨0x100424, [(0x10000, 16), (0x40, 8)], [F.GRP_LINK_RPL_REPLAYS, F.GRP_LINK_RPL_DUPS, F.GRP_LINK_RPL_RETRAINS]⟩]

def rowsGRP_PCIE : List Row := [
  ⟨0x100800, [(0x10000, 16), (0x40, 8)], [F.GRP_PCIE_CFG_HD, F.GRP_PCIE_CFG_SHARED, F.GRP_PCIE_CFG_VDEV]⟩,
  ⟨0x100804, [(0x10000, 16), (0x40, 8)], [F.GRP_PCIE_CMD_OP]⟩,
  ⟨0x100808, [(0x10000, 16), (0x40, 8)], [F.GRP_PCIE_STAT_UP, F.GRP_PCIE_STAT_ROLE, F.GRP_PCIE_STAT_HD_ACT, F.GRP_PCIE_STAT_VDEV_ACT, F.GRP_PCIE_STAT_RATE, F.GRP_PCIE_STAT_WIDTH, F.GRP_PCIE_STAT_FLIT, F.GRP_PCIE_STAT_DPC, F.GRP_PCIE_STAT_CFG_ERR]⟩,
  ⟨0x10080C, [(0x10000, 16), (0x40, 8)], [F.GRP_PCIE_CTO_TO]⟩,
  ⟨0x100810, [(0x10000, 16), (0x40, 8)], [F.GRP_PCIE_CNT_UR_SENT, F.GRP_PCIE_CNT_UNEXP_CPL]⟩,
  ⟨0x100814, [(0x10000, 16), (0x40, 8)], [F.GRP_PCIE_CNT2_CTO_SYN, F.GRP_PCIE_CNT2_IDE_DROP]⟩]

def rowsSETT : List Row := [
  ⟨0x200000, [], [F.SETT_CFG_QTR_EN, F.SETT_CFG_CT_DIS]⟩,
  ⟨0x200004, [], [F.SETT_STAT_FREE, F.SETT_STAT_QTR_ON]⟩,
  ⟨0x200008, [], [F.SETT_ERR_REREAD_OK, F.SETT_ERR_POISONED, F.SETT_ERR_CT_ABORT, F.SETT_ERR_RETIRED, F.SETT_ERR_MC_PCIE]⟩,
  ⟨0x20000C, [], [F.SETT_CTW_CT_WAIT]⟩,
  ⟨0x200010, [], [F.SETT_BANK_OUT_0_OUT]⟩,
  ⟨0x200014, [], [F.SETT_BANK_OUT_1_OUT]⟩,
  ⟨0x200020, [], [F.SETT_POOL_HEADROOM]⟩,
  ⟨0x200030, [], [F.SETT_MIRROR_NM1, F.SETT_MIRROR_EN, F.SETT_MIRROR_ALL, F.SETT_MIRROR_JITTER]⟩,
  ⟨0x200034, [], [F.SETT_MIRROR_CNT_QDEPTH, F.SETT_MIRROR_CNT_SENT, F.SETT_MIRROR_CNT_DROP]⟩,
  ⟨0x201000, [(0x4, 128)], [F.SETT_PCFG_IN_RES]⟩,
  ⟨0x202000, [(0x10, 128)], [F.SETT_SCHED_STRICT]⟩,
  ⟨0x202004, [(0x10, 128)], [F.SETT_SCHED_Q0_T0, F.SETT_SCHED_Q0_T1, F.SETT_SCHED_Q0_T2, F.SETT_SCHED_Q0_T3]⟩,
  ⟨0x202008, [(0x10, 128)], [F.SETT_SCHED_Q1_T4, F.SETT_SCHED_Q1_T5, F.SETT_SCHED_Q1_T6, F.SETT_SCHED_Q1_T7]⟩,
  ⟨0x204000, [(0x8, 1024)], [F.SETT_QCFG_MIN, F.SETT_QCFG_DYN]⟩,
  ⟨0x204004, [(0x8, 1024)], [F.SETT_QCFG2_MARK_TH]⟩,
  ⟨0x206000, [(0x4, 1024)], [F.SETT_QSTAT_DEPTH, F.SETT_QSTAT_DROPS]⟩,
  ⟨0x208000, [(0x10, 256), (0x4, 4)], [F.SETT_MCSET_MEMB]⟩,
  ⟨0x200040, [], [F.SETT_VIEW_BANK, F.SETT_VIEW_PART]⟩]

def rowsDEN : List Row := [
  ⟨0x300000, [(0x10000, 16), (0x100, 2), (0x4, 64)], [F.DEN_VEC_ENTRY, F.DEN_VEC_EN]⟩,
  ⟨0x300200, [(0x10000, 16)], [F.DEN_PROG_CTL_SEL]⟩,
  ⟨0x300204, [(0x10000, 16)], [F.DEN_PROG_STAT_OLD_JOBS, F.DEN_PROG_STAT_DRAINED, F.DEN_PROG_STAT_RUNNING]⟩,
  ⟨0x300208, [(0x10000, 16), (0x4, 2)], [F.DEN_REGION_LO, F.DEN_REGION_HI]⟩,
  ⟨0x300210, [(0x10000, 16)], [F.DEN_PORT_CLS_ALT]⟩,
  ⟨0x300214, [(0x10000, 16)], [F.DEN_EXC_CFG_LIMIT, F.DEN_EXC_CFG_ACT]⟩,
  ⟨0x300218, [(0x10000, 16)], [F.DEN_EXC_STAT_CODE, F.DEN_EXC_STAT_PC, F.DEN_EXC_STAT_FOX, F.DEN_EXC_STAT_THREAD, F.DEN_EXC_STAT_VALID]⟩,
  ⟨0x30021C, [(0x10000, 16)], [F.DEN_EXC_CNT_COUNT]⟩,
  ⟨0x300220, [(0x10000, 16)], [F.DEN_HQ_STAT_DEPTH, F.DEN_HQ_STAT_HWM]⟩,
  ⟨0x300224, [(0x10000, 16)], [F.DEN_JOB_CNT_JOBS]⟩,
  ⟨0x300228, [(0x10000, 16)], [F.DEN_JOB_CYC_ISSUED]⟩,
  ⟨0x30022C, [(0x10000, 16)], [F.DEN_DROP_CNT_NODEC, F.DEN_DROP_CNT_NOPORT, F.DEN_DROP_CNT_CPL_BAD]⟩,
  ⟨0x300230, [(0x10000, 16)], [F.DEN_TRAP_CNT_TRAPS, F.DEN_TRAP_CNT_QFULL]⟩,
  ⟨0x300234, [(0x10000, 16)], [F.DEN_ECC_CNT_SGL, F.DEN_ECC_CNT_DBL]⟩,
  ⟨0x300300, [(0x10000, 16)], [F.DEN_MTR_IDX_IDX, F.DEN_MTR_IDX_UNL, F.DEN_MTR_IDX_READ, F.DEN_MTR_IDX_GO]⟩,
  ⟨0x300304, [(0x10000, 16)], [F.DEN_MTR_RATE_CIR, F.DEN_MTR_RATE_PIR]⟩,
  ⟨0x300308, [(0x10000, 16)], [F.DEN_MTR_BURST_CBS, F.DEN_MTR_BURST_PBS]⟩,
  ⟨0x300310, [(0x10000, 16)], [F.DEN_CTR_IDX_IDX, F.DEN_CTR_IDX_CLR, F.DEN_CTR_IDX_SNAP]⟩,
  ⟨0x300314, [(0x10000, 16)], [F.DEN_CTR_PKT_LO_PKT_LO]⟩,
  ⟨0x300318, [(0x10000, 16)], [F.DEN_CTR_PKT_HI_PKT_HI]⟩,
  ⟨0x30031C, [(0x10000, 16)], [F.DEN_CTR_BYT_LO_BYT_LO]⟩,
  ⟨0x300320, [(0x10000, 16)], [F.DEN_CTR_BYT_HI_BYT_HI]⟩]

def rowsTBL : List Row := [
  ⟨0x800000, [], [F.TBL_WR_ADDR_OFFSET]⟩,
  ⟨0x800040, [(0x4, 16)], [F.TBL_WR_DATA_DATA]⟩,
  ⟨0x800004, [], [F.TBL_WR_CMD_LEN, F.TBL_WR_CMD_GO]⟩,
  ⟨0x800008, [], [F.TBL_WR_STAT_QDEPTH, F.TBL_WR_STAT_BUSY, F.TBL_WR_STAT_ERR]⟩,
  ⟨0x80000C, [], [F.TBL_FENCE_FENCE]⟩,
  ⟨0x800010, [], [F.TBL_PLOAD_SRC_SRC]⟩,
  ⟨0x800014, [], [F.TBL_PLOAD_DST_DST, F.TBL_PLOAD_DST_COUNT_M1]⟩,
  ⟨0x800018, [], [F.TBL_PLOAD_CMD_DENS, F.TBL_PLOAD_CMD_GO]⟩,
  ⟨0x80001C, [], [F.TBL_PSWITCH_DENS, F.TBL_PSWITCH_GO]⟩,
  ⟨0x800020, [], [F.TBL_PSTAT_BUSY, F.TBL_PSTAT_REFUSED, F.TBL_PSTAT_CUR_DEN]⟩]

def rowsMGT_FAB : List Row := [
  ⟨0x41000, [], [F.MGT_FAB_ID_ID, F.MGT_FAB_ID_VALID, F.MGT_FAB_ID_ROLE]⟩,
  ⟨0x41004, [], [F.MGT_FAB_CFG_HB_PERIOD, F.MGT_FAB_CFG_HB_MISS, F.MGT_FAB_CFG_EV_RTO]⟩,
  ⟨0x41008, [], [F.MGT_FAB_MGR_MGR_ID, F.MGT_FAB_MGR_STBY_ID, F.MGT_FAB_MGR_EPOCH, F.MGT_FAB_MGR_STBY_PRESENT, F.MGT_FAB_MGR_MGR_LOST, F.MGT_FAB_MGR_MISSES]⟩,
  ⟨0x4100C, [], [F.MGT_FAB_EVQ_QUEUED, F.MGT_FAB_EVQ_HELD, F.MGT_FAB_EVQ_EV_OVF]⟩,
  ⟨0x41010, [], [F.MGT_FAB_ERR_CRC16_ERR, F.MGT_FAB_ERR_STALE, F.MGT_FAB_ERR_EPOCH_REJ, F.MGT_FAB_ERR_NOPATH]⟩,
  ⟨0x41014, [], [F.MGT_FAB_DIR_BASE]⟩,
  ⟨0x41018, [], [F.MGT_FAB_TIME_RTT_MAX, F.MGT_FAB_TIME_EN, F.MGT_FAB_TIME_LOCKED]⟩,
  ⟨0x4101C, [], [F.MGT_FAB_TOFS_OFFSET]⟩,
  ⟨0x40800, [], [F.MGT_FW_CFG_BASE, F.MGT_FW_CFG_LOG, F.MGT_FW_CFG_TO, F.MGT_FW_CFG_EN]⟩,
  ⟨0x40804, [], [F.MGT_FW_IDX_WR, F.MGT_FW_IDX_RD]⟩,
  ⟨0x40808, [], [F.MGT_FW_POST_PATH, F.MGT_FW_POST_KIND, F.MGT_FW_POST_GO]⟩,
  ⟨0x4080C, [], [F.MGT_FW_STAT_POST_ERR, F.MGT_FW_STAT_FAB_DROP, F.MGT_FW_STAT_FW_LATE]⟩,
  ⟨0x40810, [], [F.MGT_FLASH_EN_EN]⟩,
  ⟨0x40840, [(0x4, 16)], [F.MGT_FW_DATA_DATA]⟩,
  ⟨0x41020, [], [F.MGT_FAB_HOST_HD, F.MGT_FAB_HOST_EN]⟩]

def rowsWEN : List Row := [
  ⟨0x400000, [], [F.WEN_RM_CFG_RTO, F.WEN_RM_CFG_RETRY]⟩,
  ⟨0x400004, [], [F.WEN_RM_CFG2_RETAIN, F.WEN_RM_CFG2_INB_IDLE]⟩,
  ⟨0x400008, [], [F.WEN_RM_CFG3_PBACK, F.WEN_RM_CFG3_PATH_TH, F.WEN_RM_CFG3_PATH_HOLD]⟩,
  ⟨0x40000C, [], [F.WEN_FENCE_FENCE]⟩,
  ⟨0x400010, [], [F.WEN_CNT0_IDLE_FREE, F.WEN_CNT0_DUP_SE]⟩,
  ⟨0x400014, [], [F.WEN_CNT1_BAD_HDR, F.WEN_CNT1_BUSY_NAK, F.WEN_CNT1_POL_NAK]⟩,
  ⟨0x400020, [], [F.WEN_ABORT_SQ, F.WEN_ABORT_GO]⟩,
  ⟨0x400024, [], [F.WEN_ABORT_ID_LO_WR_ID]⟩,
  ⟨0x400028, [], [F.WEN_ABORT_ID_HI_WR_ID]⟩,
  ⟨0x40002C, [], [F.WEN_ABORT_STAT_BUSY, F.WEN_ABORT_STAT_RESULT]⟩,
  ⟨0x400100, [], [F.WEN_WIN_SEL_IDX]⟩,
  ⟨0x400104, [], [F.WEN_WIN_CTL_VALID, F.WEN_WIN_CTL_STATE, F.WEN_WIN_CTL_PERM_R, F.WEN_WIN_CTL_PERM_W, F.WEN_WIN_CTL_PERM_N, F.WEN_WIN_CTL_PF, F.WEN_WIN_CTL_LANE]⟩,
  ⟨0x400108, [], [F.WEN_WIN_OWNER_HD, F.WEN_WIN_OWNER_PASID_EN, F.WEN_WIN_OWNER_PASID]⟩,
  ⟨0x40010C, [], [F.WEN_WIN_PROT_PDOM, F.WEN_WIN_PROT_GEN]⟩,
  ⟨0x400110, [], [F.WEN_WIN_KEY_KEY]⟩,
  ⟨0x400114, [], [F.WEN_WIN_BASE_LO_BASE]⟩,
  ⟨0x400118, [], [F.WEN_WIN_BASE_HI_BASE]⟩,
  ⟨0x40011C, [], [F.WEN_WIN_LEN_LO_PAGES_M1]⟩,
  ⟨0x400120, [], [F.WEN_WIN_LEN_HI_PAGES_M1]⟩,
  ⟨0x400124, [], [F.WEN_WIN_CMD_OP, F.WEN_WIN_CMD_RESULT, F.WEN_WIN_CMD_BUSY, F.WEN_WIN_CMD_CQ]⟩,
  ⟨0x400200, [], [F.WEN_CTX_SEL_IDX, F.WEN_CTX_SEL_TYPE, F.WEN_CTX_SEL_REF, F.WEN_CTX_SEL_GO, F.WEN_CTX_SEL_READ]⟩,
  ⟨0x400240, [(0x4, 8)], [F.WEN_CTX_DATA_DATA]⟩,
  ⟨0x400300, [], [F.WEN_AP_CFG_PF_DEPTH, F.WEN_AP_CFG_PF_AGE]⟩,
  ⟨0x400400, [(0x10, 16)], [F.WEN_AP_ERR_VALID, F.WEN_AP_ERR_STATUS, F.WEN_AP_ERR_RANGE, F.WEN_AP_ERR_VEC, F.WEN_AP_ERR_COUNT]⟩,
  ⟨0x400404, [(0x10, 16)], [F.WEN_AP_ADDR_LO_ADDR]⟩,
  ⟨0x400408, [(0x10, 16)], [F.WEN_AP_ADDR_HI_ADDR]⟩,
  ⟨0x40040C, [(0x10, 16)], [F.WEN_AP_CNT_PF_DISC, F.WEN_AP_CNT_ACK_WAIT]⟩]

def rowsSLC : List Row := [
  ⟨0x500000, [(0x100, 4096)], [F.SLC_CMD_OP, F.SLC_CMD_FORCE]⟩,
  ⟨0x500004, [(0x100, 4096)], [F.SLC_STATE_STATE, F.SLC_STATE_BUSY, F.SLC_STATE_ERR, F.SLC_STATE_RESETS, F.SLC_STATE_CAUSE]⟩,
  ⟨0x500008, [(0x100, 4096)], [F.SLC_ID_HD, F.SLC_ID_PASID_EN, F.SLC_ID_PASID]⟩,
  ⟨0x50000C, [(0x100, 4096)], [F.SLC_ARG_HD, F.SLC_ARG_PASID_EN, F.SLC_ARG_PASID]⟩,
  ⟨0x500010, [(0x100, 4096)], [F.SLC_Q_SRC_QUOTA]⟩,
  ⟨0x500014, [(0x100, 4096)], [F.SLC_Q_INB_QUOTA]⟩,
  ⟨0x500018, [(0x100, 4096)], [F.SLC_Q_CELL_QUOTA]⟩,
  ⟨0x50001C, [(0x100, 4096)], [F.SLC_U_SRC_USE]⟩,
  ⟨0x500020, [(0x100, 4096)], [F.SLC_U_INB_USE]⟩,
  ⟨0x500024, [(0x100, 4096)], [F.SLC_U_CELL_USE]⟩,
  ⟨0x500028, [(0x100, 4096)], [F.SLC_NCQ_NCQ, F.SLC_NCQ_EN]⟩,
  ⟨0x500040, [(0x100, 4096), (0x10, 4)], [F.SLC_IRQ_ADDR_LO_ADDR]⟩,
  ⟨0x500044, [(0x100, 4096), (0x10, 4)], [F.SLC_IRQ_ADDR_HI_ADDR]⟩,
  ⟨0x500048, [(0x100, 4096), (0x10, 4)], [F.SLC_IRQ_DATA_DATA]⟩,
  ⟨0x50004C, [(0x100, 4096), (0x10, 4)], [F.SLC_IRQ_CTL_MASK, F.SLC_IRQ_CTL_PEND]⟩,
  ⟨0x500080, [(0x100, 4096)], [F.SLC_CNT_DB_DB_BAD, F.SLC_CNT_DB_DB_OFF]⟩,
  ⟨0x500084, [(0x100, 4096)], [F.SLC_CNT_POL_POL_DROP]⟩,
  ⟨0x500088, [(0x100, 4096)], [F.SLC_CNT_IRQ_IRQ_LOST, F.SLC_CNT_IRQ_CPL_LOST]⟩]

def rowsQOS : List Row := [
  ⟨0x600000, [(0x10, 4096)], [F.QOS_SHP_RATE_RATE, F.QOS_SHP_RATE_OVH]⟩,
  ⟨0x610000, [(0x10, 4096)], [F.QOS_POL_RATE_RATE, F.QOS_POL_RATE_OVH]⟩,
  ⟨0x600004, [(0x10, 4096)], [F.QOS_SHP_CFG_BURST, F.QOS_SHP_CFG_EN, F.QOS_SHP_CFG_FILL, F.QOS_SHP_CFG_GO]⟩,
  ⟨0x610004, [(0x10, 4096)], [F.QOS_POL_CFG_BURST, F.QOS_POL_CFG_EN, F.QOS_POL_CFG_FILL, F.QOS_POL_CFG_GO]⟩,
  ⟨0x600008, [(0x10, 4096)], [F.QOS_SHP_TOK_TOKENS]⟩,
  ⟨0x610008, [(0x10, 4096)], [F.QOS_POL_TOK_TOKENS]⟩]

def rowsGRD : List Row := [
  ⟨0x80000, [], [F.GRD_FENCE_FENCE]⟩,
  ⟨0x81000, [(0x100, 9), (0x8, 16)], [F.GRD_RGN_BASE_BASE]⟩,
  ⟨0x81004, [(0x100, 9), (0x8, 16)], [F.GRD_RGN_CFG_EN, F.GRD_RGN_CFG_SIZE, F.GRD_RGN_CFG_SRD, F.GRD_RGN_CFG_PR, F.GRD_RGN_CFG_PW, F.GRD_RGN_CFG_PX, F.GRD_RGN_CFG_UR, F.GRD_RGN_CFG_UW, F.GRD_RGN_CFG_UX, F.GRD_RGN_CFG_C_OK, F.GRD_RGN_CFG_O_REQ]⟩,
  ⟨0x80100, [(0x10, 6)], [F.GRD_GATE_RD_RD]⟩,
  ⟨0x80104, [(0x10, 6)], [F.GRD_GATE_WR_WR]⟩,
  ⟨0x80108, [(0x10, 6)], [F.GRD_GATE_CTL_PRIV, F.GRD_GATE_CTL_LOCK]⟩,
  ⟨0x80400, [(0x20, 18)], [F.GRD_HR_RD_RD]⟩,
  ⟨0x80404, [(0x20, 18)], [F.GRD_HR_WR_WR]⟩,
  ⟨0x80408, [(0x20, 16)], [F.GRD_HR_WIN_WIN_BASE, F.GRD_HR_WIN_WIN_CNT]⟩,
  ⟨0x8040C, [(0x20, 16)], [F.GRD_HR_QUE_QUE_BASE, F.GRD_HR_QUE_QUE_CNT]⟩,
  ⟨0x80800, [(0x10, 32)], [F.GRD_VLOG_VALID, F.GRD_VLOG_KIND, F.GRD_VLOG_INDEX, F.GRD_VLOG_ACC, F.GRD_VLOG_PRIV]⟩,
  ⟨0x80804, [(0x10, 32)], [F.GRD_VADDR_ADDR]⟩,
  ⟨0x80808, [(0x10, 32)], [F.GRD_VCNT_COUNT]⟩]

def rowsFLT : List Row := [
  ⟨0x20000, [], [F.FLT_CFG_S_TO]⟩,
  ⟨0x20004, [], [F.FLT_CFG2_QUIET, F.FLT_CFG2_REC_LIM]⟩,
  ⟨0x20008, [], [F.FLT_STAT_OPEN_S, F.FLT_STAT_REC_ACT, F.FLT_STAT_SAFE, F.FLT_STAT_SAFE_CAUSE, F.FLT_STAT_PAR]⟩,
  ⟨0x2000C, [], [F.FLT_RING_WR, F.FLT_RING_RD]⟩,
  ⟨0x20010, [], [F.FLT_ACK_SEQ]⟩,
  ⟨0x20014, [], [F.FLT_CNT_REC_OVF, F.FLT_CNT_ACK_BAD]⟩,
  ⟨0x20018, [], [F.FLT_SAFE_GO, F.FLT_SAFE_SLOT_OFF, F.FLT_SAFE_KEY]⟩,
  ⟨0x2001C, [], [F.FLT_DOM_SEL_INDEX, F.FLT_DOM_SEL_SCOPE, F.FLT_DOM_SEL_CLEAR]⟩,
  ⟨0x20020, [], [F.FLT_DOM_STAT_STATE, F.FLT_DOM_STAT_RCNT, F.FLT_DOM_STAT_REMAIN]⟩,
  ⟨0x20100, [(0x4, 256)], [F.FLT_KIND_MASK, F.FLT_KIND_NOESC]⟩]

def rowsSLOT : List Row := [
  ⟨0x70000, [(0x40, 16)], [F.SLOT_BIND_EN, F.SLOT_BIND_PORT]⟩,
  ⟨0x70004, [(0x40, 16)], [F.SLOT_CFG_PRI, F.SLOT_CFG_REVERT, F.SLOT_CFG_AUTO_ON, F.SLOT_CFG_FEED_A_EN, F.SLOT_CFG_FEED_B_EN, F.SLOT_CFG_PSN]⟩,
  ⟨0x70008, [(0x40, 16)], [F.SLOT_TIME_MIN_OFF, F.SLOT_TIME_PERST_DLY, F.SLOT_TIME_BBM]⟩,
  ⟨0x7000C, [(0x40, 16)], [F.SLOT_TIME2_SS_TO, F.SLOT_TIME2_FEED_QUAL, F.SLOT_TIME2_PWRBRK_HOLD, F.SLOT_TIME2_PG_QUAL]⟩,
  ⟨0x70010, [(0x40, 16)], [F.SLOT_ILIM_FAST_TH, F.SLOT_ILIM_SLOW_TH, F.SLOT_ILIM_INRUSH]⟩,
  ⟨0x70014, [(0x40, 16)], [F.SLOT_ILIM2_SLOW_T]⟩,
  ⟨0x70018, [(0x40, 16)], [F.SLOT_VLIM_FEED_UV, F.SLOT_VLIM_FEED_OV]⟩,
  ⟨0x7001C, [(0x40, 16)], [F.SLOT_VLIM2_PG_TH, F.SLOT_VLIM2_OFF_TH]⟩,
  ⟨0x70020, [(0x40, 16)], [F.SLOT_STAT_STATE, F.SLOT_STAT_FEED, F.SLOT_STAT_PRSNT, F.SLOT_STAT_PG, F.SLOT_STAT_PWRBRK, F.SLOT_STAT_PERST, F.SLOT_STAT_HELD, F.SLOT_STAT_A_GOOD, F.SLOT_STAT_B_GOOD, F.SLOT_STAT_BIND_ERR, F.SLOT_STAT_TRIP, F.SLOT_STAT_PDC_CNT]⟩,
  ⟨0x70024, [(0x40, 16)], [F.SLOT_MEAS_A_VOLT, F.SLOT_MEAS_A_SHUNT]⟩,
  ⟨0x70028, [(0x40, 16)], [F.SLOT_MEAS_B_VOLT, F.SLOT_MEAS_B_SHUNT]⟩,
  ⟨0x7002C, [(0x40, 16)], [F.SLOT_MEAS_S_VSL]⟩,
  ⟨0x70030, [(0x40, 16)], [F.SLOT_CNT_TRIPS, F.SLOT_CNT_PG_FAIL, F.SLOT_CNT_SWITCHES, F.SLOT_CNT_DRAIN_TO]⟩,
  ⟨0x70034, [(0x40, 16)], [F.SLOT_CMD_OP]⟩]

def rowsPWR : List Row := [
  ⟨0x10000, [], [F.PWR_PD_CTL_OFF4, F.PWR_PD_CTL_OFF]⟩,
  ⟨0x10004, [], [F.PWR_PD_STAT_ON]⟩,
  ⟨0x10008, [], [F.PWR_LP_STAT_PD_REF, F.PWR_LP_STAT_OFF_ACC]⟩,
  ⟨0x10010, [], [F.PWR_DUSK_CFG_IDLE]⟩,
  ⟨0x10014, [], [F.PWR_DUSK_EN_0_EN]⟩,
  ⟨0x10018, [], [F.PWR_DUSK_EN_1_EN]⟩,
  ⟨0x1001C, [], [F.PWR_DUSK_STAT_0_DUSK]⟩,
  ⟨0x10020, [], [F.PWR_DUSK_STAT_1_DUSK]⟩,
  ⟨0x10030, [], [F.PWR_NIGHT_CFG_IDLE, F.PWR_NIGHT_CFG_EN, F.PWR_NIGHT_CFG_GO]⟩,
  ⟨0x10034, [], [F.PWR_NIGHT_ALARM_ALARM]⟩,
  ⟨0x10038, [], [F.PWR_NIGHT_KEEP_KEEP]⟩,
  ⟨0x1003C, [], [F.PWR_NIGHT_STAT_REF, F.PWR_NIGHT_STAT_FAST, F.PWR_NIGHT_STAT_WAKE_SRC, F.PWR_NIGHT_STAT_STAGE_LAST, F.PWR_NIGHT_STAT_NIGHTS]⟩,
  ⟨0x10040, [], [F.PWR_PAD_HOLD_HELD]⟩,
  ⟨0x10044, [], [F.PWR_PAD_HOLD_RELEASE_RELEASE]⟩,
  ⟨0x10050, [], [F.PWR_CLK_STAT_GRP_LOCK, F.PWR_CLK_STAT_CORE_LOCK]⟩]

def rowsSEC : List Row := [
  ⟨0x30000, [], [F.SEC_MB_CMD_OP]⟩,
  ⟨0x30004, [], [F.SEC_MB_LEN_LEN]⟩,
  ⟨0x30008, [], [F.SEC_MB_STAT_BUSY, F.SEC_MB_STAT_STATUS, F.SEC_MB_STAT_REJ, F.SEC_MB_STAT_OWNER, F.SEC_MB_STAT_OUT_LEN]⟩,
  ⟨0x3000C, [], [F.SEC_STAT_SLOT, F.SEC_STAT_FLOOR, F.SEC_STAT_LAST_FAIL, F.SEC_STAT_PROV_LOCK, F.SEC_STAT_DEBUG_NEVER]⟩,
  ⟨0x30010, [], [F.SEC_SVN_SVN]⟩,
  ⟨0x30014, [], [F.SEC_KEYS_SLOT0, F.SEC_KEYS_SLOT1, F.SEC_KEYS_SLOT2, F.SEC_KEYS_SLOT3]⟩,
  ⟨0x30018, [], [F.SEC_DBG_PERM]⟩,
  ⟨0x38000, [(0x4, 8192)], [F.SEC_MB_DATA_DATA]⟩]

def rowsCHK : List Row := [
  ⟨0x60000, [], [F.CHK_CMD_JOB, F.CHK_CMD_OP]⟩,
  ⟨0x60004, [], [F.CHK_STAT_REF, F.CHK_STAT_ABORT_RES]⟩,
  ⟨0x60008, [], [F.CHK_DONE_DONE]⟩,
  ⟨0x60100, [(0x20, 16)], [F.CHK_JOB_ADDR_LO_ADDR]⟩,
  ⟨0x60104, [(0x20, 16)], [F.CHK_JOB_ADDR_HI_ADDR]⟩,
  ⟨0x60108, [(0x20, 16)], [F.CHK_JOB_LEN_LEN]⟩,
  ⟨0x6010C, [(0x20, 16)], [F.CHK_JOB_CFG_POLY, F.CHK_JOB_CFG_SPACE, F.CHK_JOB_CFG_CMP, F.CHK_JOB_CFG_HD, F.CHK_JOB_CFG_PASID_EN, F.CHK_JOB_CFG_PASID]⟩,
  ⟨0x60110, [(0x20, 16)], [F.CHK_JOB_EXP_LO_VALUE]⟩,
  ⟨0x60114, [(0x20, 16)], [F.CHK_JOB_EXP_HI_VALUE]⟩,
  ⟨0x60118, [(0x20, 16)], [F.CHK_JOB_RES_LO_VALUE]⟩,
  ⟨0x6011C, [(0x20, 16)], [F.CHK_JOB_RES_HI_VALUE]⟩,
  ⟨0x60400, [(0x4, 16)], [F.CHK_JSTAT_STATE, F.CHK_JSTAT_RESULT]⟩,
  ⟨0x60800, [(0x20, 32)], [F.CHK_REC_ADDR_LO_ADDR]⟩,
  ⟨0x60804, [(0x20, 32)], [F.CHK_REC_ADDR_HI_ADDR]⟩,
  ⟨0x60808, [(0x20, 32)], [F.CHK_REC_CFG_EN, F.CHK_REC_CFG_SPACE, F.CHK_REC_CFG_HD, F.CHK_REC_CFG_PERIOD, F.CHK_REC_CFG_MISS_LIM]⟩,
  ⟨0x6080C, [(0x20, 32)], [F.CHK_REC_LAST_LAST]⟩,
  ⟨0x60810, [(0x20, 32)], [F.CHK_REC_STAT_CHK_ERR, F.CHK_REC_STAT_STALE, F.CHK_REC_STAT_MISSES]⟩]

def rowsTEL : List Row := [
  ⟨0x50000, [], [F.TEL_CFG_INTERVAL, F.TEL_CFG_EN]⟩,
  ⟨0x50004, [], [F.TEL_STAT_BUSY, F.TEL_STAT_SKIP]⟩,
  ⟨0x50010, [], [F.TEL_SPOOR_CFG_NM1, F.TEL_SPOOR_CFG_EN]⟩,
  ⟨0x50014, [], [F.TEL_SPOOR_DENS_DENS]⟩,
  ⟨0x50018, [], [F.TEL_SPOOR_CNT_LOST, F.TEL_SPOOR_CNT_RECORDS]⟩,
  ⟨0x50040, [(0x8, 4)], [F.TEL_RING_CFG_BASE, F.TEL_RING_CFG_LOG, F.TEL_RING_CFG_ERR]⟩,
  ⟨0x50044, [(0x8, 4)], [F.TEL_RING_PTR_WR, F.TEL_RING_PTR_RD]⟩,
  ⟨0x51000, [(0x100, 37), (0x4, 64)], [F.TEL_CTR_SEL_EVENT, F.TEL_CTR_SEL_QUAL, F.TEL_CTR_SEL_ALL, F.TEL_CTR_SEL_ENA, F.TEL_CTR_SEL_BAD]⟩]

def rowsMGT : List Row := [
  ⟨0x40000, [(0x40, 16)], [F.MGT_RING_CTL_EN, F.MGT_RING_CTL_CMD_LOG, F.MGT_RING_CTL_RSP_LOG, F.MGT_RING_CTL_EVT_LOG, F.MGT_RING_CTL_RSP_VEC, F.MGT_RING_CTL_EVT_VEC]⟩,
  ⟨0x40004, [(0x40, 16)], [F.MGT_CMD_BASE_LO_BASE]⟩,
  ⟨0x40008, [(0x40, 16)], [F.MGT_CMD_BASE_HI_BASE]⟩,
  ⟨0x4000C, [(0x40, 16)], [F.MGT_RSP_BASE_LO_BASE]⟩,
  ⟨0x40010, [(0x40, 16)], [F.MGT_RSP_BASE_HI_BASE]⟩,
  ⟨0x40014, [(0x40, 16)], [F.MGT_EVT_BASE_LO_BASE]⟩,
  ⟨0x40018, [(0x40, 16)], [F.MGT_EVT_BASE_HI_BASE]⟩,
  ⟨0x4001C, [(0x40, 16)], [F.MGT_CMD_IDX_PI, F.MGT_CMD_IDX_CI]⟩,
  ⟨0x40020, [(0x40, 16)], [F.MGT_RSP_IDX_PI, F.MGT_RSP_IDX_CI]⟩,
  ⟨0x40024, [(0x40, 16)], [F.MGT_EVT_IDX_PI, F.MGT_EVT_IDX_CI]⟩,
  ⟨0x40028, [(0x40, 16)], [F.MGT_RING_STAT_BUSY, F.MGT_RING_STAT_IDX_ERR, F.MGT_RING_STAT_DMA_ERR]⟩]

/-- The rows that may hold a CSR address, by its block (R568). -/
def rowsAt (a : Nat) : List Row :=
  if a < 0x10000 then rowsGLB
  else if a < 0x20000 then rowsPWR
  else if a < 0x30000 then rowsFLT
  else if a < 0x40000 then rowsSEC
  else if a < 0x40800 then rowsMGT
  else if a < 0x50000 then rowsMGT_FAB
  else if a < 0x60000 then rowsTEL
  else if a < 0x70000 then rowsCHK
  else if a < 0x80000 then rowsSLOT
  else if a < 0x90000 then rowsGRD
  else if a < 0x100000 then []
  else if a < 0x200000 then
    (if a % 0x10000 < 0x400 then rowsGRP else if a % 0x10000 < 0x800 then rowsGRP_LINK else rowsGRP_PCIE)
  else if a < 0x300000 then rowsSETT
  else if a < 0x400000 then rowsDEN
  else if a < 0x500000 then rowsWEN
  else if a < 0x600000 then rowsSLC
  else if a < 0x620000 then rowsQOS
  else if a < 0x800000 then []
  else if a < 0xC00000 then rowsTBL
  else []

/-- Whether a displacement is an instance of a row with these (stride, count) pairs. -/
def dimsHit : List (Nat × Nat) → Nat → Bool
  | [], d => d == 0
  | (st, c) :: ds, d => decide (d / st < c) && dimsHit ds (d % st)

/-- Whether the row has an instance at this address. -/
def Row.hit (r : Row) (a : Nat) : Bool := decide (r.base ≤ a) && dimsHit r.dims (a - r.base)

/-- Bit `b` of the per-path copies' address space: the CSR space has 26 address bits (R568). -/
def csrSpan : Nat := 0x4000000

/-- The fields of the register at an address; none where no register stands. A telemetry counter select exists for
counters 0–7 of every bank and for 0–63 of bank 34 (R552, 19_telemetry.md). -/
def fieldsAt (a0 : Nat) : List Fld :=
  let a := a0 % csrSpan
  if decide (0x51000 ≤ a) && decide (a < 0x60000) && decide (a / 0x100 ≠ 0x510 + 34) && decide (a % 0x100 ≥ 0x20) then []
  else match (rowsAt a).find? (fun r => r.hit a) with
    | some r => r.flds
    | Option.none => []

/-- Bits `[lo + w - 1 : lo]` as a number. -/
def Fld.mask (f : Fld) : Nat := (2 ^ f.w - 1) * 2 ^ f.lo

/-- The sum of the masks of the fields that satisfy `p` (fields of one register never overlap). -/
def maskOf (fs : List Fld) (p : Fld → Bool) : Nat :=
  fs.foldr (fun f acc => if p f then f.mask ||| acc else acc) 0

/-- FLT kinds whose NOESC resets to 0: the class S kinds with Timer "yes" (R474, R475, 14_faults.md). -/
def timerKinds : List Nat := [0x02, 0x03, 0x05, 0x19, 0x28, 0x41, 0x49]

/-- Reset words that depend on the instance: gate masks (R443), rights bitmaps (R446), FLT_KIND_k.NOESC (R474) and the
Dusk enables (16_power_clocks.md). -/
def resetOverride (a : Nat) : Option Nat :=
  if decide (0x80100 ≤ a) && decide (a < 0x80160) then
    let k := (a - 0x80100) / 0x10
    if a % 0x10 = 0 then [0x70F, 0x30F, 0x70F, 0xFFFF07FF, 0xFFFF07FF, 0xFFFF07FF][k]?
    else if a % 0x10 = 4 then [0x10F, 0x30F, 0x70F, 0x70F, 0x60F, 0x48F][k]?
    else Option.none
  else if decide (0x80400 ≤ a) && decide (a < 0x80400 + 18 * 0x20) then
    let p := (a - 0x80400) / 0x20
    if a % 0x20 = 0 then some (if p < 16 then 0x7030 else 0x1FFFF)
    else if a % 0x20 = 4 then some (if p < 16 then 0x3010 else 0x1FFFF)
    else Option.none
  else if decide (0x20100 ≤ a) && decide (a < 0x20500) && decide (a % 4 = 0) then
    some (if timerKinds.contains ((a - 0x20100) / 4) then 0 else 2)
  else if a = 0x10014 then some 0xFFFFFFFC
  else if a = 0x10018 then some 0x5
  else Option.none

/-- The reset word of the register at an address: 0 where no register stands (R569). -/
def resetWord (a : Nat) : Word :=
  match resetOverride (a % csrSpan) with
  | some n => BitVec.ofNat 32 n
  | Option.none => BitVec.ofNat 32 ((fieldsAt a).foldr (fun f acc => (f.rv * 2 ^ f.lo) ||| acc) 0)

end Sys2Proof.Machine
end

