-- ==== Sys2Proof/Machine/Tab.lean ====
section
/-! DEFINITION. Sparse tables as plain data: lists of (key, value) pairs in one canonical form, keys strictly rising and no
entry equal to what an unlisted key holds. Every register file, memory and array of the state is one. -/

namespace Sys2Proof.Machine

/-- A sparse table. What an unlisted key holds is given to each operation by a function `d`. -/
abbrev Tab (α : Type) := List (Nat × α)

/-- The value at a key. -/
def Tab.get {α : Type} (d : Nat → α) : Tab α → Nat → α
  | [], k => d k
  | (k', v) :: t, k => if k = k' then v else if k < k' then d k else Tab.get d t k

/-- The table from the first key above `k` on. -/
def Tab.above {α : Type} (k : Nat) (t : Tab α) : Tab α := t.dropWhile fun e => decide (e.1 ≤ k)

/-- The table with one value replaced; a value equal to the default is not listed. -/
def Tab.put {α : Type} [DecidableEq α] (d : Nat → α) : Tab α → Nat → α → Tab α
  | [], k, v => if v = d k then [] else [(k, v)]
  | (k', v') :: t, k, v =>
    if k < k' then (if v = d k then (k', v') :: t else (k, v) :: (k', v') :: t)
    else if k = k' then (if v = d k then Tab.above k t else (k, v) :: t)
    else (k', v') :: Tab.put d t k v

/-- One value rewritten by a function. -/
def Tab.upd {α : Type} [DecidableEq α] (d : Nat → α) (t : Tab α) (k : Nat) (f : α → α) : Tab α :=
  t.put d k (f (t.get d k))

/-- The entries that a read reaches, from key `lo` on: all of a table in canonical form. -/
def Tab.reach {α : Type} : Nat → Tab α → Tab α
  | _, [] => []
  | lo, (k, v) :: t => if k < lo then Tab.reach lo t else (k, v) :: Tab.reach (k + 1) t

/-- The entries whose keys satisfy `p` go back to the default. -/
def Tab.drop {α : Type} (p : Nat → Bool) (t : Tab α) : Tab α := (Tab.reach 0 t).filter (fun e => !p e.1)

/-- Every listed value rewritten by a function that leaves defaults alone; entries that become the default leave the list. -/
def Tab.mapAll {α : Type} [DecidableEq α] (d : Nat → α) (f : Nat → α → α) (t : Tab α) : Tab α :=
  (Tab.reach 0 t).filterMap fun e => if f e.1 e.2 = d e.1 then none else some (e.1, f e.1 e.2)

/-- The canonical form: keys strictly rising from `lo` on, no entry equal to the default. -/
def Tab.wfFrom {α : Type} [DecidableEq α] (d : Nat → α) : Nat → Tab α → Bool
  | _, [] => true
  | lo, (k, v) :: t => decide (lo ≤ k) && !decide (v = d k) && Tab.wfFrom d (k + 1) t

/-- The canonical form of a table. -/
def Tab.wf {α : Type} [DecidableEq α] (d : Nat → α) (t : Tab α) : Bool := Tab.wfFrom d 0 t

/-- `n` consecutive values from key `a` on, read from a table in one pass. -/
def Tab.run {α : Type} (d : Nat → α) : Nat → Nat → Tab α → List α
  | 0, _, _ => []
  | n + 1, a, t =>
    match t.dropWhile fun e => decide (e.1 < a) with
    | [] => d a :: Tab.run d n (a + 1) []
    | (k, v) :: r => if k = a then v :: Tab.run d n (a + 1) r else d a :: Tab.run d n (a + 1) ((k, v) :: r)

/-- A run of values stored from key `a` on in a table that lists no key below `a`. -/
def Tab.lay {α : Type} [DecidableEq α] (d : Nat → α) : Nat → List α → Tab α → Tab α
  | _, [], t => t
  | a, b :: bs, t =>
    if b = d a then Tab.lay d (a + 1) bs (Tab.above a t) else (a, b) :: Tab.lay d (a + 1) bs (Tab.above a t)

/-- A memory of bytes: what `len` consecutive addresses from `a` on hold. -/
def bytesAt (d : Nat → Byte) (t : Tab Byte) (a len : Nat) : List Byte := Tab.run d len a t

/-- A memory of bytes with a byte string stored from `a` on. -/
def putBytes (d : Nat → Byte) (t : Tab Byte) (a : Nat) (bs : List Byte) : Tab Byte :=
  t.takeWhile (fun e => decide (e.1 < a)) ++ Tab.lay d a bs (t.dropWhile fun e => decide (e.1 < a))

/-- A little-endian number from bytes (R6, 00_scope.md). -/
def leNat : List Byte → Nat
  | [] => 0
  | b :: bs => b.toNat + 256 * leNat bs

/-- The `n` low bytes of a number, least significant first (R6). -/
def leBytes : Nat → Nat → List Byte
  | 0, _ => []
  | n + 1, v => BitVec.ofNat 8 v :: leBytes n (v / 256)

/-- Bits `[lo + w - 1 : lo]` of a number. -/
def bits (v lo w : Nat) : Nat := v / 2 ^ lo % 2 ^ w

/-- Bit `i` of a number. -/
def bit (v i : Nat) : Bool := v / 2 ^ i % 2 == 1

/-- The field `[off : off + n)` of a byte string as a little-endian number. -/
def fieldAt (bs : List Byte) (off n : Nat) : Nat := leNat ((bs.drop off).take n)

/-- A byte string cut or padded with zeros to a length. -/
def padTo (n : Nat) (bs : List Byte) : List Byte := bs.take n ++ List.replicate (n - bs.length) 0

/-- Every listed byte differs from zero filler: the lists in `d` of a zero-filled memory. -/
def zeroByte : Nat → Byte := fun _ => 0

/-- Erased flash reads 0xFF (notes/assumptions/9.md). -/
def erasedByte : Nat → Byte := fun _ => 0xFF

/-- The nearer end of a range (the registers whose text says "values outside act as the nearer end"). -/
def clampTo (lo hi v : Nat) : Nat := if v < lo then lo else if hi < v then hi else v

/-- Saturating addition at `top`. -/
def satAdd (top a n : Nat) : Nat := if a + n > top then top else a + n

end Sys2Proof.Machine
end

