-- ==== Sys2Proof/Machine/Types.lean ====
section
/-! DEFINITION. The records the state is made of, for what no register of the part holds: lanes, links, ports, domains,
packets, cells, dens, the table writer, the boot, the owl's bookkeeping, the engines. All plain data. -/

namespace Sys2Proof.Machine

/-! ### Lanes and links (03_lanes.md, 04_woell_link.md) -/

/-- A lane beyond its registers: the counts of the current error window and whether it crossed its threshold in it (R117),
the equalisation entry loaded (R92, R126: entry bytes 4 to 14, empty for factory settings), the override taken with its rate
(R126), and whether its alignment timer runs (R114). `due`: a crossing that no swap or width fallback has answered yet (R118, R121);
`tx`: the transmitter setting a PCI Express partner has asked for since the entry was loaded (R95). -/
structure Lane where
  winHard : Nat := 0
  winPse : Nat := 0
  crossed : Bool := false
  ovr : Option (Nat × List Byte) := none
  loaded : List Byte := []
  aligning : Bool := false
  due : Bool := false
  tx : Option TxRequest := none
  deriving DecidableEq, Repr

/-- A link packet: control message or fabric packet, without prefix and pad (R133). -/
structure LinkPkt where
  lcm : Bool
  bytes : List Byte
  deriving DecidableEq, Repr

/-- The transmitter's side of one credit class: packets waiting, the slots of the packet in flight still to send, the last
CR_COUNT received and the units used since INIT (R148, R150). -/
structure ClsTx where
  wait : List LinkPkt := []
  cur : List (List Byte) := []
  cr : Option Nat := none
  used : Nat := 0
  deriving DecidableEq, Repr

/-- The receiver's side of one credit class: bytes of the packet still to come, those taken in, and the units granted
since INIT, which CR_COUNT reports (R150). -/
structure ClsRx where
  rem : Nat := 0
  acc : List Byte := []
  lcm : Bool := false
  granted : Nat := 0
  deriving DecidableEq, Repr

/-- A DATA flit in the replay buffer (R138). -/
structure TxFlit where
  seq : Nat
  cls : Nat
  start : Nat
  payload : List Byte
  deriving DecidableEq, Repr

/-- A swap in progress (R159): the logical lane, and which messages went and came. -/
structure Swap where
  lane : Nat
  sentReady : Bool := false
  gotReady : Bool := false
  sentGo : Bool := false
  gotGo : Bool := false
  deriving DecidableEq, Repr

/-- What the partner's training records last said (R112). -/
structure PeerRec where
  width : Nat
  id : Nat
  port : Nat
  maxRate : Nat
  rate : Nat
  phase : Nat
  target : Nat
  status : Nat
  deriving DecidableEq, Repr

/-- A fabric link beyond its registers. `lanes` are the physical lanes by logical index; `phase` and `said` are the training phase
and the target rate that this end's records carry (R112); `laneRecs` pairs local positions with the partner's lane indices, `heard`
holds the configured lanes on which records of the partner's present width arrive, `deaf` the positions where the partner's last record
says it is not aligned (R164); `pool1` and `pool2` are the REQ and RSP pools
as INIT sampled them (R147). -/
structure Link where
  tx0 : ClsTx := {}
  tx1 : ClsTx := {}
  tx2 : ClsTx := {}
  rx0 : ClsRx := {}
  rx1 : ClsRx := {}
  rx2 : ClsRx := {}
  buf : List TxFlit := []
  replayQ : List Nat := []
  rpFrom : Option Nat := none
  rpCnt : Nat := 0
  rspTurn : Bool := false
  sinceCtl : Nat := 0
  crNext : Nat := 0
  goodRun : Nat := 0
  lanes : List Nat := []
  phase : Nat := 0
  said : Nat := 8
  target : Nat := 8
  prevRate : Nat := 8
  idle : Bool := false
  verifyBad : Bool := false
  verified : Bool := false
  peer : Option PeerRec := none
  laneRecs : List (Nat × Nat) := []
  heard : List Nat := []
  deaf : List Nat := []
  swap : Option Swap := none
  retrainAt : List Nat := []
  exclAfterSwap : List Nat := []
  unranked : Bool := false
  pool1 : Nat := 2048
  pool2 : Nat := 2048
  deriving DecidableEq, Repr

/-! ### Packets, cells and queues (06_switch_core.md, 07_forwarding_model.md) -/

/-- A decision descriptor (R246): fields 0 to 13 by number, and whether ACTION was set. -/
structure Desc where
  f : List Nat
  actionSet : Bool
  deriving DecidableEq, Repr

/-- A cell of the sett (R210): its 256 bytes and the CRC-32C stored with them. -/
structure Cell where
  data : List Byte := []
  crc : Nat := 0
  deriving DecidableEq, Repr

/-- A packet in the part: how it came (port 128 is the control port, 129 the window-engine port), its class, its bytes, the
dispatch values m2 to m6 (R245), the TLP's header facts, the link credit to return (R149), its sett cells (R208) and how
many copies still need them (R211). `bad` marks a packet that its ingress link layer finds bad at its end (R229). `mir`: its mirror
copy has still to be delivered (R211); `fin`: only that copy keeps its cells; `fc`: the TLP holds flow-control credit of its ingress port
(R217, R221). -/
structure Pkt where
  port : Nat
  den : Nat
  cls : Nat
  bytes : List Byte
  tc : Nat
  m5 : Nat
  slice : Nat
  arr : Nat
  tlp : Option Tlp
  units : Nat
  ucls : Nat
  cells : List Nat
  left : Nat
  refs : Nat
  spoor : Bool
  bad : Bool
  mir : Bool := false
  fin : Bool := false
  fc : Bool := false
  deriving DecidableEq, Repr

/-- One copy of a packet on an egress queue (R219): its descriptor and view, cut-through or not, the cells read so far,
whether a persistent mismatch was found, whether its first symbol has left, whether it has been tested at the head of its
queue and marked (R230), whether the gap it waits in has been counted (R228), and the proxy tag it took as it was admitted (R188). -/
structure QEnt where
  pid : Nat
  desc : Desc
  view : List Byte
  tested : Bool
  mark : Bool
  ct : Bool
  rd : Nat
  bad : Bool
  started : Bool
  gap : Bool := false
  ptag : Option Nat := none
  deriving DecidableEq, Repr

/-- A TLP whose admission was refused (R221): it stays charged to its ingress port. -/
structure HeldTlp where
  pid : Nat
  q : Nat
  desc : Desc
  view : List Byte
  deriving DecidableEq, Repr

/-- A copy on the mirror queue or the trap queue (R233, R276), as R564 writes it: its record bytes, and of a mirror copy the
packet whose cells it holds (R211). -/
structure SampleRec where
  bytes : List Byte
  pid : Option Nat := none
  deriving DecidableEq, Repr

/-- The sett, the crossbar's queues and the packets in them. Tables are keyed by cell (bank × 8,192 + slot), packet
number, queue n (R219), port × 8 + traffic class, or port. `ctlIn` holds the control messages handed to the fabric control
unit with their port and destination (R349), `dmfIn` the requests delivered to a DMF with domain and header facts (R329), `shut` the
ports of a reset group that are not up again (R76). -/
structure Sett where
  cells : Tab Cell := []
  retired : List Nat := []
  rot : Tab Nat := []
  pkts : Tab (Option Pkt) := []
  nextPid : Nat := 0
  queues : Tab (List QEnt) := []
  order : Tab (List Nat) := []
  held : Tab (List HeldTlp) := []
  sending : Tab (Option (Nat × QEnt)) := []
  deficit : Tab Nat := []
  drr : Tab Nat := []
  mirQ : List SampleRec := []
  trapQ : List SampleRec := []
  mirCnt : Tab Nat := []
  stalled : Tab (List Nat) := []
  inRes : Tab Nat := []
  powering : List Nat := []
  ctlIn : List (Nat × Nat × List Byte) := []
  dmfIn : List (Nat × Tlp) := []
  shut : List Nat := []
  deriving DecidableEq, Repr

/-! ### Dens (07_forwarding_model.md, 08_kolzen_isa.md) -/

/-- A range search in progress (R256, R300): descriptor fields read at its start, the bounds and the best
entry so far, as its probe read it (R262). -/
structure LkrSt where
  base : Nat
  lo : Nat
  hi : Int
  found : Option (List Byte)
  deriving DecidableEq, Repr

/-- A table descriptor (R253). -/
structure TDesc where
  ty : Nat := 0
  esize : Nat := 8
  keylen : Nat := 0
  base : Nat := 0
  count : Nat := 0
  seed : Nat := 0
  deriving DecidableEq, Repr

/-- A thread waiting for a shared resource (R285): the instruction word, for a lookup the descriptor read at its start
(R262), and for LKR the search. -/
structure Wait where
  word : DWord
  td : TDesc
  lkr : Option LkrSt
  deriving DecidableEq, Repr

/-- A job on a fox thread (R277): packet, vector set, program counter, registers, flags, view, descriptor, and what its
spoor record reports (R562), its number among the den's dispatches, and the fox cycles of its last issue and of its next
possible one (R283, R284). For the record it also keeps the cycles of its dispatch and of what it did last, the cycles it waited
for each shared resource, and those in which it was ready and another thread issued. -/
structure Job where
  pid : Nat
  set : Nat
  pc : Nat
  entry : Nat
  g : List DWord
  m : List DWord
  z : Bool
  n : Bool
  c : Bool
  v : Bool
  view : List Byte
  desc : Desc
  start : Nat
  issued : Nat
  bcc : Nat
  path : Nat
  tag : Nat
  no : Nat
  wait : Option Wait
  last : Nat := 0
  ready : Nat := 0
  begun : Nat := 0
  act : Nat := 0
  waited : List Nat := [0, 0, 0, 0]
  passed : Nat := 0
  deriving DecidableEq, Repr

/-- A finished job in the release buffer (R243): its descriptor and its exception code, 0 for none. -/
structure Done where
  pid : Nat
  desc : Desc
  view : List Byte
  exc : Nat
  deriving DecidableEq, Repr

/-- A meter (R305): configuration as encoded, tokens in 1/8,000 B. -/
structure Meter where
  unl : Bool := true
  cir : Nat := 0
  pir : Nat := 0
  cbs : Nat := 0
  pbs : Nat := 0
  last : Nat := 0
  tc : Nat := 0
  tp : Nat := 0
  deriving DecidableEq, Repr

/-- A ternary match row (R257): value and mask. -/
structure TernRow where
  value : Nat := 0
  mask : Nat := 0
  deriving DecidableEq, Repr

/-- A den: header queues of packet numbers (R240, R241), threads by fox × 4 + thread, release buffer, program and table
memory, ternary rows, meters, counters with their posting queue (R310), of each shared resource the last cycle it was used in with
its use there and the waiting threads with the cycle of their request, in arrival order (R285), the memory words that hold ECC
errors (R259), jobs dispatched so far and at the last write that took effect (R264), the spoor countdown (R561), and the cycle each
fox is in (R283; notes/assumptions/112.md). `spill` holds headers that wait for the normal queue, `spillP` those that wait for the
priority queue (R241). -/
structure Den where
  prio : List Nat := []
  norm : List Nat := []
  spill : List Nat := []
  spillP : List Nat := []
  cyc : Tab Nat := []
  jobs : Tab (Option Job) := []
  rel : List Done := []
  prog : Tab DWord := []
  tbl : Tab Byte := []
  rows : Tab TernRow := []
  meters : Tab Meter := []
  ctrs : Tab (Nat × Nat) := []
  post : List (Nat × Nat) := []
  used : Tab (Nat × Nat) := []
  waitq : Tab (List (Nat × Nat)) := []
  badProg : List Nat := []
  badTab : List Nat := []
  sglProg : List Nat := []
  sglTab : List Nat := []
  cycRem : Nat := 0
  disp : Nat := 0
  fenceAt : Nat := 0
  spoorCnt : Nat := 0
  spoorSeq : Nat := 0
  spoorLost : Bool := false
  deriving DecidableEq, Repr

/-- A command of the table writer's queue (R260); an entry write that came as a fabric TABLE_WRITE with FENCE keeps the
destination and the response that follow it (R351). -/
inductive TblCmd
  | entry (off : Nat) (bytes : List Byte) (answer : Option (Nat × List Byte))
  | load (src dst count dens : Nat)
  | switch (dens : Nat)
  deriving DecidableEq, Repr

/-- Who waits for a read that a fence holds, and for what answer: a command that reads the one word, a control processor, a domain's
host, a command path, or another device of the fabric with its tag. -/
inductive ReadVia
  | word
  | cp (x : CpAcc)
  | bar (h : Nat) (x : BarAcc)
  | chan (path : Nat)
  | fab (src tag : Nat)
  deriving DecidableEq, Repr

/-- A read of a fence that has not returned: its master, the fence's address, the bytes read in front of it and the words still to be
read behind it; what it waits for: of TBL_FENCE how many entry writes had been accepted before it, and for each den the number of its
first job dispatched after the last of those took effect there (R264); of WEN_FENCE the host writes that had not been issued (R399); of
GRD_FENCE the FLASH_READs whose buffer had not been written, by the number of the next one, and the reads held before it (R454). -/
structure FenceRd where
  m : Nat
  addr : Nat
  via : ReadVia
  got : List Byte
  rest : List Nat
  acc : Nat
  marks : Tab Nat
  wrs : List Nat
  flash : Nat
  deriving DecidableEq, Repr

/-- The table writer. DESIGN CHOICE: the master copy stands in a table of its own, at no address of control memory, since the spec
gives it none (R22; notes/assumptions/99.md). Queue, entry writes accepted so far, fence reads outstanding, responses that wait for
the fence with its marks (R351), the step its head command is at (0 the master, k + 1 den k), the master copy and the program shadow by
den × 16,384 + index (R266). DESIGN CHOICE: `invalid` counts the VF map entries ignored under R207, for which no rule names a register
(notes/assumptions/106.md). -/
structure TblW where
  q : List TblCmd := []
  acc : Nat := 0
  fences : List FenceRd := []
  stage : Nat := 0
  master : Tab Byte := []
  shadow : Tab DWord := []
  answers : List (Nat × List Byte × Tab Nat) := []
  invalid : Nat := 0
  deriving DecidableEq, Repr

/-! ### PCI Express ports and host domains (05_pcie_host_domains.md) -/

/-- A tracked request (R193): the tag it left with, its requester's identity, and whether the proxy pool holds its tag. -/
structure Tracked where
  tag : Nat
  port : Nat
  reqId : Nat
  reqTag : Nat
  vport : Nat
  domain : Nat
  proxy : Bool
  deriving DecidableEq, Repr

/-- A PCI Express port beyond its registers: disabled by command, tracked requests, flow-control credits the partner has
granted by type (header, data), those this end has granted and the partner has not used (R217, R221), DPC trigger reason, which domains still hold it in containment (R198), and the rate to which an
equalisation bypass of the partner was accepted (R98). -/
structure PPort where
  disabled : Bool := false
  tracked : List Tracked := []
  hdrCr : Tab Nat := []
  dataCr : Tab Nat := []
  rxHdr : Tab Nat := []
  rxData : Tab Nat := []
  dpcReason : Nat := 0
  dpcHold : List (Nat × Nat) := []
  bypass : Option Nat := none
  deriving DecidableEq, Repr

/-- What a host read of the DMF was made for (R183): bytes of an outgoing message's packet, an inbound READ being served,
a check-value job. -/
inductive ReadFor
  | gather (slot pkt : Nat)
  | inbound (id : Nat)
  | check (j : Nat)
  deriving DecidableEq, Repr

/-- A host read outstanding, the slice it is charged to (R416), the slice of the local aperture access it serves, which is charged with it
too, and the window it was checked against (R396). `drop` is 1 when Bus Master Enable was cleared after its
issue (R199), 2 when an FLR was made (R201), 3 when the work it was for has been failed (R416). -/
structure HostRead where
  tag : Nat
  addr : Nat
  len : Nat
  pur : ReadFor
  slice : Option Nat
  drop : Nat
  also : Option Nat := none
  win : Option Nat := none
  deriving DecidableEq, Repr

/-- An MSI-X entry of the DMF's table (R180). -/
structure MsixEnt where
  addr : Nat := 0
  data : Nat := 0
  mask : Bool := true
  pend : Bool := false
  deriving DecidableEq, Repr

/-- A host domain: whether it is enabled, what its enable sampled (R171; the BAR sizes as sampled and as resized, R180), its
hierarchy's configuration words by function and register, whether a group reset has taken its upstream link down and the reset of R179 is
still to come (R15), its host reads, its event queue (R584), its rings as sampled at EN
(R572), its MSI-X table, and the words in the write and the read mailbox of its DOE capability (R182). -/
structure Dom where
  on : Bool := false
  upPort : Nat := 0
  downDue : Bool := false
  appSz : Nat := 30
  apnSz : Nat := 24
  appRst : Nat := 30
  apnRst : Nat := 24
  cfg : Tab Word := []
  reads : List HostRead := []
  nextTag : Nat := 0
  evq : List (List Byte) := []
  evLost : Bool := false
  evSeq : Nat := 0
  cmdLog : Nat := 4
  rspLog : Nat := 4
  evtLog : Nat := 4
  cmdBase : Nat := 0
  rspBase : Nat := 0
  evtBase : Nat := 0
  msix : Tab MsixEnt := []
  doeW : List Word := []
  doeR : List Word := []
  deriving DecidableEq, Repr

/-! ### Window engine and aperture bridge (11_remote_memory.md) -/

/-- A request packet of a message at the source: 0 not sent, 1 waiting at the shaper, 2 sent and unanswered, 3 in back-off,
4 answered; its retransmissions, its NAKs in a row (R387) and its last path. -/
structure TxPkt where
  st : Nat := 0
  tries : Nat := 0
  naks : Nat := 0
  path : Nat := 0
  deriving DecidableEq, Repr

/-- What a message at the source was made for: a work queue element (its SQ), an aperture write (range, BAR offset,
acknowledged), an aperture read (range, BAR offset, Requester ID and tag), a prefetch of a chunk of a range. -/
inductive MsgFor
  | wqe (sq : Nat)
  | apWrite (h range off : Nat) (ack : Bool)
  | apRead (h range off reqId tag : Nat)
  | prefetch (h range chunk : Nat)
  deriving DecidableEq, Repr

/-- An outstanding message at the source (R386): the element's fields, how many packets have been gathered from local
memory and their bytes, MCRC once all are in, the next packet to start, its packets, and whether it is being aborted
(R400), the path of its last try (R382), the swap unit its local read was checked under (R398), withdrawn (R205), outlives an FLR of its aperture's domain (R201, R205) or waits for its fence (R380). `no` orders the messages
of the part. -/
structure Msg where
  inc : Nat
  why : MsgFor
  opc : Nat
  sig : Bool
  fence : Bool
  tc : Nat
  imm : Nat
  wrId : Nat
  lwin : Nat
  loff : Nat
  rwin : Nat
  rkey : Nat
  roff : Nat
  len : Nat
  slice : Nat
  cq : Nat
  pdom : Nat
  no : Nat
  reading : Bool := false
  got : Nat := 0
  data : Tab (List Byte) := []
  mcrc : Option Nat := none
  next : Nat := 0
  pk : Tab TxPkt := []
  aborting : Bool := false
  cancel : TxPkt := {}
  path : Nat := 0
  unit : Nat := 0
  withdrawn : Bool := false
  flr : Bool := false
  deriving DecidableEq, Repr

/-- A completion, NOTIFY or REVOKE record that waits for its CQ (R385), with the slice whose message it ends. -/
structure CqRec where
  bytes : List Byte
  slice : Option Nat
  deriving DecidableEq, Repr

/-- An inbound entry (R390 to R392): 0 open, 1 DONE, 2 ENDED; the packets written, their wire bytes until completion. -/
structure Inb where
  src : Nat
  id : Nat
  st : Nat
  slice : Nat
  win : Nat
  opc : Nat
  wire : Nat
  woff : Nat
  mcrc : Nat
  rslice : Nat
  got : List Nat := []
  data : Tab (List Byte) := []
  status : Nat := 0
  deriving DecidableEq, Repr

/-- A host write of an accepted packet not yet issued (R390): the packet's header, its slice, window and domain, where the
bytes go, and the sett packet whose cells it holds. -/
structure HWr where
  id : Nat
  hdr : Nat
  slice : Nat
  win : Nat
  hd : Nat
  addr : Nat
  bytes : List Byte
  wire : List Byte
  pasid : Option Nat
  pid : Option Nat
  deriving DecidableEq, Repr

/-- An inbound READ whose host read is outstanding (R395): header, slice, window, lane rule. -/
structure RdSrv where
  id : Nat
  hdr : Nat
  slice : Nat
  win : Nat
  unit : Nat
  deriving DecidableEq, Repr

/-- A packet that waits at a slice's shaper (R429): its bytes, its charge, and the message packet it is, if any. -/
structure Shp where
  bytes : List Byte
  charge : Nat
  msg : Option (Nat × Nat × Nat)
  deriving DecidableEq, Repr

/-- A shaper or policer in force (R431): values as encoded, tokens in 1/8,000 B. -/
structure Bucket where
  rate : Nat := 0
  ovh : Nat := 0
  burst : Nat := 0
  en : Bool := false
  tok : Int := 0
  last : Nat := 0
  deriving DecidableEq, Repr

/-- A prefetched chunk of an aperture range (R406): its bytes once fetched, when, and whether a host read used it. -/
structure PfChunk where
  h : Nat
  range : Nat
  chunk : Nat
  data : Option (List Byte) := none
  at_ : Nat := 0
  used : Bool := false
  deriving DecidableEq, Repr

/-- An aperture access that waits: for an outbound entry (R204), or a read behind acknowledged writes (R405). -/
inductive ApReq
  | wr (range off tc : Nat) (data : List Byte)
  | rd (range off len tc reqId tag : Nat)
  deriving DecidableEq, Repr

/-- The window engine: contexts by type × 65,536 + index (R384), pass bits, records waiting by CQ, messages by slot with
their incarnations, inbound entries, host writes and READs in progress, packets that stand at its crossbar port, shapers,
policers and the packets that wait at a shaper, quotas in force by slice × 4 + kind (R422), the path state of each
destination (excluded paths, choices still skipping a path, timeouts in a row; R387, R388), revokes in progress and
waiting with their CQ and the slice whose reset made them, READs seen (R395), interrupt entries waiting (R426), prefetched
chunks, accesses held by domain with the number of the next message when they came, and failed acknowledged writes not yet reported
(R405). -/
structure Wen where
  ctx : Tab (List Byte) := []
  pass : Tab Bool := []
  held : Tab (List CqRec) := []
  msgs : Tab (Option Msg) := []
  inc : Tab Nat := []
  msgNo : Nat := 0
  inb : List Inb := []
  wrs : List HWr := []
  rds : List RdSrv := []
  nextId : Nat := 0
  inq : List (Nat × List Byte) := []
  shp : Tab Bucket := []
  pol : Tab Bucket := []
  shq : Tab (List Shp) := []
  quota : Tab Nat := []
  excl : Tab (List Nat) := []
  skip : Tab Nat := []
  tmo : Tab Nat := []
  revoking : List (Nat × Nat × Option Nat) := []
  revWait : List (Nat × Nat) := []
  seen : List (Nat × Nat × Nat) := []
  irqs : List (Nat × Nat) := []
  pf : List PfChunk := []
  apQ : Tab (List (Nat × ApReq)) := []
  apFail : Tab Bool := []
  deriving DecidableEq, Repr

/-- What a slice keeps beyond its registers: the command accepted whose transition runs (its OP, 0 none) with the argument taken at
its write (R414), whether a containment has come (R412) and whether a domain reset leads to RESETTING (R418). -/
structure Slc where
  op : Nat := 0
  arg : Word := 0
  contained : Bool := false
  reset : Bool := false
  deriving DecidableEq, Repr

/-! ### The fabric control unit (10_fabric.md) -/

/-- A PROBE or relayed ASSIGN that a worker has sent for another device (R352): the port, its opcode and tag, and the
requester with its tag. -/
structure Relay where
  port : Nat
  opc : Nat
  tag : Nat
  src : Nat
  srcTag : Nat
  back : Option Nat
  deriving DecidableEq, Repr

/-- The unit: alive counter, tags, unacknowledged events with the number of the next one and the tags they went with (R364,
R365), the last ALIVE accepted and the instant misses are counted from (R359), the exchange in progress and exchanges used in a
row (R367), the offset still to be slewed, whether a manager still listens (R363) or a takeover runs (R361), relays, the
heartbeats of the period with their tags and who has answered, the T4 of each device (R358, R367), and events held and devices
heard of (R366). -/
structure Fab where
  alive : Nat := 0
  tag : Nat := 0
  evq : List (List Byte) := []
  evSeq : Nat := 0
  evLost : Bool := false
  evTags : List (Nat × Nat) := []
  resends : Nat := 0
  lastAlive : Option Nat := none
  missAt : Nat := 0
  exch : Option (Nat × Nat × Nat) := none
  used : Nat := 0
  slew : Int := 0
  slewDiv : Nat := 0
  listening : Bool := false
  takeover : Bool := false
  relays : List Relay := []
  hbSent : List (Nat × Nat) := []
  answered : List Nat := []
  t4 : Tab Nat := []
  held : Tab (List (Nat × List Byte)) := []
  heard : List Nat := []
  deriving DecidableEq, Repr

/-! ### Boot (02_modes_and_boot.md) -/

/-- Where the boot stands (R61): before the straps, after them, at an image's header, its segments, its signatures, its
settings records (waiting for a delay or a poll or not), at loading, or over. -/
inductive BootStage | reset | straps | header | segments | signature | settings | delay | poll | load | ended
  deriving DecidableEq, Repr

/-- The boot: its stage, the image on trial (1 A, 2 B), whether it is taken from retained banks (R515), the next segment,
the segments staged so far as (type, instance, bytes) (R61), the settings records still to apply and how many came from the
factory segment, the index of the next one and the delays so far (R73), the digest field of the active image's signature
block (R536), the pins, the target of a running mode transition (R55), and whether the control processors have been released
(R61 step 7). -/
structure Boot where
  stage : BootStage := .reset
  img : Nat := 0
  fast : Bool := false
  seg : Nat := 0
  staged : List (Nat × Nat × List Byte) := []
  recs : List (List Byte) := []
  factory : Nat := 0
  recIdx : Nat := 0
  delays : Nat := 0
  digest : List Byte := []
  target : Nat := 0
  cpRun : Bool := false
  pwrok : Bool := false
  sysRstN : Bool := false
  deriving DecidableEq, Repr

/-! ### Night (16_power_clocks.md) -/

/-- Where Night stands: awake, waiting for the sett to empty, digesting the retained banks, or in Night (R513). -/
inductive NightStage | awake | drain | digest | night
  deriving DecidableEq, Repr

/-- What PD00 keeps of Night: the stage, the digests of the retained banks by bank number, and the image that was active; and the groups
whose reset is over and waits for their domain to power up (R504). -/
structure Pwr where
  stage : NightStage := .awake
  digests : Tab (List Byte) := []
  img : Nat := 0
  due : List Nat := []
  deriving DecidableEq, Repr

/-! ### Security (17_security.md) -/

/-- A key slot of the OTP (R528): of each state bit how many of its three copies are programmed, and the two key hashes. -/
structure KeySlot where
  prog3 : Nat := 0
  img3 : Nat := 0
  dbg3 : Nat := 0
  revoked3 : Nat := 0
  rsa : List Byte := []
  slh : List Byte := []
  deriving DecidableEq, Repr

/-- A mailbox command in progress (R540): its code, its owner, the mode it was taken in, its LEN and its input, and whether
the entropy source has failed under it; of one that a reset interrupts, how many of its OTP writes are made (R529). -/
structure MbCmd where
  op : Nat
  owner : Nat
  mode : Nat
  len : Nat
  input : List Byte
  entropy : Bool
  cut : Option Nat := none
  deriving DecidableEq, Repr

/-- The security core: OTP key slots, floor, the programmed copies of PROV_LOCK and DEBUG_NEVER (R528), the nonce of the last challenge (R538), the
mailbox command in progress, SPDM sessions with the way they came (R534), and the message whose SLH-DSA signature is pending
with whether it is ready (R535); the control processors halted by debug. -/
structure Sec where
  keys : Tab KeySlot := []
  floor : Nat := 0
  provLock3 : Nat := 0
  debugNever3 : Nat := 0
  nonce : Option (List Byte) := none
  mb : Option MbCmd := none
  nextSession : Nat := 0
  sessions : List (Nat × SpdmVia) := []
  slh : Option (List Byte × Bool) := none
  halted : List Nat := []
  deriving DecidableEq, Repr

/-! ### Slot controllers (15_slot_power.md) -/

/-- A slot controller beyond its registers: the port sampled from BIND (R477), a power-on request that waits for the end of
DRAIN, a requested turn-off between PERST_N and the gates (R484), a host request whose Command Completed is due (R498), the
running slow-trip timers (R489), the feeds that are lost (R485), the incoming feed of a switch-over (1 A, 2 B) and whether its gate is
on (R487), and whether PWRBRK_N is to be released after a switch-over. -/
structure Slot where
  bind : Option Nat := none
  want : Bool := false
  turnOff : Bool := false
  hostReq : Bool := false
  slowA : Bool := false
  slowB : Bool := false
  lostA : Bool := false
  lostB : Bool := false
  target : Nat := 0
  inOn : Bool := false
  brkHold : Bool := false
  deriving DecidableEq, Repr

/-! ### The owl (14_faults.md) -/

/-- A containment domain's state: 0 NORMAL, 1 RECOVERY, 2 LATCHED (R465 to R467), and its recovery count. -/
structure DomSt where
  st : Nat := 0
  rcnt : Nat := 0
  deriving DecidableEq, Repr

/-- A running class S timer (R462): the record's SEQ, the fault's source and kind, its domain. -/
structure STimer where
  seq : Nat
  source : Nat
  kind : Nat
  scope : Nat
  idx : Nat
  deriving DecidableEq, Repr

/-- The owl: SEQ of the next record, domains by scope × 4,096 + index, timers, the record ring's bytes; and, of class C faults whose
message and whose block's own containment have not both happened (R29, R460): in `done` those the block has contained, in `owed`
those whose message has come and whose containment has still to start. -/
structure Owl where
  seq : Nat := 0
  doms : Tab DomSt := []
  timers : List STimer := []
  ring : Tab Byte := []
  done : List FaultMsg := []
  owed : List FaultMsg := []
  deriving DecidableEq, Repr

/-! ### Check-value engine and telemetry (18_check_values.md, 19_telemetry.md) -/

/-- A scan job as START sampled it (R543): address, length and configuration, whether it runs, the bytes of host memory read
so far, and its result once it is decided with the value (R545). -/
structure ChkJob where
  j : Nat
  addr : Nat
  len : Nat
  cfg : Word
  running : Bool := false
  got : List Byte := []
  result : Option (Nat × Nat) := none
  deriving DecidableEq, Repr

/-- A watched record: whether its first read has been made, whether a repeat is due (R549). -/
structure ChkRec where
  seen : Bool := false
  again : Bool := false
  deriving DecidableEq, Repr

/-- The engine: started jobs in order, records. -/
structure Chk where
  jobs : List ChkJob := []
  recs : Tab ChkRec := []
  deriving DecidableEq, Repr

/-- Telemetry: counters by bank × 64 + i, those whose select changed or whose bank was reset since the last set, the last
values read, the set number, sets skipped, and the spoor queue (R563). -/
structure Tel where
  ctr : Tab Nat := []
  changed : List Nat := []
  cleared : List Nat := []
  lastRead : Tab Nat := []
  setNo : Nat := 0
  skipped : Nat := 0
  spoorQ : List (List Byte) := []
  deriving DecidableEq, Repr

/-! ### The command channel (20_management_registers.md) -/

/-- Where a command stands: to be run, with firmware, at the flash, held at a fence, or answered with a response that waits to be written. -/
inductive ChAt | run | firmware | flash | fence | answered
  deriving DecidableEq, Repr

/-- A command in progress on path 0–15 (a domain's ring) or 16 (MCTP): its 64 bytes, where it stands, whether its response is
to be discarded (R201, R572), the response that waits for Bus Master Enable (R575), and the reset that follows it (R581). -/
structure ChCmd where
  bytes : List Byte
  stage : ChAt := .run
  quiet : Bool := false
  rsp : List Byte := []
  rst : Option Word := none
  deriving DecidableEq, Repr

/-- A flash operation queued at the flash port (R580): who asked, the opcode, the chip select and range, the buffer of a read,
the bytes of a write, its number, and whether the safe state has cut it (R471). -/
structure FlashOp where
  path : Nat
  op : Nat
  cs : Nat
  off : Nat
  len : Nat
  buf : Nat
  data : List Byte
  no : Nat := 0
  cut : Bool := false
  deriving DecidableEq, Repr

/-- The channel: commands in progress by path, the flash port's queue and the number of its next operation, the I3C address and the endpoint ID. -/
structure Chan where
  cmds : Tab (Option ChCmd) := []
  flashQ : List FlashOp := []
  flashNo : Nat := 0
  i3cAddr : Option Nat := none
  eid : Nat := 0
  deriving DecidableEq, Repr

end Sys2Proof.Machine
end

