-- ==== Sys2Proof/Machine/State.lean ====
section
/-! DEFINITION. The state of the part, the reasons a command can stop, and the state right after a cold reset. -/

namespace Sys2Proof.Machine

/-- What the part shows outside, newest first in `State.out`. -/
inductive Output
  /-- A write of host memory by a DMF (R199), with the PASID it carries. -/
  | hostWrite (h addr : Nat) (data : List Byte) (pasid : Option Nat)
  /-- A read of host memory by a DMF, with its tag. -/
  | hostRead (h tag addr len : Nat) (pasid : Option Nat)
  /-- A read of host memory by a DMF whose bytes the command carries: an element of a ring, a flash buffer, a protected record. -/
  | fetched (h addr len : Nat)
  /-- A DMF MSI-X interrupt: domain and vector. -/
  | msix (h vec : Nat)
  /-- A TLP or fabric packet that leaves a PCI Express port: its bytes, poisoned, nullified. -/
  | tlp (port : Nat) (bytes : List Byte) (poisoned nullified : Bool)
  /-- A completion the part makes itself: port or domain side, Requester ID, tag, status, data. -/
  | completion (port reqId tag : Nat) (st : CplStatus) (data : List Byte)
  /-- A flit sent on a fabric link. -/
  | flit (g p : Nat) (f : Flit)
  /-- The training records that a link's lanes repeat from now on, by logical lane (R112). -/
  | training (g p : Nat) (recs : List (List Byte))
  /-- The transmitter of a lane set as a partner asked (R95). -/
  | txApplied (g n : Nat) (tx : TxRequest)
  /-- The preset a lane's partner is asked for (R96). -/
  | presetAsked (g n preset : Nat)
  /-- A hot reset sent on a downstream port, or an FLR sent to a VF (R179). -/
  | hotReset (port : Nat)
  | vfFlr (port prid : Nat)
  /-- A standard error message or AER log in a domain: port, error code of the model's own list. -/
  | aer (h port err : Nat)
  /-- The completion for locked reads that answers an MRdLk (R191, R249), with its data. -/
  | completionLk (port reqId tag : Nat) (st : CplStatus) (data : List Byte)
  /-- A standard hot-plug interrupt of a virtual downstream port (R499). -/
  | hotPlug (h vdev : Nat)
  /-- A dedicated port's link retrains as its host asks (R178). -/
  | linkRetrain (port : Nat)
  /-- The flow-control credits that a port advertises from IN_RES, header and data credits by type: posted, non-posted, completion (R217). -/
  | fcCredits (port : Nat) (hd : List (Nat × Nat))
  /-- Flow-control credits of a type, header and data, returned to a port's partner as a TLP leaves its ingress account (R221). -/
  | fcReturned (port ty hdr data : Nat)
  /-- A PTM response of a virtual downstream port with the time of the timebase (R173). -/
  | ptm (port time : Nat)
  /-- A data object that a host has put into the DOE mailbox of its DMF: its type and words (R182). -/
  | doeObject (h ty : Nat) (words : List Word)
  /-- A TLP delivered to a domain's DMF (R329). -/
  | toDmf (h : Nat) (bytes : List Byte)
  /-- The function-level answers of a domain: Requester ID, tag, status, data. -/
  | dmfAnswer (h reqId tag : Nat) (st : CplStatus) (data : List Byte)
  /-- A presence change seen in a domain's hierarchy (R189). -/
  | presence (h vdev : Nat) (occupied : Bool)
  /-- A margining answer (R125). -/
  | margin (g n value : Nat)
  /-- An interrupt to a control processor: 0 owl, 1 check-value engine, 2 telemetry, 3 command channel, 4 fabric. -/
  | cpIrq (cp src : Nat)
  /-- The RISC-V access fault of a control processor (R450). -/
  | accessFault (cp addr : Nat)
  /-- Data returned to the master of a read. -/
  | readData (m addr : Nat) (data : List Byte)
  /-- An I3C in-band interrupt with its data byte (R587). -/
  | ibi (b : Nat)
  /-- An answer on MCTP over I3C. -/
  | mctp (bytes : List Byte)
  /-- Packets discarded at a port, as R75, R76 and R229 state. -/
  | discarded (port count : Nat)
  /-- Data shifted out on JTAG. -/
  | jtag (v : Nat)
  /-- An SPDM answer: the way it goes, its code and payload. -/
  | spdm (via : SpdmVia) (code : Nat) (data : List Byte)
  /-- A link of a port taken down (surprise link down). -/
  | linkDown (port : Nat)
  /-- The safe state's pins driven (R471). -/
  | safePins
  deriving DecidableEq, Repr

/-- The state. `regs` is the register file by CSR address; the per-path copies of window engine registers stand at address
+ (path + 1) × 2^26. `pending` is the queue of commands; `free` counts the free values used; `faults` are messages on the
fault lines to the owl. -/
structure State where
  pending : List Instr
  now : Nat
  free : Nat
  regs : Tab Word
  out : List Output
  faults : List FaultMsg
  cmem : Tab Byte
  flash0 : Tab Byte
  flash1 : Tab Byte
  flashSize : Nat
  boot : Boot
  pwr : Pwr
  sec : Sec
  /-- Port layout words as sampled at reset release (R80), by group × 8 + port index. -/
  samp : Tab Word
  lanes : Tab Lane
  links : Tab Link
  /-- The equalisation entries in force: bytes 4 to 14 by lane × 16 + rate (R87, R88); empty for none. -/
  eq : Tab (List Byte)
  sett : Sett
  dens : Tab Den
  tblw : TblW
  ports : Tab PPort
  doms : Tab Dom
  slots : Tab Slot
  owl : Owl
  chk : Chk
  tel : Tel
  chan : Chan
  wen : Wen
  slcs : Tab Slc
  fab : Fab
  /-- FAULT_N driven low (R471). -/
  faultN : Bool
  deriving DecidableEq, Repr

/-- Why a command can stop with a fault. -/
inductive Fault
  /-- Raised by no command of this model: a fault of the part is an effect on its state (14_faults.md), not a stop. Safe. -/
  | none
  deriving DecidableEq, Repr

/-- Why a command is refused. -/
inductive Refusal
  /-- Raised by an arm of `exec` whose command has no meaning yet. Safe: nothing is claimed of it. -/
  | notModelled (mnemonic : String)
  /-- Raised by every meaning whose command names an object that the part does not have or an operand no field of the spec
  can hold (`Instr.WellFormed` fails). Safe: such a command cannot reach the part. -/
  | illFormed
  deriving DecidableEq, Repr

/-- The outcome of a command. -/
abbrev Res' := Host.Outcome State Fault Refusal

/-- The machine right after a cold reset: every register at its reset word (the spec's; the register table lists nothing),
control memory all 0 (R618), no packet, job, message or timer anywhere, and both flash chips erased. -/
def State.reset : State where
  pending := []
  now := 0
  free := 0
  regs := []
  out := []
  faults := []
  cmem := []
  flash0 := []
  flash1 := []
  flashSize := 0x2000000
  boot := {}
  pwr := {}
  sec := {}
  samp := []
  lanes := []
  links := []
  eq := []
  sett := {}
  dens := []
  tblw := {}
  ports := []
  doms := []
  slots := []
  owl := {}
  chk := {}
  tel := {}
  chan := {}
  wen := {}
  slcs := []
  fab := {}
  faultN := false

end Sys2Proof.Machine
end

