-- ==== Sys2Proof/WellFormed.lean ====
section
/-! DEFINITION. Which commands the part can be given: every object a command names exists (R16, 00_scope.md; R44,
01_architecture.md) and every operand fits the field the spec gives it. -/

namespace Sys2Proof

/-- The masters of R432; 11 to 15 are reserved. -/
def masterOk (m : Nat) : Bool := decide (m < 11) || (decide (16 ≤ m) && decide (m < 32))

/-- The thread exists: 16 dens of 32 foxes of 4 threads (R16). -/
def Thr.wf (t : Thr) : Bool := decide (t.den < 16 ∧ t.fox < 32 ∧ t.thread < 4)

/-- An access of 1 to 8 bytes, or a cache line of 64 bytes aligned to 64 (R438); a fetch or read carries no data. -/
def CpAcc.wf (a : CpAcc) : Bool :=
  decide (a.cp < 4) && decide (a.addr + a.size ≤ 0x4000000) &&
  (decide (1 ≤ a.size ∧ a.size ≤ 8) || (decide (a.size = 64) && decide (a.addr % 64 = 0))) &&
  (decide (a.kind ≠ .write) || decide (a.data.length = a.size))

/-- PCI Express rate codes are 0 to 6 and width codes 0 to 4 (R85, R81). -/
def PcieTrain.wf (t : PcieTrain) : Bool := decide (t.rate < 7 ∧ t.width < 5) && t.bypass.all (decide <| · < 7)

/-- Presets are 0 to 10 (R87). -/
def TxRequest.wf : TxRequest → Bool
  | .preset p => decide (p < 11)
  | .coeffs _ _ _ _ => true

/-- Margin steps fit their fields of 6 and 7 bits; steps beyond those the part reports are answered (R125). -/
def MarginCmd.wf : MarginCmd → Bool
  | .stepTiming _ n => decide (n < 64)
  | .stepVoltage _ n => decide (n < 128)
  | _ => true

/-- Identifiers of 16 and 14 bits, a traffic class, at most the 17 cells of a packet (R217). -/
def Tlp.wf (t : Tlp) : Bool :=
  decide (t.reqId < 65536 ∧ t.tag < 16384 ∧ t.tc < 8 ∧ t.len ≤ 4352 ∧ t.cplLen ≤ 4352) &&
  decide (12 ≤ t.bytes.length ∧ t.bytes.length ≤ 4352) &&
  (match t.pasid with | some p => decide (p < 1048576) | none => true)

def CfgReg.wf : CfgReg → Bool
  | .bar n => decide (n < 6)
  | .barHigh n => decide (n < 6)
  | .resizeBar n => decide (n < 6)
  | .resizeCap n => decide (n < 6)
  | .other k => decide (k < 64)
  | _ => true

/-- Bus, device and function numbers of a request, and a header at least (R176). -/
def CfgReq.wf (c : CfgReq) : Bool :=
  c.reg.wf && decide (c.bus < 256 ∧ c.dev < 32 ∧ c.fnc < 8) && decide (c.reqId < 65536 ∧ c.tag < 16384)
    && decide (12 ≤ c.bytes.length ∧ c.bytes.length ≤ 4352)

/-- An access inside BAR0's 128 MiB (R180); a write carries a byte or a disabled byte for each address. -/
def BarAcc.wf (a : BarAcc) : Bool :=
  decide (a.size ≤ 4096 ∧ a.off + a.size ≤ 0x8000000) &&
  (!a.write || decide (a.data.length = a.size)) && decide (a.reqId < 65536 ∧ a.tag < 16384)

/-- Instruction indices and table offsets of a den (R45). -/
def EccLoc.wf : EccLoc → Bool
  | .prog i => decide (i < 16384)
  | .table o => decide (o < 0x200000)

/-- Apertures lie in BAR2 and BAR4, of at most 2^36 and 2^46 bytes (R180). -/
def ApWrite.wf (a : ApWrite) : Bool :=
  (decide (a.bar = 2) || decide (a.bar = 4)) && decide (a.off < 2 ^ 46 ∧ a.tc < 8 ∧ a.data.length ≤ 4096)
  && decide (a.reqId < 65536)

/-- A packet of the named opcode (R377) with at most 4,096 bytes of payload (R376). -/
def FabPkt.isOpc (k : FabPkt) (opc : Nat) : Bool := decide (k.hdr.toNat / 65536 % 8 = opc) && decide (k.payload.length ≤ 4096)

def ApRead.wf (a : ApRead) : Bool :=
  (decide (a.bar = 2) || decide (a.bar = 4)) && decide (a.off < 2 ^ 46 ∧ a.tc < 8 ∧ a.len ≤ 4096) &&
  decide (a.reqId < 65536 ∧ a.tag < 16384)

/-- The fields of a fault message fit their widths (R455). -/
def FaultMsg.wf (f : FaultMsg) : Bool :=
  decide (f.source < 1024 ∧ f.kind < 256 ∧ f.detail < 4294967296) &&
  (match f.slice with | some s => decide (s < 4096) | none => true) &&
  (match f.addr with | some a => decide (a < 281474976710656) | none => true)

def PllLoss.wf : PllLoss → Bool
  | .group g => decide (g < 16)
  | .core => true

def SpdmVia.wf : SpdmVia → Bool
  | .doe h => decide (h < 16)
  | .mctp => true

def WakeSrc.wf : WakeSrc → Bool
  | .presence sc => decide (sc < 16)
  | _ => true

def JtagKind.wf : JtagKind → Bool
  | .debugHalt c => decide (c < 4)
  | .debugRead a => decide (a < 0x4000000)
  | .debugWrite a _ => decide (a < 0x4000000)
  | _ => true

/-! The operands of the last rows of the table, row by row, under names of their own. -/

def okProvisionKey (m : Nat) : Bool := masterOk m
def okLockProv (m : Nat) : Bool := masterOk m
def okRevokeKey (m : Nat) : Bool := masterOk m
def okAdvanceFloor (m : Nat) : Bool := masterOk m
def okDebugChallenge (m : Nat) : Bool := masterOk m
def okDebugUnlock (m : Nat) : Bool := masterOk m
def okDebugNever (m : Nat) : Bool := masterOk m
def okCertWrite (m : Nat) : Bool := masterOk m
def okMailboxCommandDone : Bool := true
def okTrngHealthFail : Bool := true
def okGetCertificate (req : SpdmVia) (certSlot : Nat) : Bool := req.wf && decide (certSlot < 16)
def okChallenge (req : SpdmVia) (certSlot : Nat) : Bool := req.wf && decide (certSlot < 16)
def okGetMeasurements (req : SpdmVia) : Bool := req.wf
def okKeyExchange (req : SpdmVia) (certSlot : Nat) : Bool := req.wf && decide (certSlot < 16)
def okVendorDefinedRequest (req : SpdmVia) : Bool := req.wf
def okSlhSignatureReady : Bool := true
def okCheckJobStart (m : Nat) : Bool := masterOk m
def okCheckJobAbort (m : Nat) : Bool := masterOk m
def okCheckJobRun : Bool := true
def okCheckJobEnd : Bool := true
def okRecordCheck (r : Nat) : Bool := decide (r < 32)
def okRecordRecheck (r : Nat) : Bool := decide (r < 32)
def okCounterSelect (m : Nat) (b : Nat) (i : Nat) : Bool := masterOk m && decide (b < 37) && decide (i < (if b = 34 then 64 else 8))
def okSnapshotSet : Bool := true
def okSpoorRingWrite : Bool := true
def okSampleRingWrite (ring : Nat) : Bool := decide (ring = 2 ∨ ring = 3)
def okRingEnable (m : Nat) (h : Nat) : Bool := masterOk m && decide (h < 16)
def okRingDisable (m : Nat) (h : Nat) : Bool := masterOk m && decide (h < 16)
def okCommandDoorbell (m : Nat) (h : Nat) : Bool := masterOk m && decide (h < 16)
def okCommandFetch (h : Nat) : Bool := decide (h < 16)
def okCmdNop (path : Nat) : Bool := decide (path < 17)
def okGetInfo (path : Nat) : Bool := decide (path < 17)
def okCsrReadCmd (path : Nat) : Bool := decide (path < 17)
def okCsrWriteCmd (path : Nat) : Bool := decide (path < 17)
def okFlashInfo (path : Nat) : Bool := decide (path < 17)
def okFlashRead (path : Nat) : Bool := decide (path < 17)
def okFlashWrite (path : Nat) : Bool := decide (path < 17)
def okFlashErase (path : Nat) : Bool := decide (path < 17)
def okFlashOpDone : Bool := true
def okResetCmd (path : Nat) : Bool := decide (path < 17)
def okFwCommand (path : Nat) : Bool := decide (path < 17)
def okFwPostResponse (m : Nat) : Bool := masterOk m
def okFwPostEvent (m : Nat) : Bool := masterOk m
def okFwTimeout (path : Nat) : Bool := decide (path < 17)
def okEventRingWrite (h : Nat) : Bool := decide (h < 16)
def okMctpCommand (entry : List Byte) : Bool := decide (entry.length = 64)
def okI3cAddressAssign (addr : Nat) : Bool := decide (addr < 128)
def okSetEndpointId (eid : Nat) : Bool := decide (eid < 256)
def okPwrokAndSysRstNHigh : Bool := true
def okDmfCompletionTimeout (h : Nat) : Bool := decide (h < 16)
def okFlowControlUpdate (port : Nat) (cls : Nat) : Bool := decide (port < 128) && decide (cls < 3)
def okInjectedPacket (den : Nat) : Bool := decide (den < 16)
def okUnknownControlOpcode (port : Nat) : Bool := decide (port < 128)
def okJtagAccess (k : JtagKind) : Bool := k.wf
def okEndSession : Bool := true

/-- The command names objects that exist and operands that fit. -/
def Instr.wf : Instr → Bool
  | .registerWrite m addr _ => masterOk m && decide (addr < 0x4000000)
  | .cpAccess a => a.wf
  | .guardFence m => masterOk m
  | .gateLock m k _ => masterOk m && decide (k < 6)
  | .resetPinLow _ _ => true
  | .coldReset m _ => masterOk m
  | .warmReset m _ => masterOk m
  | .strapSample boot flash i3c => decide (boot < 4) && decide (flash < 2) && decide (i3c < 8)
  | .bootStart _ _ => true
  | .imageHeaderCheck _ => true
  | .segmentCheck _ => true
  | .signatureVerify => true
  | .settingsRecordApply => true
  | .settingsDelayEnd => true
  | .settingsPollTimeout => true
  | .bootComplete => true
  | .bootConfirm m _ => masterOk m
  | .confirmTimeout => true
  | .modeRequest m _ => masterOk m
  | .modeTransitionComplete => true
  | .groupReset m _ => masterOk m
  | .groupResetDone g => decide (g < 16)
  | .pcieLinkTrain port t => decide (port < 128) && t.wf
  | .pcieEqPhase g n rate _ => decide (g < 16) && decide (n < 16) && decide (rate < 7)
  | .partnerPresetRequest g n tx => decide (g < 16) && decide (n < 16) && tx.wf
  | .laneLock g n => decide (g < 16) && decide (n < 17)
  | .laneAligned g n _ => decide (g < 16) && decide (n < 17)
  | .laneAlignLoss g n => decide (g < 16) && decide (n < 17)
  | .alignTimeout g n => decide (g < 16) && decide (n < 17)
  | .laneTrainingRecord g p n bytes => decide (g < 16) && decide (p < 8) && decide (n < 17) && decide (bytes.length = 32)
  | .propose g p => decide (g < 16) && decide (p < 8)
  | .switchRate g p => decide (g < 16) && decide (p < 8)
  | .rateIdleEnd g p => decide (g < 16) && decide (p < 8)
  | .verifyEnd g p => decide (g < 16) && decide (p.port < 8)
  | .laneErrorWindow g n => decide (g < 16) && decide (n.lane < 17)
  | .spareCmd m g _ => masterOk m && decide (g < 16)
  | .spareAligned g p => decide (g < 16) && decide (p.port < 8)
  | .eyeScan m g _ => masterOk m && decide (g < 16)
  | .eyeScanDone g _ => decide (g < 16)
  | .marginCommand g n c => decide (g < 16) && decide (n < 16) && c.wf
  | .eqOverride m g _ => masterOk m && decide (g < 16)
  | .flitTransmit g p => decide (g < 16) && decide (p < 8)
  | .flitReceive g p f errs => decide (g < 16) && decide (p < 8) && decide (f.payload.length = 496) && errs.all (fun e => decide (e.lane < 16))
  | .replayTimeout g p => decide (g < 16) && decide (p < 8)
  | .creditTimeout g p cls => decide (g < 16) && decide (p < 8) && decide (cls < 3)
  | .initTimeout g p => decide (g < 16) && decide (p < 8)
  | .retrainPortResetDone g p => decide (g < 16) && decide (p < 8)
  | .swapReq g p lane => decide (g < 16) && decide (p < 8) && decide (lane < 256)
  | .swapReady g p lane => decide (g < 16) && decide (p < 8) && decide (lane < 256)
  | .swapGo g p lane => decide (g < 16) && decide (p < 8) && decide (lane < 256)
  | .swapAbort g p lane reason => decide (g < 16) && decide (p < 8) && decide (lane < 256) && decide (reason < 256)
  | .retrainReq g p op => decide (g < 16) && decide (p < 8) && decide (op < 256)
  | .swapBlockEnd g p => decide (g < 16) && decide (p < 8)
  | .swapTimeout g p => decide (g < 16) && decide (p < 8)
  | .linkCmdRetrain m g p => masterOk m && decide (g < 16) && decide (p < 8)
  | .linkCmdRetrainFull m g p => masterOk m && decide (g < 16) && decide (p < 8)
  | .linkCmdDisable m g p => masterOk m && decide (g < 16) && decide (p < 8)
  | .linkCmdEnable m g p => masterOk m && decide (g < 16) && decide (p < 8)
  | .hostDomainEnable m h _ => masterOk m && decide (h < 16)
  | .hostDomainDisable m h _ => masterOk m && decide (h < 16)
  | .tlpReceive port t => decide (port < 128) && t.wf
  | .configRequest h c => decide (h < 16) && c.wf
  | .upstreamReset h _ => decide (h < 16)
  | .secondaryBusReset h vdev => decide (h < 16) && decide (vdev < 32)
  | .portReset m g p => masterOk m && decide (g < 16) && decide (p < 8)
  | .pciePortDisable m g p => masterOk m && decide (g < 16) && decide (p < 8)
  | .pciePortEnable m g p => masterOk m && decide (g < 16) && decide (p < 8)
  | .dmfBarAccess h a => decide (h < 16) && a.wf
  | .trackedTimeout port _ => decide (port < 128)
  | .dpcTrigger port _ => decide (port < 128)
  | .dpcRelease h vdev => decide (h < 16) && decide (vdev < 32)
  | .dmfBmeWrite h _ => decide (h < 16)
  | .hostReadCompletion h _ _ _ => decide (h < 16)
  | .dmfFlr h => decide (h < 16)
  | .flrComplete h _ => decide (h < 16)
  | .apertureYield a b => decide (a < b) && decide (b < 16)
  | .apertureReissue a b => decide (a < b) && decide (b < 16)
  | .ingressResume port => decide (port < 130)
  | .jobDispatch d => decide (d < 16)
  | .descriptorRelease port tc => decide (port < 130) && decide (tc < 8)
  | .admissionRetry q => decide (q < 1024)
  | .egressSchedule port => decide (port < 128)
  | .cellRead port fails => decide (port < 128) && decide (fails < 4)
  | .cutThroughWaitTimeout port => decide (port < 128)
  | .quarterControl m _ => masterOk m
  | .quarterPowerUpDone q => decide (q < 4)
  | .jobWatchdog th => th.wf
  | .kNop th => th.wf
  | .kMov th => th.wf
  | .kMovh th => th.wf
  | .kAdd th => th.wf
  | .kSub th => th.wf
  | .kAnd th => th.wf
  | .kOr th => th.wf
  | .kXor th => th.wf
  | .kShl th => th.wf
  | .kShr th => th.wf
  | .kSar th => th.wf
  | .kCmp th => th.wf
  | .kTst th => th.wf
  | .kCrc th => th.wf
  | .kTime th => th.wf
  | .kExt th => th.wf
  | .kIns th => th.wf
  | .kBcc th => th.wf
  | .kLkd th => th.wf
  | .kLkh th => th.wf
  | .kLkr th => th.wf
  | .kLkt th => th.wf
  | .resourceSlotServe d _ => decide (d < 16)
  | .kMtr th => th.wf
  | .kCnt th => th.wf
  | .counterUpdateApply d => decide (d < 16)
  | .kSetd th => th.wf
  | .kPush th => th.wf
  | .kSmpl th => th.wf
  | .kEnd th => th.wf
  | .eccRepair d loc => decide (d < 16) && loc.wf
  | .tableEntryWrite m _ => masterOk m
  | .tableWriterStep => true
  | .tableFence m => masterOk m
  | .programLoad m _ => masterOk m
  | .programSwitch m _ => masterOk m
  | .denDrained d => decide (d < 16)
  | .progSelWrite m d _ => masterOk m && decide (d < 16)
  | .meterCommit m d _ => masterOk m && decide (d < 16)
  | .meterRead m d _ => masterOk m && decide (d < 16)
  | .counterSnap m d _ => masterOk m && decide (d < 16)
  | .heartbeatPeriod => true
  | .heartbeat port _ => decide (port < 128)
  | .heartbeatResponse _ => true
  | .heartbeatTick => true
  | .managerListenEnd => true
  | .probeReq _ => true
  | .probe port _ => decide (port < 128)
  | .probeResponse port _ => decide (port < 128)
  | .probeTimeout => true
  | .assign port _ => decide (port < 128)
  | .ctlCsrRead _ => true
  | .ctlCsrWrite _ => true
  | .tableWrite _ => true
  | .fabEvent _ => true
  | .eventResponse _ => true
  | .eventResendTimeout => true
  | .takeover _ => true
  | .windowOpen m _ => masterOk m
  | .windowRevoke m _ => masterOk m
  | .revokeSlotStart => true
  | .revokeDrainDone w => decide (w < 65536)
  | .windowFence m => masterOk m
  | .sqDoorbell h page _ => decide (h < 16) && decide (page < 4096)
  | .cqDoorbell h page _ => decide (h < 16) && decide (page < 4096)
  | .wqeFetch sq bytes => decide (sq < 32768) && decide (bytes.length = 64)
  | .shaperRelease sl => decide (sl < 4096)
  | .requestPacketSend slot => decide (slot < 65536)
  | .rmWrite pkt => decide (pkt.isOpc 1)
  | .rmWriteNotify pkt => decide (pkt.isOpc 2)
  | .rmRead pkt => decide (pkt.isOpc 3)
  | .rmCancel pkt => decide (pkt.isOpc 4)
  | .hostWriteIssued _ => true
  | .rmAck pkt => decide (pkt.isOpc 5)
  | .rmNak pkt => decide (pkt.isOpc 6)
  | .rmReadData pkt => decide (pkt.isOpc 7)
  | .retransmitTimeout slot _ => decide (slot < 65536)
  | .backoffExpiry slot _ => decide (slot < 65536)
  | .pathHoldExpiry dst path => decide (dst < 256) && decide (path < 4)
  | .cqRecordWrite cq => decide (cq < 32768)
  | .retainExpiry src _ => decide (src < 256)
  | .inboundIdleTimeout src _ => decide (src < 256)
  | .messageAbort m _ => masterOk m
  | .contextCommit m _ => masterOk m
  | .contextRead m _ => masterOk m
  | .apertureWrite h a => decide (h < 16) && a.wf
  | .apertureRead h a => decide (h < 16) && a.wf
  | .apertureReadRelease h => decide (h < 16)
  | .prefetchExpiry h range _ => decide (h < 16) && decide (range < 256)
  | .sliceCreate m sl => masterOk m && decide (sl < 4096)
  | .sliceQuiesce m sl => masterOk m && decide (sl < 4096)
  | .sliceResume m sl => masterOk m && decide (sl < 4096)
  | .sliceDisable m sl _ => masterOk m && decide (sl < 4096)
  | .sliceReset m sl _ => masterOk m && decide (sl < 4096)
  | .sliceReassign m sl => masterOk m && decide (sl < 4096)
  | .sliceResize m sl => masterOk m && decide (sl < 4096)
  | .sliceDestroy m sl => masterOk m && decide (sl < 4096)
  | .sliceQuiesced sl => decide (sl < 4096)
  | .sliceStoppingDone sl => decide (sl < 4096)
  | .sliceResetDone sl => decide (sl < 4096)
  | .irqWrite sl i => decide (sl < 4096) && decide (i < 4)
  | .irqUnmask m sl i _ => masterOk m && decide (sl < 4096) && decide (i < 4)
  | .shaperCommit m sl _ => masterOk m && decide (sl < 4096)
  | .policerCommit m sl _ => masterOk m && decide (sl < 4096)
  | .faultMessage f => f.wf
  | .classCContainment f => f.wf
  | .faultTimerExpiry seq => decide (seq < 65536)
  | .faultAck m _ => masterOk m
  | .quietPeriodEnd _ idx => decide (idx < 4096)
  | .domainClear m _ => masterOk m
  | .owlParity off _ => decide (off < 65536)
  | .fwSafe m _ => masterOk m
  | .slotPowerControlWrite sc _ => decide (sc < 16)
  | .slotOn m sc => masterOk m && decide (sc < 16)
  | .slotOff m sc => masterOk m && decide (sc < 16)
  | .presenceOccupied sc => decide (sc < 16)
  | .presenceEmpty sc => decide (sc < 16)
  | .slotRampStart sc => decide (sc < 16)
  | .slotPgLevel sc vsl => decide (sc < 16) && decide (vsl < 2048)
  | .slotPgQualified sc vsl => decide (sc < 16) && decide (vsl < 2048)
  | .perstRelease sc => decide (sc < 16)
  | .feedGood sc _ volt => decide (sc < 16) && decide (volt < 2048)
  | .feedLost sc _ volt => decide (sc < 16) && decide (volt < 2048)
  | .switchBbmEnd sc shunt => decide (sc < 16) && decide (shunt < 1024)
  | .switchComplete sc vsl => decide (sc < 16) && decide (vsl < 2048)
  | .switchTimeout sc vsl => decide (sc < 16) && decide (vsl < 2048)
  | .pwrbrkRelease sc => decide (sc < 16)
  | .fastTrip sc _ => decide (sc < 16)
  | .slowTripTimerStart sc _ shunt => decide (sc < 16) && decide (shunt < 1024)
  | .slowTripTimerStop sc _ shunt => decide (sc < 16) && decide (shunt < 1024)
  | .slowTrip sc _ => decide (sc < 16)
  | .rampTimeout sc => decide (sc < 16)
  | .pgLost sc vsl => decide (sc < 16) && decide (vsl < 2048)
  | .turnOffWaitEnd sc => decide (sc < 16)
  | .drainEnd sc vsl => decide (sc < 16) && decide (vsl < 2048)
  | .drainTimeout sc => decide (sc < 16)
  | .powerDomainControl m _ => masterOk m
  | .domainPowerUpDone k => decide (k < 32)
  | .duskEntry ci => decide (ci < 36)
  | .islandWake ci => decide (ci < 36)
  | .pllLockLoss l => l.wf
  | .supplyOutOfRange pd => decide (pd < 32)
  | .tempThreshold sensor _ => decide (sensor < 17)
  | .nightIdleTimeout => true
  | .nightGo m _ => masterOk m
  | .nightDrainEnd _ => true
  | .nightDigestDone => true
  | .nightWake src => src.wf
  | .nightAlarmExpiry => true
  | .padHoldRelease m _ => masterOk m
  | .getRandom m => masterOk m
  | .provisionKey m => okProvisionKey m
  | .lockProv m => okLockProv m
  | .revokeKey m => okRevokeKey m
  | .advanceFloor m => okAdvanceFloor m
  | .debugChallenge m => okDebugChallenge m
  | .debugUnlock m => okDebugUnlock m
  | .debugNever m => okDebugNever m
  | .certWrite m => okCertWrite m
  | .mailboxCommandDone => okMailboxCommandDone
  | .trngHealthFail => okTrngHealthFail
  | .getCertificate req certSlot _ _ => okGetCertificate req certSlot
  | .challenge req certSlot _ => okChallenge req certSlot
  | .getMeasurements req _ _ => okGetMeasurements req
  | .keyExchange req certSlot _ => okKeyExchange req certSlot
  | .vendorDefinedRequest req _ => okVendorDefinedRequest req
  | .slhSignatureReady => okSlhSignatureReady
  | .checkJobStart m _ => okCheckJobStart m
  | .checkJobAbort m _ => okCheckJobAbort m
  | .checkJobRun => okCheckJobRun
  | .checkJobEnd => okCheckJobEnd
  | .recordCheck r _ => okRecordCheck r
  | .recordRecheck r _ => okRecordRecheck r
  | .counterSelect m b i _ => okCounterSelect m b i
  | .snapshotSet => okSnapshotSet
  | .spoorRingWrite => okSpoorRingWrite
  | .sampleRingWrite ring => okSampleRingWrite ring
  | .ringEnable m h _ => okRingEnable m h
  | .ringDisable m h _ => okRingDisable m h
  | .commandDoorbell m h _ => okCommandDoorbell m h
  | .commandFetch h _ => okCommandFetch h
  | .cmdNop path => okCmdNop path
  | .getInfo path => okGetInfo path
  | .csrReadCmd path => okCsrReadCmd path
  | .csrWriteCmd path => okCsrWriteCmd path
  | .flashInfo path => okFlashInfo path
  | .flashRead path => okFlashRead path
  | .flashWrite path _ => okFlashWrite path
  | .flashErase path => okFlashErase path
  | .flashOpDone _ => okFlashOpDone
  | .resetCmd path => okResetCmd path
  | .fwCommand path => okFwCommand path
  | .fwPostResponse m _ => okFwPostResponse m
  | .fwPostEvent m _ => okFwPostEvent m
  | .fwTimeout path => okFwTimeout path
  | .eventRingWrite h => okEventRingWrite h
  | .mctpCommand entry => okMctpCommand entry
  | .i3cAddressAssign addr => okI3cAddressAssign addr
  | .setEndpointId eid => okSetEndpointId eid
  | .pwrokAndSysRstNHigh => okPwrokAndSysRstNHigh
  | .dmfCompletionTimeout h _ => okDmfCompletionTimeout h
  | .flowControlUpdate port cls _ _ => okFlowControlUpdate port cls
  | .injectedPacket den _ => okInjectedPacket den
  | .unknownControlOpcode port _ => okUnknownControlOpcode port
  | .jtagAccess k => okJtagAccess k
  | .endSession _ => okEndSession

/-- Well-formed commands. -/
def Instr.WellFormed (i : Instr) : Prop := i.wf = true

end Sys2Proof
end

