-- ==== Sys2Proof/Machine/Ops.lean ====
section
/-! DEFINITION. The named operations over the state that every family uses: registers and fields, outputs, faults, free
values, check values (R131, R210, R346, R542), the tables of lanes, links, ports, domains and dens. -/

namespace Sys2Proof.Machine

/-! ### Registers -/

/-- A field of a word. -/
def fldOf (w : Word) (f : Fld) : Nat := bits w.toNat f.lo f.w

/-- A word with one field replaced (the value is cut to the field's width). -/
def setFld (w : Word) (f : Fld) (v : Nat) : Word :=
  BitVec.ofNat 32 (w.toNat - fldOf w f * 2 ^ f.lo + v % 2 ^ f.w * 2 ^ f.lo)

/-- The number of a configuration register among those of its function; a register that the spec does not describe holds nothing. -/
def cfgRegNo : CfgReg → Nat
  | .vendorDevice => 0
  | .classRevision => 1
  | .command => 2
  | .busNumbers => 3
  | .memWindow => 4
  | .prefWindow => 5
  | .bar n => 6 + n
  | .barHigh n => 12 + n
  | .bridgeControl => 18
  | .linkControl => 19
  | .deviceControl2 => 20
  | .initiateFlr => 21
  | .slotControl => 22
  | .slotStatus => 23
  | .dpcControl => 24
  | .dpcStatus => 25
  | .aerUncorrectable => 26
  | .aerCorrectable => 27
  | .msixControl => 28
  | .resizeBar n => 29 + n
  | .laneError => 35
  | .headerType => 36
  | .prefBaseHigh => 37
  | .prefLimitHigh => 38
  | .acsCap => 39
  | .acsControl => 40
  | .ptmCap => 41
  | .ptmControl => 42
  | .l1ssCap => 43
  | .l1ssControl => 44
  | .deviceCap => 45
  | .deviceControl => 46
  | .deviceCap2 => 47
  | .deviceCap3 => 48
  | .linkCap => 49
  | .linkCap2 => 50
  | .linkStatus => 51
  | .dpcCap => 52
  | .slotCap => 53
  | .doeCap => 54
  | .doeControl => 55
  | .doeStatus => 56
  | .doeWrite => 57
  | .doeRead => 58
  | .resizeCap n => 59 + n % 5
  | .status => 64
  | .secondaryStatus => 65
  | .ioWindow => 66
  | .interruptLine => 67
  | .aerUncMask => 68
  | .aerUncSeverity => 69
  | .aerCorMask => 70
  | .deviceStatus => 71
  | .linkControl2 => 72
  | .other _ => 127

/-- The key of a configuration register in a domain's configuration space. -/
def cfgKey (fn : Nat) (r : CfgReg) : Nat := fn * 128 + cfgRegNo r

namespace State

/-- The register at a CSR address. -/
def rd (s : State) (a : Nat) : Word := s.regs.get resetWord a

/-- The register at a CSR address replaced. -/
def wr (s : State) (a : Nat) (w : Word) : State := { s with regs := s.regs.put resetWord a w }

/-- A field of a register. -/
def get (s : State) (a : Nat) (f : Fld) : Nat := fldOf (s.rd a) f

/-- Whether a field of a register is not 0. -/
def on (s : State) (a : Nat) (f : Fld) : Bool := s.get a f != 0

/-- A field of a register replaced. -/
def set (s : State) (a : Nat) (f : Fld) (v : Nat) : State := s.wr a (setFld (s.rd a) f v)

/-- A count field raised by `n`, saturating at its width. -/
def inc (s : State) (a : Nat) (f : Fld) (n : Nat) : State := s.set a f (satAdd (2 ^ f.w - 1) (s.get a f) n)

/-- The fields of the registers at addresses `p` whose reset scope satisfies `k` go back to their reset values (R14). -/
def resetFields (s : State) (p : Nat → Bool) (k : RKind → Bool) : State :=
  { s with regs := s.regs.mapAll resetWord (fun a w =>
      if p a then
        let m := BitVec.ofNat 32 (maskOf (fieldsAt a) (fun f => k f.rk))
        (w &&& ~~~m) ||| (resetWord a &&& m)
      else w) }

/-- The reset scopes of R14: which fields a reset of the named kind restores. -/
def coldKinds : RKind → Bool := fun k => decide (k ≠ .none)
def warmKinds : RKind → Bool := fun k => decide (k ≠ .none) && decide (k ≠ .cold)
def groupKinds : RKind → Bool := fun k => decide (k = .group) || decide (k = .port)
def portKinds : RKind → Bool := fun k => decide (k = .port)
def flrKinds : RKind → Bool := fun k => decide (k = .flr) || decide (k = .slice)
def sliceKinds : RKind → Bool := fun k => decide (k = .slice)

/-! ### Outputs, faults, free values -/

/-- Something the part shows outside. -/
def emit (s : State) (o : Output) : State := { s with out := o :: s.out }

/-- A condition for Night fails: an entry under way and not yet past the digests is abandoned with its code (R512, R513). -/
def nightFail (s : State) (code : Nat) : State :=
  if s.pwr.stage = .drain ∨ s.pwr.stage = .digest then
    { s.set R.PWR_NIGHT_STAT F.PWR_NIGHT_STAT_REF code with pwr := { s.pwr with stage := .awake } }
  else s

/-- A fault message put on the fault lines (R455). -/
def raise (s : State) (source kind : Nat) (slice addr : Option Nat) (detail : Nat) : State :=
  { s with faults := s.faults ++ [⟨source, kind, slice, addr, detail⟩] }

/-- The free value at hand: unconstrained, below `n` (0 when `n` is 0). -/
def freeBelow (s : State) (n : Nat) : Nat := Config.freeNat s.free % n

/-- `n` free bytes: what the entropy source gives. -/
def freeBytes (s : State) (n : Nat) : List Byte := (upTo n).map fun i => BitVec.ofNat 8 (Config.freeNat (s.free + i))

/-- `n` free values have been used. -/
def usedN (s : State) (n : Nat) : State := { s with free := s.free + n }

/-- The free values move on. -/
def used (s : State) : State := { s with free := s.free + 1 }

end State

/-- Operands that fit act, on everything but the queue of commands; any others are refused. -/
def runOk (ok : Bool) (s : State) (f : State → State) : Res' :=
  if ok then .next { f s with pending := s.pending } else .refused .illFormed

/-- A command that exists acts; any other is refused. Every meaning is this of its effect. -/
def run (c : Instr) (s : State) (f : State → State) : Res' := runOk c.wf s f

/-- A command of a block that has stopped in the safe state: there it changes nothing (R471, R472). -/
def runLive (c : Instr) (s : State) (f : State → State) : Res' := run c s fun s => if s.get R.GLB_MODE F.GLB_MODE_CUR = 7 then s else f s

/-- Do `f` when `b` holds. -/
def doIf (b : Bool) (f : State → State) (s : State) : State := if b then f s else s

/-- Do `f` for each element in order. -/
def forAll {α : Type} (l : List α) (f : α → State → State) (s : State) : State := l.foldl (fun acc x => f x acc) s

/-! ### Check values -/

/-- One bit of a reflected CRC. -/
def crcReflBit (poly c : Nat) : Nat := if c % 2 = 1 then (c / 2) ^^^ poly else c / 2

/-- One byte of a reflected CRC. -/
def crcReflByte (poly c : Nat) (b : Byte) : Nat :=
  let f := crcReflBit poly
  f (f (f (f (f (f (f (f (c ^^^ b.toNat))))))))

/-- One bit of a CRC of `w` bits taken most significant bit first. -/
def crcFwdBit (w poly c : Nat) : Nat :=
  if c / 2 ^ (w - 1) % 2 = 1 then (c * 2 % 2 ^ w) ^^^ poly else c * 2 % 2 ^ w

/-- One byte of a CRC of `w` bits taken most significant bit first. -/
def crcFwdByte (w poly c : Nat) (b : Byte) : Nat :=
  let f := crcFwdBit w poly
  f (f (f (f (f (f (f (f (c ^^^ (b.toNat * 2 ^ (w - 8))))))))))

/-- CRC-32C without the final XOR, from a given register (R210, R256, R302). -/
def crc32cFrom (init : Nat) (bs : List Byte) : Nat := bs.foldl (crcReflByte 0x82F63B78) init

/-- CRC-32C (R210): 0x1EDC_6F41 reflected, initial value and final XOR 0xFFFF_FFFF. -/
def crc32c (bs : List Byte) : Nat := crc32cFrom 0xFFFFFFFF bs ^^^ 0xFFFFFFFF

/-- CRC-32 (R542, POLY 1). -/
def crc32 (bs : List Byte) : Nat := bs.foldl (crcReflByte 0xEDB88320) 0xFFFFFFFF ^^^ 0xFFFFFFFF

/-- CRC-64 of flits (R131; R542, POLY 2). -/
def crc64 (bs : List Byte) : Nat :=
  bs.foldl (crcFwdByte 64 0x42F0E1EBA9EA3693) 0xFFFFFFFFFFFFFFFF ^^^ 0xFFFFFFFFFFFFFFFF

/-- CRC-16/CCITT, initial value 0xFFFF (R112, R346; R542, POLY 3). -/
def crc16 (bs : List Byte) : Nat := bs.foldl (crcFwdByte 16 0x1021) 0xFFFF

/-! ### The tables of the state -/

def dLane : Nat → Lane := fun _ => {}
def dLink : Nat → Link := fun _ => {}
def dPort : Nat → PPort := fun _ => {}
def dDom : Nat → Dom := fun _ => {}
def dDen : Nat → Den := fun _ => {}
def dZero : Nat → Nat := fun _ => 0
def dWord : Nat → Word := fun _ => 0
def dInstr : Nat → DWord := fun _ => 0
def dCell : Nat → Cell := fun _ => {}
def dPair : Nat → Nat × Nat := fun _ => (0, 0)
def dNone {α : Type} : Nat → Option α := fun _ => none
def dNil {α : Type} : Nat → List α := fun _ => []

namespace State

/-- Lane n of a group; n = 16 is the spare. -/
def lane (s : State) (g n : Nat) : Lane := s.lanes.get dLane (g * 17 + n)
def setLane (s : State) (g n : Nat) (f : Lane → Lane) : State := { s with lanes := s.lanes.upd dLane (g * 17 + n) f }
/-- The fabric link of port index p of a group. -/
def link (s : State) (g p : Nat) : Link := s.links.get dLink (g * 8 + p)
def setLink (s : State) (g p : Nat) (f : Link → Link) : State := { s with links := s.links.upd dLink (g * 8 + p) f }
def port (s : State) (P : Nat) : PPort := s.ports.get dPort P
def setPort (s : State) (P : Nat) (f : PPort → PPort) : State := { s with ports := s.ports.upd dPort P f }
def dom (s : State) (h : Nat) : Dom := s.doms.get dDom h
def setDom (s : State) (h : Nat) (f : Dom → Dom) : State := { s with doms := s.doms.upd dDom h f }
def den (s : State) (d : Nat) : Den := s.dens.get dDen d
def setDen (s : State) (d : Nat) (f : Den → Den) : State := { s with dens := s.dens.upd dDen d f }
def setSett (s : State) (f : Sett → Sett) : State := { s with sett := f s.sett }

/-! ### Mode, layout and ports -/

/-- The operating mode (R50). -/
def mode (s : State) : Nat := s.get R.GLB_MODE F.GLB_MODE_CUR

/-- Modes in which packets are forwarded: 2 to 5 (R50). -/
def forwarding (s : State) : Bool := decide (2 ≤ s.mode ∧ s.mode ≤ 5)

/-- A domain is LATCHED: it stays contained until CLEAR, over warm resets too (R467, R473). -/
def latched (s : State) (sc i : Nat) : Bool := (s.owl.doms.get (fun _ => {}) (sc * 4096 + i)).st == 2

/-- A mode transition runs (R55). -/
def transiting (s : State) : Bool := s.get R.GLB_MODE F.GLB_MODE_STATE == 1

/-- Doorbells are not accepted: outside the forwarding modes (R51, R57, R472), once a transition to Maintenance has begun
(R56) or entry to Night (R513). -/
def doorsShut (s : State) : Bool := !s.forwarding || (s.transiting && s.boot.target == 6) || s.pwr.stage != .awake

/-- The layout word of a port as last sampled (R80). -/
def layout (s : State) (P : Nat) : Word := s.samp.get dWord P

/-- Whether the port is enabled under a valid sampled layout (R81, R82). -/
def portEn (s : State) (P : Nat) : Bool :=
  fldOf (s.layout P) F.GRP_PORT_CFG_EN == 1 && !s.on (R.GRP_LANE_STAT (P / 8)) F.GRP_LANE_STAT_CFG_ERR

/-- Whether the port runs as a fabric link. -/
def isFabric (s : State) (P : Nat) : Bool := s.portEn P && fldOf (s.layout P) F.GRP_PORT_CFG_MODE == 1

/-- Whether the port runs as a PCI Express port. -/
def isPcie (s : State) (P : Nat) : Bool := s.portEn P && fldOf (s.layout P) F.GRP_PORT_CFG_MODE == 0

/-- The configured width of a port in lanes. -/
def portWidth (s : State) (P : Nat) : Nat := 2 ^ fldOf (s.layout P) F.GRP_PORT_CFG_WIDTH

/-- The physical lanes of a port, by logical index. -/
def portLanes (s : State) (P : Nat) : List Nat :=
  (upTo (s.portWidth P)).map (fun i => fldOf (s.layout P) F.GRP_PORT_CFG_FIRST + i)

/-- The state of a fabric link (R154). -/
def linkState (s : State) (g p : Nat) : Nat := s.get (R.GRP_LINK_STAT g p) F.GRP_LINK_STAT_STATE

/-- Whether the port's link is up: UP or SWAP on a fabric link, data link layer active on a PCI Express port. -/
def portUp (s : State) (P : Nat) : Bool :=
  if s.isFabric P then decide (s.linkState (P / 8) (P % 8) = 3 ∨ s.linkState (P / 8) (P % 8) = 4)
  else s.isPcie P && s.on (R.GRP_PCIE_STAT (P / 8) (P % 8)) F.GRP_PCIE_STAT_UP

/-- The rate of a code in Gb/s per lane, doubled to stay whole (R36, R85). -/
def rate2 (code : Nat) : Nat := [5, 10, 16, 32, 64, 128, 256, 0, 25, 100, 200, 320].getD code 0

/-- The negotiated line rate of a port, width included, in half Gb/s (R227). -/
def lineRate (s : State) (P : Nat) : Nat :=
  if s.isFabric P then
    rate2 (s.get (R.GRP_LINK_STAT (P / 8) (P % 8)) F.GRP_LINK_STAT_RATE)
      * (4 * 2 ^ s.get (R.GRP_LINK_STAT (P / 8) (P % 8)) F.GRP_LINK_STAT_WIDTH)
  else
    rate2 (s.get (R.GRP_PCIE_STAT (P / 8) (P % 8)) F.GRP_PCIE_STAT_RATE)
      * 2 ^ s.get (R.GRP_PCIE_STAT (P / 8) (P % 8)) F.GRP_PCIE_STAT_WIDTH

/-! ### Telemetry counters (R553) -/

/-- The qualifier range of a bank's event; none where the bank does not list the event. -/
def eventQuals (b ev : Nat) : Option Nat :=
  if b < 16 then (if 1 ≤ ev ∧ ev ≤ 6 then some 8 else none)
  else if b < 32 then [none, some 1, some 1, some 4, some 9, some 4].getD ev none
  else if b = 32 then [none, some 1, some 1, some 1, some 1024, some 1024, some 1].getD ev none
  else if b = 33 then [none, some 1, some 4, some 19].getD ev none
  else if b = 34 then (if 1 ≤ ev ∧ ev ≤ 5 then some 4096 else none)
  else if b = 35 then [none, some 36, some 1].getD ev none
  else if b = 36 then [none, some 256].getD ev none
  else none

/-- Whether a selection counts nothing although its EVENT is not 0 (R553 BAD); den exception codes start at 1. -/
def selBad (b ev qual : Nat) (all : Bool) : Bool :=
  if ev = 0 then false
  else match eventQuals b ev with
    | none => true
    | some n => !all && (decide (n ≤ qual) || (decide (16 ≤ b ∧ b < 32 ∧ ev = 4) && decide (qual = 0)))

/-- Counters of a bank (R552). -/
def bankSize (b : Nat) : Nat := if b = 34 then 64 else 8

/-- An event of a bank with a qualifier, added to every counter that selects it (R553, R555). -/
def count (s : State) (b ev q n : Nat) : State :=
  forAll (upTo (bankSize b)) (fun i s =>
    let a := R.TEL_CTR_SEL b i
    if s.get a F.TEL_CTR_SEL_EVENT = ev ∧ (s.on a F.TEL_CTR_SEL_ALL = true ∨ s.get a F.TEL_CTR_SEL_QUAL = q) then
      { s with tel := { s.tel with ctr := s.tel.ctr.upd dZero (b * 64 + i) (fun c => (c + n) % 2 ^ 64) } }
    else s) s

/-! ### Clock islands (R506 to R508) -/

/-- The DUSK_EN and DUSK_STAT registers of an island. -/
def duskEn (ci : Nat) : Nat := if ci < 32 then R.PWR_DUSK_EN_0 else R.PWR_DUSK_EN_1
def duskStat (ci : Nat) : Nat := if ci < 32 then R.PWR_DUSK_STAT_0 else R.PWR_DUSK_STAT_1

/-- A bit of a word replaced. -/
def putBit (w : Word) (i : Nat) (b : Bool) : Word :=
  let m := BitVec.ofNat 32 (2 ^ i)
  if b then w ||| m else w &&& ~~~m

/-- Whether an island is in Dusk (R507). -/
def asleep (s : State) (ci : Nat) : Bool := bit (s.rd (duskStat ci)).toNat (ci % 32)

/-- An island wakes; the wake is counted (R508). -/
def wakeIsland (s : State) (ci : Nat) : State :=
  if s.asleep ci then (s.wr (duskStat ci) (putBit (s.rd (duskStat ci)) (ci % 32) false)).count 35 1 ci 1 else s

/-! ### Power domains -/

/-- A power domain reported on or off in PWR_PD_STAT (R503). -/
def setPd (s : State) (k : Nat) (on : Bool) : State :=
  let w := s.rd R.PWR_PD_STAT
  let b := BitVec.ofNat 32 (2 ^ k)
  s.wr R.PWR_PD_STAT (if on then w ||| b else w &&& ~~~b)

/-- Whether a power domain is on. -/
def pdOn (s : State) (k : Nat) : Bool := bit (s.rd R.PWR_PD_STAT).toNat k

/-! ### Control memory -/

/-- Bytes of control memory by their offset (R568; unwritten words are 0, R618). -/
def cmemBytes (s : State) (off len : Nat) : List Byte := bytesAt zeroByte s.cmem off len
def cmemPut (s : State) (off : Nat) (bs : List Byte) : State := { s with cmem := putBytes zeroByte s.cmem off bs }

def setWen (s : State) (f : Wen → Wen) : State := { s with wen := f s.wen }
def setFab (s : State) (f : Fab → Fab) : State := { s with fab := f s.fab }
def slc (s : State) (k : Nat) : Slc := s.slcs.get (fun _ => {}) k
def setSlc (s : State) (k : Nat) (f : Slc → Slc) : State := { s with slcs := s.slcs.upd (fun _ => {}) k f }

/-! ### Domains of hosts and their events -/

/-- An event enters a domain's queue of 256 (R200, R584), or is lost and counted: bytes 4–7, the timebase, the detail. The
engine supplies LOST, SEQ and PHASE when it writes the entry. -/
def hostEvent (s : State) (h code : Nat) (b4 : List Byte) (time : Nat) (detail : List Byte) : State :=
  if (s.dom h).evq.length < 256 then
    s.setDom h fun d => { d with evq := d.evq ++ [leBytes 1 code ++ [0, 0, 0] ++ padTo 4 b4 ++ leBytes 8 time ++ padTo 48 detail] }
  else (s.setDom h fun d => { d with evLost := true }).inc (R.GLB_HD_CNT h) F.GLB_HD_CNT_EVT_OVF 1

/-- The MODE event of every enabled domain (R585): STATE has become DONE or REFUSED. -/
def modeEvent (s : State) : State :=
  let w := s.rd R.GLB_MODE
  let b := [F.GLB_MODE_CUR, F.GLB_MODE_PREV, F.GLB_MODE_STATE, F.GLB_MODE_REASON].flatMap fun f => leBytes 1 (fldOf w f)
  forAll ((upTo 16).filter fun h => (s.dom h).on) (fun h s => s.hostEvent h 0x03 [] s.now b) s

/-- The state of a host domain (GLB_HD_STAT): 0 OFF, 1 LINK_DOWN, 2 ACTIVE, 3 FLR. -/
def hdState (s : State) (h : Nat) : Nat := s.get (R.GLB_HD_STAT h) F.GLB_HD_STAT_STATE

/-- The DMF of a domain may start a host access: Bus Master Enable is 1 and neither an FLR runs nor the link is down
(R199, R201); in the safe state it starts none (R472). -/
def dmfOk (s : State) (h : Nat) : Bool :=
  s.on (R.GLB_HD_STAT h) F.GLB_HD_STAT_BME && s.hdState h == 2 && s.get R.GLB_MODE F.GLB_MODE_CUR != 7

/-- A host read is started by the DMF of a domain. -/
def hostRead (s : State) (h addr len : Nat) (pasid : Option Nat) (pur : ReadFor) (slice : Option Nat) (also win : Option Nat := none) :
    State :=
  let t := (s.dom h).nextTag
  (s.setDom h fun d => { d with nextTag := (t + 1) % 16384, reads := d.reads ++ [⟨t, addr, len, pur, slice, 0, also, win⟩] }).emit
    (.hostRead h t addr len pasid)

/-- A configuration register of a function of a domain's hierarchy: 0 the virtual upstream port, 1 the DMF, 2 + n device n of the
internal bus (R176). -/
def cfgWord (s : State) (h fn : Nat) (r : CfgReg) : Word := (s.dom h).cfg.get dWord (cfgKey fn r)
def setCfg (s : State) (h fn : Nat) (r : CfgReg) (v : Word) : State :=
  s.setDom h fun d => { d with cfg := d.cfg.put dWord (cfgKey fn r) v }

/-- Bits of a status register cleared by writing 1. -/
def cfgW1c (s : State) (h fn : Nat) (r : CfgReg) (v : Word) : State := s.setCfg h fn r (s.cfgWord h fn r &&& ~~~v)

/-- MSI-X Enable is 1 and Function Mask 0: bits 15 and 14 of the DMF's Message Control (notes/assumptions/27.md). -/
def msixOn (s : State) (h : Nat) : Bool :=
  let w := (s.cfgWord h 1 .msixControl).toNat
  bit w 15 && !bit w 14

/-- An MSI-X entry of a DMF is sent, or set pending while it is masked or Bus Master Enable is 0 (R180, R200, R575). -/
def msix (s : State) (h vec : Nat) : State :=
  let e := (s.dom h).msix.get (fun _ => {}) vec
  if e.mask || !s.msixOn h || !s.dmfOk h then s.setDom h fun d => { d with msix := d.msix.put (fun _ => {}) vec { e with pend := true } }
  else (s.emit (.msix h vec)).emit (.hostWrite h e.addr (leBytes 4 e.data) none)

/-- An interrupt to a control processor. -/
def irq (s : State) (src : Nat) : State := s.emit (.cpIrq 0 src)

end State

/-! ### Fault kinds (R475) -/

/-- The class C kinds. -/
def kindC : List Nat := [0x01, 0x06, 0x07, 0x10, 0x12, 0x20, 0x21, 0x22, 0x40, 0x42, 0x48, 0x4A, 0x50, 0x60, 0x61, 0x62]

/-- The scope of each kind as DOM_SCOPE codes it (R457, R475): 0 packet, 1 slice, 2 port, 3 group, 4 host domain, 5 slot, 6
device. -/
def kindScope (k : Nat) : Nat :=
  if k = 0x10 then 0
  else if [0x20, 0x21].contains k then 1
  else if [0x01, 0x02, 0x03, 0x04, 0x06].contains k then 2
  else if [0x05, 0x07, 0x18, 0x19].contains k then 3
  else if [0x40, 0x41, 0x42].contains k then 5
  else 6

/-- Sources (R456). -/
def srcGroup (g : Nat) : Nat := 0x80 + g
def srcDen (d : Nat) : Nat := 0x90 + d

end Sys2Proof.Machine
end

