-- ==== Sys2Proof/Machine/Access.lean ====
section
/-! DEFINITION. Access control (13_access_control.md): masters, guards and their default map, rights paths with the object
filter, gates, violation logs; where a register of the CSR space is kept (11_remote_memory.md: per-path copies and the window
views); and a register write by its field types (R10). -/

namespace Sys2Proof.Machine

/-- The block bit of a CSR address (R446, R568); none in a reserved range. -/
def blockBit (a : Nat) : Option Nat :=
  if a < 0x90000 then some ([0, 1, 2, 3, 4, 5, 6, 7, 8].getD (a / 0x10000) 0)
  else if a < 0x100000 then none
  else if a < 0x200000 then some 9
  else if a < 0x300000 then some 10
  else if a < 0x400000 then some 11
  else if a < 0x500000 then some 12
  else if a < 0x600000 then some 13
  else if a < 0x620000 then some 14
  else if a < 0x800000 then none
  else if a < 0xC00000 then some 15
  else if a < 0x1000000 then none
  else if a < 0x2000000 then some 16
  else none

/-- Control memory (R568). -/
def inCmem (a : Nat) : Bool := decide (0x1000000 ≤ a) && decide (a < 0x2000000)

/-- The gate in front of an address (R443). -/
def gateOf (a : Nat) : Option Nat :=
  let r := a / 4 * 4
  if 0x80000 ≤ a ∧ a < 0x90000 then some 0
  else if 0x30000 ≤ a ∧ a < 0x40000 then some 1
  else if 0x20000 ≤ a ∧ a < 0x30000 then some 2
  else if r = R.GLB_MODE ∨ r = R.GLB_RESET ∨ r = R.GLB_GRP_RESET ∨ (0x100 ≤ r ∧ r < 0x200 ∧ r % 16 = 0) then some 3
  else if 0x10000 ≤ a ∧ a < 0x20000 then some 4
  else if 0x800000 ≤ a ∧ a < 0x801000 then some 5
  else none

/-- The master that a register of a guard belongs to: of GRD_RGN, GRD_VLOG, GRD_VADDR and GRD_VCNT, for the internal masters
(R19); the gates and the rights paths stand beside no internal master. -/
def guardOf (a : Nat) : Option Nat :=
  if 0x81000 ≤ a ∧ a < 0x81900 then some ((a - 0x81000) / 0x100)
  else if 0x80800 ≤ a ∧ a < 0x80890 then some ((a - 0x80800) / 0x10)
  else none

/-- The power domain of an internal master (R19, R432); the fabric control unit is counted to PD02, whose block MGT holds its
registers (notes/assumptions/16.md). -/
def masterDomain (m : Nat) : Nat := if m < 4 then 2 else if m < 7 then 31 else if m = 7 then 2 else 1

/-- The clock island of an internal master (R19); the fabric control unit's is that of MGT (notes/assumptions/16.md). -/
def masterIsland (m : Nat) : Nat := if m < 4 then 2 + m else if m < 7 then [29, 30, 34].getD (m - 4) 0 else if m = 7 then 6 else 1

/-- The power domain that holds a register (R19, R503). A guard's registers lie in its master's domain. The gates and rights paths
are counted to PD00, and the layout registers of a group, which an off group must still take (R80, R504), as well
(notes/assumptions/16.md). -/
def domainOf (a : Nat) : Nat :=
  match blockBit a with
  | some 8 => ((guardOf a).map masterDomain).getD 0
  | some 3 => 1
  | some 4 => 2
  | some 16 => 2
  | some 5 => 31
  | some 6 => 31
  | some 15 => 31
  | some 7 => 4
  | some 9 => if a % 0x10000 < 0x20 then 0 else 10 + (a - 0x100000) / 0x10000
  | some 10 => 9
  | some 11 => 26 + (a - 0x300000) / 0x40000
  | some 12 => 30
  | some 13 => 30
  | some 14 => 30
  | _ => 0

/-- The clock island that holds a register (R19, R506). -/
def islandOf (a : Nat) : Nat :=
  match blockBit a with
  | some 3 => 1
  | some 4 => 6
  | some 16 => 6
  | some 5 => 30
  | some 6 => 29
  | some 7 => 31
  | some 8 => ((guardOf a).map masterIsland).getD 0
  | some 9 => 8 + (a - 0x100000) / 0x10000
  | some 10 => 7
  | some 11 => 24 + (a - 0x300000) / 0x40000
  | some 12 => 28
  | some 13 => 28
  | some 14 => 28
  | some 15 => 34
  | _ => 0

/-- Registers of which each path has its own copy (11_remote_memory.md, R11). -/
def perPath (a : Nat) : Bool :=
  (decide (0x400020 ≤ a) && decide (a < 0x400030)) || decide (a / 4 * 4 = R.WEN_WIN_SEL) || decide (a / 4 * 4 = R.WEN_CTX_SEL)
    || (decide (0x400240 ≤ a) && decide (a < 0x400260))

/-- The registers that show the window selected on a path. -/
def winView (a : Nat) : Bool := decide (0x400104 ≤ a) && decide (a < 0x400128)

/-- A path's own copy of a register. -/
def ownReg (m a : Nat) : Nat := a + (m + 1) * csrSpan

/-- A window's register. -/
def winReg (w a : Nat) : Nat := a + (64 + w) * csrSpan

/-- The rights path of an external master (R432). -/
def rightsPath (m : Nat) : Option Nat :=
  if m = 9 then some 16 else if m = 10 then some 17 else if 16 ≤ m ∧ m < 32 then some (m - 16) else none

/-- An access as a check sees it (R432, R433, R440): a fetch is a kind of its own. -/
structure Acc where
  m : Nat
  write : Bool
  fetch : Bool
  user : Bool
  cacheable : Bool
  ordered : Bool
  addr : Nat
  size : Nat
  val : Nat
  deriving DecidableEq, Repr

/-- A privileged, ordered access of one word, as every master but a control processor makes it (R433, R440). -/
def Acc.word (m : Nat) (write : Bool) (a v : Nat) : Acc := ⟨m, write, false, false, false, true, a, 4, v⟩

namespace State

/-- Where the register at an address is kept, for a path. -/
def phys (s : State) (m a : Nat) : Nat :=
  if perPath a then ownReg m a
  else if winView a then winReg (s.get (ownReg m R.WEN_WIN_SEL) F.WEN_WIN_SEL_IDX) a
  else a

/-! ### Guards (R435 to R442) -/

/-- Region r of master m's guard covers a byte (R435, R436). -/
def covers (s : State) (m r a : Nat) : Bool :=
  let c := R.GRD_RGN_CFG m r
  let size := clampTo 9 26 (s.get c F.GRD_RGN_CFG_SIZE)
  let base := s.get (R.GRD_RGN_BASE m r) F.GRD_RGN_BASE_BASE * 512 / 2 ^ size * 2 ^ size
  s.on c F.GRD_RGN_CFG_EN && decide (base ≤ a) && decide (a < base + 2 ^ size)
    && !bit (s.get c F.GRD_RGN_CFG_SRD) ((a - base) / 2 ^ (size - 3))

/-- The permission field an access needs (R439). -/
def permField (x : Acc) : Fld :=
  if x.fetch then (if x.user then F.GRD_RGN_CFG_UX else F.GRD_RGN_CFG_PX)
  else if x.write then (if x.user then F.GRD_RGN_CFG_UW else F.GRD_RGN_CFG_PW)
  else (if x.user then F.GRD_RGN_CFG_UR else F.GRD_RGN_CFG_PR)

/-- The guard's answer for one byte: kind and index of a violation (R437, R439 to R441, R452). -/
def guardEnd (s : State) (x : Acc) (a : Nat) : Option (Nat × Nat) :=
  match (upTo 16).find? (fun r => s.covers x.m r a) with
  | some r =>
    let c := R.GRD_RGN_CFG x.m r
    if !s.on c (permField x) then some (2, r)
    else if (x.cacheable && !s.on c F.GRD_RGN_CFG_C_OK) || (!x.ordered && s.on c F.GRD_RGN_CFG_O_REQ) then some (3, r)
    else none
  | none =>
    if x.user then some (1, 16)
    else if inCmem a then none
    else if x.fetch then some (2, 16)
    else if x.cacheable || !x.ordered then some (3, 16)
    else none

/-! ### Rights paths (R446, R447) -/

/-- A slice of a domain: its HD is the domain's and it is not FREE. -/
def sliceOfDomain (s : State) (h sl : Nat) : Bool :=
  decide (s.get (R.SLC_ID sl) F.SLC_ID_HD = h) && s.on (R.SLC_STATE sl) F.SLC_STATE_STATE

/-- The staged SLICE of a context commit on a path: bytes 9–10 of an SQ or CQ record, bytes 5–6 of an aperture entry. -/
def stagedSlice (s : State) (m ty : Nat) : Nat :=
  let b := (upTo 8).flatMap (fun k => leBytes 4 (s.rd (ownReg m (R.WEN_CTX_DATA k))).toNat)
  (if ty = 2 then fieldAt b 5 2 else fieldAt b 9 2) % 4096

/-- Whether a context commit or read lies in the domain's ranges (R447). -/
def ctxAllowed (s : State) (h v : Nat) : Bool :=
  let idx := bits v 0 16
  let ty := bits v 16 2
  let go := bit v 30
  let q := R.GRD_HR_QUE h
  let base := s.get q F.GRD_HR_QUE_QUE_BASE * 8
  let cnt := min 4096 (s.get q F.GRD_HR_QUE_QUE_CNT) * 8
  let inRange :=
    if ty < 2 then decide (base ≤ idx) && decide (idx < base + cnt)
    else if ty = 2 then decide (h * 256 ≤ idx) && decide (idx < h * 256 + 256)
    else false
  if go || bit v 31 then inRange && (!go || s.sliceOfDomain h (s.stagedSlice (16 + h) ty)) else true

/-- The object filter of a DMF path (R447). Registers its table does not name have no condition (notes/assumptions/15.md). -/
def objectOk (s : State) (x : Acc) (h a : Nat) : Bool :=
  match blockBit a with
  | some 13 => s.sliceOfDomain h ((a - 0x500000) / 256)
  | some 14 => s.sliceOfDomain h (a % 0x10000 / 16)
  | some 12 =>
    if a < 0x400100 then !x.write || [R.WEN_ABORT, R.WEN_ABORT_ID_LO, R.WEN_ABORT_ID_HI].contains (a / 4 * 4)
    else if winView a then
      let w := s.get (ownReg x.m R.WEN_WIN_SEL) F.WEN_WIN_SEL_IDX
      let base := s.get (R.GRD_HR_WIN h) F.GRD_HR_WIN_WIN_BASE * 16
      let cnt := min 4096 (s.get (R.GRD_HR_WIN h) F.GRD_HR_WIN_WIN_CNT) * 16
      decide (base ≤ w) && decide (w < base + cnt)
        && (!x.write || decide (a / 4 * 4 ≠ R.WEN_WIN_OWNER) || decide (x.val % 16 = h))
    else if x.write && decide (a / 4 * 4 = R.WEN_CTX_SEL) then s.ctxAllowed h x.val
    else if 0x400400 ≤ a ∧ a < 0x400500 then decide ((a - 0x400400) / 16 = h)
    else true
  | some 4 => decide (a < 0x40400) && decide ((a - 0x40000) / 64 = h)
  | _ => true

/-- The rights filter's answer for one byte (R446, R447). -/
def rightsEnd (s : State) (x : Acc) (p a : Nat) : Option (Nat × Nat) :=
  match blockBit a with
  | none => none
  | some b =>
    if !bit (s.rd (if x.write then R.GRD_HR_WR p else R.GRD_HR_RD p)).toNat b then some (5, b)
    else if decide (p < 16) && !s.objectOk x p a then some (6, 0)
    else none

/-- The gate's answer for one byte (R443, R445). -/
def gateEnd (s : State) (x : Acc) (a : Nat) : Option (Nat × Nat) :=
  match gateOf a with
  | none => none
  | some k =>
    if !bit (s.rd (if x.write then R.GRD_GATE_WR k else R.GRD_GATE_RD k)).toNat x.m then some (4, k)
    else if x.user && s.on (R.GRD_GATE_CTL k) F.GRD_GATE_CTL_PRIV then some (4, k)
    else none

/-- The first end of an access that a check refuses, with the kind, the index and the end's address. -/
def firstEnd (x : Acc) (chk : Nat → Option (Nat × Nat)) : Option (Nat × Nat × Nat) :=
  [x.addr, x.addr + x.size - 1].findSome? fun a => (chk a).map fun v => (v.1, v.2, a)

/-- The whole access: its guard or rights path checks both ends, then the gates do (R432, R434, R449). None when it passes, else kind,
index and the address of the end that failed. -/
def checkAcc (s : State) (x : Acc) : Option (Nat × Nat × Nat) :=
  (firstEnd x (match rightsPath x.m with | some p => s.rightsEnd x p | none => s.guardEnd x)).orElse fun _ => firstEnd x (s.gateEnd x)

/-- The block that reports a violation (R456). -/
def violSource (m kind index : Nat) : Nat :=
  if kind = 4 then 0x120 + index
  else match rightsPath m with | some p => 0x100 + p | none => 0xF0 + m

/-- A violation is counted, logged when the log is free, and reported then; a control processor takes its access fault
(R450, R451). -/
def violate (s : State) (x : Acc) (k i a : Nat) : State :=
  let lg := R.GRD_VLOG x.m
  let s := s.inc (R.GRD_VCNT x.m) F.GRD_VCNT_COUNT 1
  let s :=
    if s.on lg F.GRD_VLOG_VALID then s
    else
      let s := (((s.set lg F.GRD_VLOG_KIND k).set lg F.GRD_VLOG_INDEX i).set lg F.GRD_VLOG_ACC
        (if x.fetch then 2 else b2n x.write)).set lg F.GRD_VLOG_PRIV (b2n (!x.user))
      ((s.set (R.GRD_VADDR x.m) F.GRD_VADDR_ADDR a).set lg F.GRD_VLOG_VALID 1).raise (violSource x.m k i) 0x2A none (some a) x.m
  if x.m < 4 then s.emit (.accessFault x.m a) else s

/-- A master makes no access: in Night none once the masters are off, and none from outside once its entry has begun (R513); a control
processor none before Boot releases it (R61 step 7) and none while the debugger halts it. -/
def nightShut (s : State) (m : Nat) : Bool :=
  s.pwr.stage == .night || (s.pwr.stage != .awake && decide (9 ≤ m)) || (decide (m < 4) && (!s.boot.cpRun || s.sec.halted.contains m))

/-- Whether the domain that holds a register is powered (R505). -/
def powered (s : State) (a : Nat) : Bool := domainOf a == 0 || bit (s.rd R.PWR_PD_STAT).toNat (domainOf a)

/-- An access to a register wakes its island, which then serves it (R31, R508); one to a domain that is off wakes none. -/
def wakeFor (s : State) (a : Nat) : State := if s.powered a then s.wakeIsland (islandOf a) else s

/-- An access that every check passes is performed; a refused one is a violation and nothing else (R448, R450). -/
def checked (s : State) (x : Acc) (act : State → State) : State :=
  if s.nightShut x.m then s
  else match s.checkAcc x with
  | none => act (s.wakeFor x.addr)
  | some (k, i, a) => s.violate x k i a

/-! ### Accesses of the internal masters to control memory (R432, R438) -/

/-- The pieces of up to 64 bytes, cut at multiples of 64, of an access. -/
def chunksOf (off size : Nat) : List (Nat × Nat) :=
  (upTo (if size = 0 then 0 else (off % 64 + size + 63) / 64)).map fun i =>
    let lo := max off (off / 64 * 64 + 64 * i)
    (lo, min (off / 64 * 64 + 64 * i + 64) (off + size) - lo)

/-- A read of control memory: of a refused one, zeros (R450). -/
def cmemRead (s : State) (m off n : Nat) : State × List Byte :=
  let x : Acc := { Acc.word m false (0x1000000 + off) 0 with size := n }
  (s.checked x id, if s.nightShut m || (s.checkAcc x).isSome then List.replicate n 0 else s.cmemBytes off n)

/-- A write of control memory: a refused one is discarded (R450). -/
def cmemStore (s : State) (m off : Nat) (bs : List Byte) : State :=
  s.checked { Acc.word m true (0x1000000 + off) 0 with size := bs.length } fun s => s.cmemPut off bs

/-- Pieces of control memory read one after another. -/
def cmemReads (m : Nat) : List (Nat × Nat) → State → State × List Byte
  | [], s => (s, [])
  | p :: t, s =>
    let (s, b) := s.cmemRead m p.1 p.2
    let (s, bs) := cmemReads m t s
    (s, b ++ bs)

/-! ### Fences (R264, R399, R454) -/

/-- The entry writes that the table writer's queue still holds. -/
def entriesLeft (s : State) : Nat := (s.tblw.q.filter fun c => match c with | .entry .. => true | _ => false).length

/-- Every job dispatched before the marked one has ended in each den. -/
def jobsDone (s : State) (marks : Tab Nat) : Bool :=
  (upTo 16).all (fun d => (s.den d).jobs.all (fun e => match e.2 with
    | some j => decide (marks.get dZero d ≤ j.no)
    | none => true))

/-- The FLASH_READs numbered below `n` that have passed their check and not written control memory (R453). -/
def flashFills (s : State) (n : Nat) : Bool := s.chan.flashQ.any fun o => o.op == 5 && bit o.buf 63 && decide (o.no < n)

/-- A read of a fence made now. -/
def fenceRd (s : State) (m a : Nat) (via : ReadVia) (got : List Byte) (rest : List Nat) : FenceRd :=
  ⟨m, a, via, got, rest, s.tblw.acc, (upTo 16).foldl (fun t d => t.put dZero d (s.den d).fenceAt) [], s.wen.wrs.map (·.id), s.chan.flashNo⟩

/-- Whether a read of a fence may return, behind the reads held before it: of TBL_FENCE once every entry write accepted before it stands
in every powered den and every job dispatched before the last of them took effect there has ended (R264); of WEN_FENCE once the host writes
checked before it have been issued (R399); of GRD_FENCE once every access checked before it has retired (R454). -/
def fenceMet (s : State) (before : List FenceRd) (x : FenceRd) : Bool :=
  if x.addr = R.TBL_FENCE then decide (x.acc + s.entriesLeft ≤ s.tblw.acc) && s.jobsDone x.marks
  else if x.addr = R.WEN_FENCE then !x.wrs.any fun i => s.wen.wrs.any fun w => w.id == i
  else before.isEmpty && !s.flashFills x.flash

/-- A register that is a fence. -/
def isFence (a : Nat) : Bool := a == R.TBL_FENCE || a == R.WEN_FENCE || a == R.GRD_FENCE

/-- A read of a word by a master would wait. -/
def fenceWaits (s : State) (m a : Nat) : Bool := isFence a && !s.fenceMet s.tblw.fences (s.fenceRd m a .word [] [])

/-- A read is held. -/
def fenceHold (s : State) (x : FenceRd) : State := { s with tblw := { s.tblw with fences := s.tblw.fences ++ [x] } }

/-- A read of a fence by a command of its own: 0 once it is met. -/
def fenceWord (s : State) (m a : Nat) : State :=
  if s.fenceWaits m a then s.fenceHold (s.fenceRd m a .word [] []) else s.emit (.readData m a (leBytes 4 0))

/-- Where a read of words in ascending order is held: the words in front of the fence, the fence, the words behind it. `ok` says which
words pass their checks, `stop` whether a refused one ends the read. -/
def fenceSplit (s : State) (m : Nat) (ok : Nat → Bool) (stop : Bool) (ws : List Nat) : Option (List Nat × Nat × List Nat) :=
  let pre := ws.takeWhile fun w => if ok w then !s.fenceWaits m w else !stop
  match ws.drop pre.length with
  | w :: t => if ok w then some (pre, w, t) else none
  | [] => none

/-! ### Registers by their field types -/

/-- A gate's registers ignore writes while it is locked (R444). -/
def gateLocked (s : State) (a : Nat) : Bool :=
  decide (0x80100 ≤ a) && decide (a < 0x80160) && s.on (R.GRD_GATE_CTL ((a - 0x80100) / 16)) F.GRD_GATE_CTL_LOCK

/-- A word written to a register, field by field (R10): RW fields take the value, W1C bits clear, W1S bits set. -/
def store (s : State) (m a : Nat) (v : Word) : State :=
  if s.gateLocked a then s
  else
    let k := s.phys m a
    let fs := fieldsAt a
    let rw := BitVec.ofNat 32 (maskOf fs (fun f => decide (f.ty = .rw)))
    let c := BitVec.ofNat 32 (maskOf fs (fun f => decide (f.ty = .w1c)))
    let t := BitVec.ofNat 32 (maskOf fs (fun f => decide (f.ty = .w1s)))
    let old := s.rd k
    s.wr k ((((old &&& ~~~rw) ||| (v &&& rw)) &&& ~~~(v &&& c)) ||| (v &&& t))

/-- The RC fields of a register are cleared by a read of it (R10, R569). -/
def clearRc (s : State) (m a : Nat) : State :=
  let k := s.phys m a
  let c := BitVec.ofNat 32 (maskOf (fieldsAt a) (fun f => decide (f.ty = .rc)))
  s.wr k (s.rd k &&& ~~~c)

/-- The port that a register of the sett belongs to: of SETT_PCFG, SETT_SCHED, SETT_QCFG, SETT_QCFG2 and SETT_QSTAT. -/
def settPort (a : Nat) : Option Nat :=
  if 0x201000 ≤ a ∧ a < 0x201200 then some ((a - 0x201000) / 4)
  else if 0x202000 ≤ a ∧ a < 0x202800 then some ((a - 0x202000) / 16)
  else if 0x204000 ≤ a ∧ a < 0x206000 then some ((a - 0x204000) / 64)
  else if 0x206000 ≤ a ∧ a < 0x207000 then some ((a - 0x206000) / 32)
  else none

/-- The bits of a register that are no reserved bits. -/
def fieldMask (a : Nat) : Word := BitVec.ofNat 32 (maskOf (fieldsAt a) fun _ => true)

/-- What a register shows to a read: its reserved bits and WO fields read 0 (R10; no WO field is kept); a register of the sett whose
port is not enabled its reset value, but for DROPS (R237). -/
def peek (s : State) (m a : Nat) : Word :=
  match settPort a with
  | some P =>
    if s.portEn P then s.rd a &&& fieldMask a
    else if 0x206000 ≤ a then setFld (resetWord a) F.SETT_QSTAT_DROPS (s.get a F.SETT_QSTAT_DROPS)
    else resetWord a
  | none => s.rd (s.phys m a) &&& fieldMask a

/-- A write of a word to a register with an effect of its own: checked, counted when the register's domain is off, else
performed by `act` (R434, R505). -/
def cmdWrite (s : State) (m a : Nat) (v : Word) (act : State → State) : State :=
  s.checked (.word m true a v.toNat) fun s =>
    if s.powered a then act s else s.inc R.PWR_LP_STAT F.PWR_LP_STAT_OFF_ACC 1

/-- The field of a written word. -/
def wfld (v : Word) (f : Fld) : Nat := fldOf v f
def won (v : Word) (f : Fld) : Bool := fldOf v f != 0

end State

end Sys2Proof.Machine
end

