-- ==== Sys2Proof/Machine/VfMap.lean ====
section
/-! DEFINITION. The VF map (R184 to R189, R207) and the places of a TLP header that the egress group of a shared port rewrites
(R187, R188; 09_stock_programs.md). The places are those of the PCI Express standard, which the spec names and does not
repeat (notes/assumptions/27.md). -/

namespace Sys2Proof.Machine

/-- The value of a register of a fresh configuration space where it is not 0: the standard's masks and severities of AER
(notes/assumptions/27.md). The space holds a register's difference from it. -/
def cfgBase : CfgReg → Word
  | .aerUncMask => 0x00400000
  | .aerUncSeverity => 0x00462030
  | .aerCorMask => 0x00006000
  | _ => 0

/-- A table descriptor from its 16 bytes (R253); its base as a byte offset. -/
def tdescOf (b : List Byte) : TDesc :=
  let b0 := (b.getD 0 0).toNat
  { ty := b0 % 8, esize := 8 * 2 ^ (b0 / 8 % 4), keylen := (b.getD 1 0).toNat,
    base := fieldAt b 4 4 % 32768 * 64, count := fieldAt b 8 4, seed := fieldAt b 12 4 }

/-- A VF map entry in force (R185), with its byte offset in the table master copy. -/
structure VfEnt where
  off : Nat
  ghd : Nat
  gvport : Nat
  gfn : Nat
  pport : Nat
  prid : Nat
  proxy : Nat
  size : List Nat
  deriving DecidableEq, Repr

/-- The entry that 64 bytes hold; none when VALID is 0. -/
def vfOf (off : Nat) (b : List Byte) : Option VfEnt :=
  if bit (fieldAt b 0 1) 0 then
    some ⟨off, fieldAt b 1 1 % 16, fieldAt b 2 1 % 32, fieldAt b 2 1 / 32, fieldAt b 3 1 % 128, fieldAt b 4 2, fieldAt b 6 2,
      [fieldAt b 8 1, fieldAt b 9 1, fieldAt b 10 1]⟩
  else none

/-- The byte offsets of the VF map: the entries of the direct tables of 64 B entries that a master copy describes
(notes/assumptions/28.md: R185 gives the entry and no place). -/
def vfPlaces (t : Tab Byte) : List Nat :=
  (upTo 64).flatMap fun n =>
    let d := tdescOf (bytesAt zeroByte t (16 * n) 16)
    if d.ty = 1 ∧ d.esize = 64 then (upTo (min d.count 32752)).map (fun i => d.base + 64 * i) else []

/-- The valid entries of a master copy. -/
def vfAll (t : Tab Byte) : List VfEnt := (vfPlaces t).filterMap fun o => vfOf o (bytesAt zeroByte t o 64)

/-- The first byte of a TLP's header: behind up to four prefixes in non-FLIT mode (R244, 09_stock_programs.md). -/
def hdrOff : Nat → List Byte → Nat
  | 0, _ => 0
  | n + 1, b => if bits (b.getD 0 0).toNat 5 3 = 4 then 4 + hdrOff n (b.drop 4) else 0

def tlpHdr (flit : Bool) (b : List Byte) : Nat := if flit then 0 else hdrOff 4 b

/-- A two-byte ID of a header, most significant byte first. -/
def idAt (b : List Byte) (o : Nat) : Nat := (b.getD o 0).toNat * 256 + (b.getD (o + 1) 0).toNat
def idPut (b : List Byte) (o v : Nat) : List Byte := (b.set o (BitVec.ofNat 8 (v / 256))).set (o + 1) (BitVec.ofNat 8 v)

/-- A header's tag replaced: 14 bits in bytes 6 and 7 in FLIT mode; else 10 bits, bits 9 and 8 in bits 7 and 3 of byte 1 and
the low 8 in byte `lo` (6 of a request, 10 of a completion). -/
def tagPut (flit : Bool) (b : List Byte) (o lo v : Nat) : List Byte :=
  if flit then
    (b.set (o + 6) (BitVec.ofNat 8 ((b.getD (o + 6) 0).toNat / 64 * 64 + v / 256 % 64))).set (o + 7) (BitVec.ofNat 8 v)
  else
    let b1 := (b.getD (o + 1) 0).toNat
    let b1 := b1 - bits b1 7 1 * 128 - bits b1 3 1 * 8 + bits v 9 1 * 128 + bits v 8 1 * 8
    (b.set (o + 1) (BitVec.ofNat 8 b1)).set (o + lo) (BitVec.ofNat 8 v)

/-- The address of a memory request: 64 bits when byte 0 bit 5 of the header is 1, else 32 (R327). -/
def tlpAddr (flit : Bool) (b : List Byte) : Nat :=
  let o := tlpHdr flit b
  let n := if bit (b.getD o 0).toNat 5 then 8 else 4
  leNat ((b.drop (o + 8)).take n).reverse

/-- A message's code. -/
def msgCode (flit : Bool) (b : List Byte) : Nat := (b.getD (tlpHdr flit b + 7) 0).toNat

/-- Whether a request asks for a completion (R191, R249). -/
def nonPostedKind (k : TlpKind) : Bool := [TlpKind.mrd, .mrdLk, .cfgRd, .cfgWr, .ioRd, .ioWr, .atomic, .ats].contains k

/-- The data that a Successful Completion of a request carries (R249): the requested length of a read, 4 B of an I/O or
configuration read, one operand of an AtomicOp, of which compare-and-swap (type 0b01110) carries two; none of a write. -/
def cplNeed (t : Tlp) : Nat :=
  match t.kind with
  | .mrd | .mrdLk | .ats => t.len
  | .ioRd | .cfgRd => 4
  | .atomic => if (t.bytes.getD (tlpHdr t.flit t.bytes) 0).toNat % 32 = 14 then t.len / 2 else t.len
  | _ => 0

/-- The length of a TLP's payload, which holds data credits (R217). -/
def payloadLen (t : Tlp) : Nat :=
  match t.kind with
  | .mwr | .msg | .vdm | .atomic | .atsInv | .atsCpl => t.len
  | .cfgWr | .ioWr => 4
  | .cpl => t.cplLen
  | _ => 0

/-- The kind of a TLP by the first byte of its header (notes/assumptions/27.md). -/
def kindOf (b0 : Nat) : TlpKind :=
  let wr := bit b0 6
  match b0 % 32 with
  | 0 | 3 => if wr then .mwr else .mrd
  | 1 => .mrdLk
  | 2 => if wr then .ioWr else .ioRd
  | 4 | 5 => if wr then .cfgWr else .cfgRd
  | 10 | 11 => .cpl
  | 12 | 13 | 14 => .atomic
  | _ => .msg

/-- The flow-control type of a TLP: 0 posted, 1 non-posted, 2 completion. -/
def fcType (t : Tlp) : Nat := if t.kind = .cpl then 2 else if nonPostedKind t.kind then 1 else 0

/-- The data credits that a TLP holds (R217). -/
def fcData (t : Tlp) : Nat := (payloadLen t + 15) / 16

/-- A TLP that ends a request (R192). -/
def endsRequest (t : Tlp) : Bool := t.kind == .cpl || t.kind == .atsCpl

/-- Whether a TLP is routed by the ID in bytes 8 and 9 of its header: configuration requests, completions, and messages whose route, bits
2:0 of the type, is 2 (notes/assumptions/27.md). -/
def idRouted (t : Tlp) (b : List Byte) (o : Nat) : Bool :=
  match t.kind with
  | .cfgRd | .cfgWr | .cpl => true
  | .msg | .vdm | .atsInv | .atsCpl => (b.getD o 0).toNat % 8 == 2
  | _ => false

/-- The tag of a request (notes/assumptions/27.md). -/
def tagOf (flit : Bool) (b : List Byte) (o : Nat) : Nat :=
  let b1 := (b.getD (o + 1) 0).toNat
  let lo := (b.getD (o + (if flit then 7 else 6)) 0).toNat
  if flit then (b.getD (o + 6) 0).toNat % 64 * 256 + lo else b1 / 128 * 512 + bits b1 3 1 * 256 + lo

/-- The facts of a TLP that firmware injected (R334), read off its header. -/
def injTlp (flit : Bool) (b : List Byte) : Tlp :=
  let o := tlpHdr flit b
  let b0 := (b.getD o 0).toNat
  let dw := (b.getD (o + 2) 0).toNat % 4 * 256 + (b.getD (o + 3) 0).toNat
  let len := 4 * (if dw = 0 then 1024 else dw)
  let b1 := (b.getD (o + 1) 0).toNat
  let b2 := (b.getD (o + 2) 0).toNat
  { kind := kindOf b0, reqId := idAt b (o + (if kindOf b0 = .cpl then 8 else 4)), tag := tagOf flit b o, len := len
    tc := if flit then b1 / 32 else b1 / 16 % 8, flit := flit, poisoned := false, nullified := false, ide := false
    digest := if flit then b2 / 32 == 1 else bit b2 7
    pasid := none, cplLen := if bit b0 6 then len else 0, bytes := b }

namespace State

/-- The role of a PCI Express port (R168): 0 none, 1 upstream, 2 dedicated, 3 shared; and its domain. -/
def role (s : State) (P : Nat) : Nat := s.get (R.GRP_PCIE_STAT (P / 8) (P % 8)) F.GRP_PCIE_STAT_ROLE
def roleHd (s : State) (P : Nat) : Nat := s.get (R.GRP_PCIE_STAT (P / 8) (P % 8)) F.GRP_PCIE_STAT_HD_ACT
def roleVdev (s : State) (P : Nat) : Nat := s.get (R.GRP_PCIE_STAT (P / 8) (P % 8)) F.GRP_PCIE_STAT_VDEV_ACT

/-- The physical port that stands as device n on a domain's internal bus. -/
def portOfVdev (s : State) (h n : Nat) : Option Nat :=
  (upTo 128).find? fun P => s.isPcie P && decide (2 ≤ s.role P) && s.roleHd P == h && s.roleVdev P == n

/-- The entries that count: a GVPORT that a physical port of GHD uses makes an entry ignored (R207). -/
def vfMap (s : State) : List VfEnt := (vfAll s.tblw.master).filter fun e => (s.portOfVdev e.ghd e.gvport).isNone

/-- The VFs behind a synthetic port. -/
def vfsBehind (s : State) (h n : Nat) : List VfEnt := s.vfMap.filter fun e => e.ghd == h && e.gvport == n

/-- The entry whose PROXY a request that leaves a shared port carries as its Requester ID (R188). -/
def proxyOf (s : State) (P rid : Nat) : Option VfEnt :=
  if s.role P = 3 then s.vfMap.find? fun e => e.pport == P && e.proxy == rid else none

/-- The entry of the forwarded VF of a shared port that a Requester ID names (R184, R187). -/
def vfEntOf (s : State) (P rid : Nat) : Option VfEnt :=
  if s.role P = 3 then s.vfMap.find? fun e => e.pport == P && e.prid == rid else none

/-- The domain and the virtual port's function that a packet of a port with this Requester ID enters by: the guest's synthetic port for a
forwarded VF, the port's own otherwise (R184, R187). -/
def virtOf (s : State) (P rid : Nat) : Nat × Nat :=
  match s.vfEntOf P rid with
  | some e => (e.ghd, 2 + e.gvport)
  | none => (s.roleHd P, if s.role P = 1 then 0 else 2 + s.roleVdev P)

/-- The proxy tags of a port in use, and those free (R188: 1,024). -/
def proxyTags (s : State) (P : Nat) : List Nat := ((s.port P).tracked.filter (·.proxy)).map (·.tag)
def proxyFree (s : State) (P : Nat) : List Nat := let u := s.proxyTags P; (upTo 1024).filter fun t => !u.contains t

/-- The bus number behind a virtual port, in a domain's configuration space: function 2 + n, its bus numbers (R186). -/
def secBus (s : State) (h n : Nat) : Nat := bits (s.cfgWord h (2 + n) .busNumbers).toNat 8 8

/-- The guest-view ID of a forwarded VF (R187). -/
def guestId (s : State) (e : VfEnt) : Nat := s.secBus e.ghd e.gvport * 256 + e.gfn

/-- Where a request in a domain's hierarchy comes from by its Requester ID: the physical port and the function of the virtual port it
enters by, one of those whose bus numbers hold its bus, else the upstream port. -/
def reqVport (s : State) (h rid : Nat) : Nat × Nat :=
  match (upTo 32).find? fun n =>
      let x := (s.cfgWord h (2 + n) .busNumbers).toNat
      decide (0 < bits x 8 8 ∧ bits x 8 8 ≤ rid / 256 ∧ rid / 256 ≤ bits x 16 8)
        && ((s.portOfVdev h n).isSome || (s.vfsBehind h n).any fun e => s.guestId e == rid) with
  | none => ((s.dom h).upPort, 0)
  | some n => (match s.portOfVdev h n with
    | some P => P
    | none => (((s.vfsBehind h n).find? fun e => s.guestId e == rid).map (·.pport)).getD (s.dom h).upPort, 2 + n)

/-- A BAR of a domain's DMF: base and log2 size; BAR0 is 128 MiB (R180). -/
def dmfBar (s : State) (h n : Nat) : Nat × Nat :=
  let lo := (s.cfgWord h 1 (.bar n)).toNat
  let hi := (s.cfgWord h 1 (.barHigh n)).toNat
  let sz := if n = 0 then 27 else if n = 2 then (s.dom h).apnSz else (s.dom h).appSz
  ((hi * 2 ^ 32 + lo) / 2 ^ sz * 2 ^ sz, sz)

/-- The BAR of a domain's DMF that holds an address, while the DMF decodes memory (R329; Memory Space Enable is bit 1 of
Command). -/
def inDmf (s : State) (h a : Nat) : Option Nat :=
  if bit (s.cfgWord h 1 .command).toNat 1 then
    [0, 2, 4].find? fun n => let b := s.dmfBar h n; decide (b.1 ≤ a) && decide (a < b.1 + 2 ^ b.2)
  else none

/-- An error logged in the AER of a function of a domain, seen at port P: codes 1 Unsupported Request, 2 Unexpected Completion, 3 ACS
Violation, 4 Uncorrectable Internal Error, 5 link error, 6 Completer Abort, 7 DPC triggered. The AER status has the bit of the standard
for it, and Device Status shows a fatal or a non-fatal error by its severity, and an unsupported request (notes/assumptions/27.md). -/
def aerIn (s : State) (P h fn code : Nat) : State :=
  let b := BitVec.ofNat 32 ([0, 2 ^ 20, 2 ^ 16, 2 ^ 21, 2 ^ 22, 2 ^ 4, 2 ^ 15].getD code 0)
  let fatal := (s.cfgWord h fn .aerUncSeverity ^^^ cfgBase .aerUncSeverity) &&& b != 0
  let d : Word := (if b = 0 then 0 else if fatal then 4 else 2) ||| (if code = 1 then 8 else 0)
  let s := s.setCfg h fn .deviceStatus (s.cfgWord h fn .deviceStatus ||| d)
  (s.setCfg h fn .aerUncorrectable (s.cfgWord h fn .aerUncorrectable ||| b)).emit (.aer h P code)

/-- An error logged in a port's own virtual port (R196). -/
def aerAt (s : State) (P code : Nat) : State :=
  if s.role P = 0 then s else s.aerIn P (s.roleHd P) (if s.role P = 1 then 0 else 2 + s.roleVdev P) code

/-! ### Slot registers of a virtual port (R478, R497 to R499) -/

def slot (s : State) (sc : Nat) : Slot := s.slots.get (fun _ => {}) sc
def setSlot (s : State) (sc : Nat) (f : Slot → Slot) : State := { s with slots := s.slots.upd (fun _ => {}) sc f }

/-- The port a slot is bound to, when the binding is valid (R478): a downstream port that no lower slot names. -/
def slotPort (s : State) (sc : Nat) : Option Nat :=
  match (s.slot sc).bind with
  | none => none
  | some P =>
    if s.isPcie P && decide (2 ≤ s.role P) && !(upTo sc).any (fun k => (s.slot k).bind == some P) then some P else none

/-- The slot controller whose virtual port a device of the internal bus is. -/
def slotOf (s : State) (h n : Nat) : Option Nat :=
  match s.portOfVdev h n with
  | some P => (upTo 16).find? fun sc => s.slotPort sc == some P
  | none => none

/-- The standard's condition for a hot-plug interrupt (R498, R499): Hot-Plug Interrupt Enable, bit 5 of Slot Control, and a status bit
of Slot Status whose enable is set: 1 power fault, 3 presence, 4 command completed, 8 the link layer's state, whose enable is bit 12
(notes/assumptions/27.md). -/
def hotPlugDue (ctl st : Nat) : Bool := bit ctl 5 && [(1, 1), (3, 3), (4, 4), (8, 12)].any fun p => bit st p.1 && bit ctl p.2

/-- A bit of Slot Status set in a virtual port; the interrupt leaves when its condition becomes true, and does not ask for Bus Master
Enable of the DMF (R499). -/
def slotStatusPut (s : State) (h n b : Nat) : State :=
  let w := s.cfgWord h (2 + n) .slotStatus
  let v := w ||| BitVec.ofNat 32 (2 ^ b)
  let ctl := (s.cfgWord h (2 + n) .slotControl).toNat
  let s := s.setCfg h (2 + n) .slotStatus v
  if hotPlugDue ctl v.toNat && !hotPlugDue ctl w.toNat then s.emit (.hotPlug h n) else s

/-- Data Link Layer State Changed of a bound port (R498). -/
def linkStateMoved (s : State) (P : Nat) : State :=
  if decide (2 ≤ s.role P) && (s.slotOf (s.roleHd P) (s.roleVdev P)).isSome then s.slotStatusPut (s.roleHd P) (s.roleVdev P) 8 else s

end State

end Sys2Proof.Machine
end

