-- ==== Sys2Proof/Machine/Sett.lean ====
section
/-! DEFINITION. The switch core: cells, banks and quarters (R208 to R212), the cell check (R213 to R216), accounting and
admission (R217 to R223, R620), scheduling (R224 to R226), cut-through (R227 to R229), marking and mirroring (R230 to
R233), and the release of decision descriptors (R23, R246 to R251). All in 06_switch_core.md and 07_forwarding_model.md. -/

namespace Sys2Proof.Machine

namespace Desc
/-- Descriptor fields by the numbers of R246. -/
def fld (d : Desc) (k : Nat) : Nat := d.f.getD k 0
def action (d : Desc) : Nat := d.fld 0
def dest (d : Desc) : Nat := d.fld 1
def mcast (d : Desc) : Nat := d.fld 2
def tc (d : Desc) : Nat := d.fld 3
def mark (d : Desc) : Nat := d.fld 4
def sample (d : Desc) : Nat := d.fld 5
def reason (d : Desc) : Nat := d.fld 6
def cplst (d : Desc) : Nat := d.fld 7
def strip (d : Desc) : Nat := d.fld 8
def pushn (d : Desc) : Nat := d.fld 9
def put (d : Desc) (k v : Nat) : Desc := { f := d.f.set k v, actionSet := d.actionSet || k == 0 }
/-- The initial values of R246: ACTION DROP, TC the packet's, REASON 0x80. -/
def init (tc : Nat) : Desc := { f := [1, 0, 0, tc, 0, 0, 0x80, 0, 0, 0, 0, 0, 0, 0], actionSet := false }
/-- The push words in use, as bytes. -/
def pushBytes (d : Desc) : List Byte := (upTo d.pushn).flatMap (fun i => leBytes 4 (d.fld (10 + i)))
end Desc

namespace Pkt
/-- The packet has arrived as a PCI Express TLP. -/
def isTlp (p : Pkt) : Bool := p.tlp.isSome
/-- Firmware has injected the packet (R334). -/
def injected (p : Pkt) : Bool := p.cls % 32 == 24
/-- The kind of a TLP, of one that firmware injected by its header (R334). -/
def kind (p : Pkt) : Option TlpKind :=
  match p.tlp with
  | some t => some t.kind
  | none => if p.injected then some (injTlp false (p.bytes.drop 4)).kind else none
/-- Non-posted TLPs await a completion (R249). -/
def nonPosted (p : Pkt) : Bool := p.kind.any nonPostedKind
/-- Completions. -/
def isCpl (p : Pkt) : Bool := p.kind == some .cpl
/-- Cells the packet needs: its bytes in cells of 256 (R209). -/
def need (p : Pkt) : Nat := (p.bytes.length + 255) / 256
end Pkt

/-- The bytes a copy leaves its port with, before marks and check updates (R247). -/
def outBytes (p : Pkt) (d : Desc) (view : List Byte) : List Byte :=
  let h := min 128 p.bytes.length
  d.pushBytes ++ ((view.take h).drop (4 * d.strip)) ++ p.bytes.drop h

/-- What the end-to-end check covers of a packet: of one that firmware injected, all but the 4 B word in front (R334). -/
def covered (p : Pkt) : List Byte := if p.injected then p.bytes.drop 4 else p.bytes

/-- A fabric packet's end-to-end check moved by the difference of the changed bytes (R231, R248): an error already in the
stored packet stays. `bad` inverts the correct value (R215). -/
def fabricOut (old new : List Byte) (bad : Bool) : List Byte :=
  let ob := old.take (old.length - 4)
  let nb := new.take (new.length - 4)
  let c := if bad then crc32c nb ^^^ 0xFFFFFFFF
           else fieldAt old (old.length - 4) 4 ^^^ crc32c ob ^^^ crc32c nb
  nb ++ leBytes 4 c

/-- A TLP's digest moved in the same way when it carries one (R248); the digest is the CRC-32 of the standard
(notes/assumptions/14.md). -/
def digestOut (old new : List Byte) : List Byte :=
  let ob := old.take (old.length - 4)
  let nb := new.take (new.length - 4)
  nb ++ leBytes 4 (fieldAt old (old.length - 4) 4 ^^^ crc32 ob ^^^ crc32 nb)

/-- The congestion mark of a fabric header: bit 24 (R376). -/
def setMark (bs : List Byte) : List Byte := bs.set 3 (bs.getD 3 0 ||| 1)

namespace State

/-! ### Cells and banks -/

/-- A quarter takes cells when it is enabled and powered (R212). -/
def quarterOn (s : State) (q : Nat) : Bool :=
  bit (s.get R.SETT_CFG F.SETT_CFG_QTR_EN) q && bit (s.get R.SETT_STAT F.SETT_STAT_QTR_ON) q

/-- A bank out of service (R216). -/
def bankOut (s : State) (b : Nat) : Bool :=
  if b < 32 then bit (s.rd R.SETT_BANK_OUT_0).toNat b else bit (s.rd R.SETT_BANK_OUT_1).toNat (b - 32)

/-- The slots of a bank in use, in rising order. -/
def bankUsed (s : State) (b : Nat) : List Nat :=
  (s.sett.cells.filter (fun e => e.1 / 8192 == b)).map (fun e => e.1 % 8192)

/-- The slots of a bank taken out of service (R216). -/
def bankRetired (s : State) (b : Nat) : List Nat :=
  (s.sett.retired.filter (fun c => c / 8192 == b)).map (fun c => c % 8192)

/-- Free cells of a bank that is enabled. -/
def bankFree (s : State) (b : Nat) : Nat :=
  if s.quarterOn (b / 16) && !s.bankOut b then
    8192 - ((s.bankUsed b).filter (fun x => !(s.bankRetired b).contains x)).length - (s.bankRetired b).length
  else 0

/-- Free cells in enabled quarters. -/
def freeCells (s : State) : Nat := (upTo 64).foldl (fun acc b => acc + s.bankFree b) 0

/-- SETT_STAT.FREE follows the free cells. -/
def refreshFree (s : State) : State := s.set R.SETT_STAT F.SETT_STAT_FREE s.freeCells

/-- The first slot of a bank from `k` on that no list holds. -/
def slotFrom (busy : List Nat) : Nat → Nat → Nat
  | 0, k => k
  | n + 1, k => if busy.contains k then slotFrom busy n (k + 1) else k

/-- The index of an ingress in the tables of rotations and mirror countdowns: its group, 16 the control port, 17 the
window-engine port (R209, R232). -/
def ingressIdx (port : Nat) : Nat := if port < 128 then port / 8 else port - 112

/-- Where a rotation starts (R209). -/
def rotStart (i : Nat) : Nat := if i < 16 then 4 * i else if i = 16 then 2 else 34
def dRot : Nat → Nat := rotStart

/-- The first bank of a rotation from `b` on that has a free cell, in at most `n` tries. -/
def pickBank (s : State) : Nat → Nat → Option Nat
  | 0, _ => none
  | n + 1, b => if 0 < s.bankFree b then some b else pickBank s n ((b + 1) % 64)

/-- The depth of a queue in cells. -/
def depth (s : State) (q : Nat) : Nat := s.get (R.SETT_QSTAT q) F.SETT_QSTAT_DEPTH

/-- The ingress reserve of a port in cells (R217): a fabric link's pools at 4 units a cell, a PCI Express port's IN_RES
as sampled at its reset; the control port and the window-engine port have none. -/
def reserve (s : State) (P : Nat) : Nat :=
  if 128 ≤ P then 0
  else if s.isFabric P then
    (64 + (s.link (P / 8) (P % 8)).pool1 + (s.link (P / 8) (P % 8)).pool2) / 4
  else clampTo 16 8192 (s.sett.inRes.get (fun _ => 256) P)

/-- The cells charged to an ingress port: those of its packets that no egress queue has taken over (R217); a mirror copy holds
no ingress credit (R233). -/
def charged (s : State) (P : Nat) : Nat :=
  s.sett.pkts.foldl (fun acc e => match e.2 with
    | some k => if k.port = P ∧ k.refs = 0 ∧ k.fin = false then acc + k.cells.length else acc
    | none => acc) 0

/-- The shared free count F (R218). -/
def sharedFree (s : State) : Nat :=
  let ports := (upTo 128).filter (fun P => s.portEn P)
  s.freeCells
    - min 131072 (s.get R.SETT_POOL F.SETT_POOL_HEADROOM)
    - ports.foldl (fun acc P => acc + (upTo 8).foldl (fun a t =>
        a + (s.get (R.SETT_QCFG (P * 8 + t)) F.SETT_QCFG_MIN - s.depth (P * 8 + t))) 0) 0
    - ports.foldl (fun acc P => acc + (s.reserve P - s.charged P)) 0

/-- A cell of 256 B for an arriving packet (R209, R620): the next bank of the rotation, from the reserve or from F; its CRC-32C is
stored with it (R210). -/
def allocCell (s : State) (P : Nat) (data : List Byte) : Option (Nat × State) :=
  if s.charged P < s.reserve P ∨ 0 < s.sharedFree then
    let i := ingressIdx P
    match s.pickBank 64 (s.sett.rot.get dRot i) with
    | some b =>
      let busy := s.bankUsed b ++ s.bankRetired b
      let c := b * 8192 + slotFrom busy busy.length 0
      let b256 := padTo 256 data
      let s := s.setSett fun t => { t with
        cells := t.cells.put dCell c ⟨b256, crc32c b256⟩, rot := t.rot.put dRot i ((b + 1) % 64) }
      some (c, (s.count 32 1 0 1).refreshFree)
    | none => none
  else none

def pkt (s : State) (pid : Nat) : Option Pkt := s.sett.pkts.get dNone pid
def setPkt (s : State) (pid : Nat) (k : Option Pkt) : State :=
  s.setSett fun t => { t with pkts := t.pkts.put dNone pid k }

/-- Write a packet's remaining cells while the ingress finds cells (R620): `n` bounds the cells. -/
def writeCells : Nat → Nat → State → State
  | 0, _, s => s
  | n + 1, pid, s =>
    match s.pkt pid with
    | some k =>
      if k.left = 0 then s
      else match s.allocCell k.port ((k.bytes.drop (256 * k.cells.length)).take 256) with
        | some (c, s) => writeCells n pid (s.setPkt pid (some { k with cells := k.cells ++ [c], left := k.left - 1 }))
        | none => s
    | none => s

/-- The ingress of a port goes on writing its stopped packets in arrival order (R620). -/
def resumeIngress : Nat → Nat → State → State
  | 0, _, s => s
  | n + 1, P, s =>
    match s.sett.stalled.get dNil P with
    | [] => s
    | pid :: rest =>
      let s := writeCells 32 pid s
      match s.pkt pid with
      | some k =>
        if k.left = 0 then
          resumeIngress n P (s.setSett fun t => { t with stalled := t.stalled.put dNil P rest })
        else s
      | none => resumeIngress n P (s.setSett fun t => { t with stalled := t.stalled.put dNil P rest })

/-- The classes of the priority header queue (R240). -/
def prioCls (c : Nat) : Bool := [16, 24, 48, 56].contains c

/-- A packet's header enters its den: the time is m6 (R245). -/
def stamp (s : State) (pid : Nat) : State :=
  match s.pkt pid with | some k => s.setPkt pid (some { k with arr := s.now }) | none => s

/-- Headers that waited for a place move up in arrival order, each queue for itself (R241); they enter the den then (R245). -/
def refillP : Nat → Nat → State → State
  | 0, _, s => s
  | n + 1, d, s =>
    match (s.den d).spillP with
    | [] => s
    | pid :: rest =>
      if (s.den d).prio.length < 64 then
        refillP n d ((s.setDen d fun D => { D with spillP := rest, prio := D.prio ++ [pid] }).stamp pid)
      else s
def refill : Nat → Nat → State → State
  | 0, _, s => s
  | n + 1, d, s =>
    match (s.den d).spill with
    | [] => s
    | pid :: rest =>
      if (s.den d).norm.length < 512 then
        refill n d ((s.setDen d fun D => { D with spill := rest, norm := D.norm ++ [pid] }).stamp pid)
      else s

/-- The header queues of a den fill up after some of their headers went. -/
def requeue (s : State) (d : Nat) : State :=
  let s := refill 512 d (refillP 64 d s)
  s.set (R.DEN_HQ_STAT d) F.DEN_HQ_STAT_DEPTH (s.den d).norm.length

/-- Put a packet's header on its den's header queue (R240, R241); a full queue leaves it waiting in arrival order. It wakes a den
quad that is in Dusk (R31 and the collision table of 01_architecture.md). -/
def headerEnqueue (s : State) (pid : Nat) : State :=
  match s.pkt pid with
  | none => s
  | some k =>
    let s := s.wakeIsland (24 + k.den / 4)
    let D := s.den k.den
    let s :=
      if prioCls k.cls then
        (if D.spillP.isEmpty && decide (D.prio.length < 64) then (s.setDen k.den fun D => { D with prio := D.prio ++ [pid] }).stamp pid
         else s.setDen k.den fun D => { D with spillP := D.spillP ++ [pid] })
      else if D.spill.isEmpty && decide (D.norm.length < 512) then
        (s.setDen k.den fun D => { D with norm := D.norm ++ [pid] }).stamp pid
      else s.setDen k.den fun D => { D with spill := D.spill ++ [pid] }
    let n := (s.den k.den).norm.length
    let a := R.DEN_HQ_STAT k.den
    let s := s.set a F.DEN_HQ_STAT_DEPTH n
    if s.get a F.DEN_HQ_STAT_HWM < n then s.set a F.DEN_HQ_STAT_HWM n else s

/-- A packet enters the part (R19 path steps 2 and 3, R238, R245): numbered, ordered in its ingress port and traffic class,
written to the sett as far as cells allow, its header queued for its den. -/
def arrive (s : State) (k : Pkt) : State :=
  if s.mode = 7 then s
  else
  let pid := s.sett.nextPid
  let key := k.port * 8 + k.tc
  let s := s.wakeIsland 7
  let s := s.setSett fun t => { t with
    nextPid := pid + 1
    pkts := t.pkts.put dNone pid (some { k with cells := [], left := k.need, refs := 0, arr := s.now })
    order := t.order.upd dNil key (· ++ [pid]) }
  let s := if (s.sett.stalled.get dNil k.port).isEmpty then writeCells 32 pid s else s
  let s := match s.pkt pid with
    | some k' => if k'.left = 0 then s
                 else s.setSett fun t => { t with stalled := t.stalled.upd dNil k.port (· ++ [pid]) }
    | none => s
  s.headerEnqueue pid

/-! ### Freeing -/

/-- A quarter that is disabled powers down once its last cell in use is freed (R212). -/
def quarterDown (s : State) : State :=
  forAll (upTo 4) (fun q s =>
    if bit (s.get R.SETT_STAT F.SETT_STAT_QTR_ON) q && !bit (s.get R.SETT_CFG F.SETT_CFG_QTR_EN) q
        && (s.sett.cells.filter (fun e => e.1 / 131072 == q)).isEmpty then
      (s.set R.SETT_STAT F.SETT_STAT_QTR_ON (s.get R.SETT_STAT F.SETT_STAT_QTR_ON - 2 ^ q)).setPd (5 + q) false
    else s) s

/-- Cells the window engine held for a slice are free again (R421). -/
def cellsBack (s : State) (sl n : Nat) : State := s.set (R.SLC_U_CELL sl) F.SLC_U_CELL_USE (s.get (R.SLC_U_CELL sl) F.SLC_U_CELL_USE - n)

/-- A TLP leaves its ingress account: the credit it holds goes back to its port's partner (R221, R241). -/
def fcBack (s : State) (k : Pkt) : State :=
  match k.tlp with
  | some t =>
    if k.fc then
      (s.setPort k.port fun p => { p with
        rxHdr := p.rxHdr.upd dZero (fcType t) (· + 1), rxData := p.rxData.upd dZero (fcType t) (· + fcData t) }).emit
          (.fcReturned k.port (fcType t) 1 (fcData t))
    else s
  | none => s

/-- A packet has no egress copy left: no more of it is written, its cells return to their banks and its number is forgotten,
unless its mirror copy has still to be delivered (R211). -/
def freePkt (s : State) (pid : Nat) : State :=
  match s.pkt pid with
  | none => s
  | some k =>
    let s := s.setSett fun t => { t with stalled := t.stalled.upd dNil k.port (·.filter (· != pid)) }
    let s := if k.port = 129 ∧ k.units ≠ 0 then s.cellsBack k.slice k.units else s
    let s := s.fcBack k
    if k.mir then s.setPkt pid (some { k with refs := 0, units := 0, fin := true, fc := false })
    else
      (s.setSett fun t => { t with
        cells := t.cells.drop (fun c => k.cells.contains c), pkts := t.pkts.put dNone pid none }).refreshFree.quarterDown

/-- The mirror copy of a packet has been delivered or discarded (R211). -/
def mirrorDone (s : State) (pid : Nat) : State :=
  match s.pkt pid with
  | none => s
  | some k =>
    let s := s.setPkt pid (some { k with mir := false })
    if k.fin then s.freePkt pid else s

/-- One copy of a packet is done with: the last one frees it (R211). -/
def dropRef (s : State) (pid : Nat) : State :=
  match s.pkt pid with
  | none => s
  | some k => if k.refs ≤ 1 then s.freePkt pid else s.setPkt pid (some { k with refs := k.refs - 1 })

/-- The link credit of a fabric packet returns to its class (R149): CR_COUNT grows by its units. -/
def creditBack (s : State) (k : Pkt) : State :=
  if k.port < 128 ∧ k.units ≠ 0 then
    s.setLink (k.port / 8) (k.port % 8) fun l =>
      if k.ucls = 0 then { l with rx0 := { l.rx0 with granted := (l.rx0.granted + k.units) % 65536 } }
      else if k.ucls = 1 then { l with rx1 := { l.rx1 with granted := (l.rx1.granted + k.units) % 65536 } }
      else { l with rx2 := { l.rx2 with granted := (l.rx2.granted + k.units) % 65536 } }
  else s

/-! ### Completions, samples, traps -/

/-- A completion the device makes for a TLP of port `P` (R249): counted nowhere else. An MRdLk gets the completion for locked reads
(R191). -/
def complete (s : State) (P : Nat) (t : Tlp) (st : CplStatus) (data : List Byte) : State :=
  s.emit (if t.kind = .mrdLk then .completionLk P t.reqId t.tag st data else .completion P t.reqId t.tag st data)

/-- The completion of a dropped or completed non-posted TLP (R249); `exc` after an exception gives Completer Abort (R274). -/
def answer (s : State) (k : Pkt) (d : Desc) (exc : Bool) (completes : Bool) : State :=
  match k.tlp with
  | none => s
  | some t =>
    if !k.nonPosted then s
    else if exc then s.complete k.port t .ca []
    else
      let bad := fun (s : State) => (s.inc (R.DEN_DROP_CNT k.den) F.DEN_DROP_CNT_CPL_BAD 1).complete k.port t .ca []
      if d.cplst = 0 ∨ d.cplst = 2 then s.complete k.port t .ur []
      else if d.cplst = 3 then s.complete k.port t .rrs []
      else if d.cplst = 1 then
        (if !completes then bad s
         else if cplNeed t ≤ 4 * d.pushn then s.complete k.port t .sc (d.pushBytes.take (cplNeed t))
         else bad s)
      else s.complete k.port t .ca []

/-- A sample record (R564): 64 B header and the captured bytes padded to a multiple of 64 B. -/
def sampleRec (k : Pkt) (d : Desc) (kind reason cap : Nat) : SampleRec :=
  let cb := k.bytes.take cap
  let n := cb.length
  { bytes := leBytes 1 (if k.port < 128 then k.port else 128) ++ leBytes 1 kind ++ leBytes 1 k.cls ++ leBytes 1 reason
      ++ leBytes 4 k.bytes.length ++ leBytes 2 n ++ leBytes 2 k.slice ++ leBytes 4 0 ++ leBytes 8 k.arr
      ++ (upTo 10).flatMap (fun i => leBytes 1 (d.fld i)) ++ leBytes 2 0
      ++ (upTo 4).flatMap (fun i => leBytes 4 (d.fld (10 + i))) ++ leBytes 4 0 ++ leBytes 1 k.den ++ leBytes 7 0
      ++ padTo ((n + 63) / 64 * 64) cb }

/-- The mirror countdown of an ingress (R232): it counts candidates down and is reloaded with N, or with a value drawn
around N when JITTER is 1 (a free value within the stated range). DESIGN CHOICE (notes/assumptions/95.md): before its first reload
it holds the N that stands at the first candidate, not a drawn value. The copy selected holds the packet's cells until it is
delivered (R211). -/
def mirrorSelect (s : State) (pid : Nat) (k : Pkt) (d : Desc) : State :=
  let cfg := R.SETT_MIRROR
  if s.on cfg F.SETT_MIRROR_EN && (s.on cfg F.SETT_MIRROR_ALL || d.sample == 1) then
    let i := ingressIdx k.port
    let n := s.get cfg F.SETT_MIRROR_NM1 + 1
    let c := s.sett.mirCnt.get dZero i
    let c := if c = 0 then n else c
    if c = 1 then
      let reload := if s.on cfg F.SETT_MIRROR_JITTER then n - n / 2 + s.freeBelow (2 * (n / 2) + 1) else n
      let s := (if s.on cfg F.SETT_MIRROR_JITTER then s.used else s).setSett fun t =>
        { t with mirCnt := t.mirCnt.put dZero i reload }
      let cap := s.get R.SETT_MIRROR_CNT F.SETT_MIRROR_CNT_QDEPTH
      if s.sett.mirQ.length < (if cap = 0 then 1 else cap) then
        (s.setSett fun t => { t with mirQ := t.mirQ ++ [{ sampleRec k d 0 0 128 with pid := some pid }] }).setPkt pid
          (some { k with mir := true })
      else s.inc R.SETT_MIRROR_CNT F.SETT_MIRROR_CNT_DROP 1
    else s.setSett fun t => { t with mirCnt := t.mirCnt.put dZero i (c - 1) }
  else s

/-- A trapped packet (R276, R349): a control message for the fabric control unit goes to it, every other packet to the
trap queue of 512, or is dropped and counted. -/
def trap (s : State) (k : Pkt) (d : Desc) : State :=
  let s := s.inc (R.DEN_TRAP_CNT k.den) F.DEN_TRAP_CNT_TRAPS 1
  if (k.cls = 16 ∨ k.cls = 48) ∧ (d.reason = 17 ∨ d.reason = 18) then
    let own := s.get R.MGT_FAB_ID F.MGT_FAB_ID_ID
    let msg := (k.bytes.drop 32).take (k.bytes.length - 36)
    let dst := (k.bytes.getD 0 0).toNat
    let opc := (msg.getD 0 0).toNat
    let cand := bit (fieldAt msg 1 1) 0 = false ∧ (opc = 0x11 ∨ (opc = 0x12 ∧ fieldAt msg 17 1 = dst))
    if d.reason = 17 ∨ (s.on R.MGT_FAB_ID F.MGT_FAB_ID_VALID ∧ dst = own) ∨ cand then
      s.setSett fun t => { t with ctlIn := t.ctlIn ++ [(k.port, dst, msg)] }
    else s.inc R.MGT_FAB_ERR F.MGT_FAB_ERR_NOPATH 1
  else if s.sett.trapQ.length < 512 then
    s.setSett fun t => { t with trapQ := t.trapQ ++ [sampleRec k d 1 d.reason k.bytes.length] }
  else s.inc (R.DEN_TRAP_CNT k.den) F.DEN_TRAP_CNT_QFULL 1

/-! ### Admission -/

/-- The admission rule for `c` more cells on queue `q` (R219). -/
def admits (s : State) (q c : Nat) : Bool :=
  let m := s.get (R.SETT_QCFG q) F.SETT_QCFG_MIN
  let f := s.sharedFree
  decide (s.depth q + c ≤ m) ||
  (decide (s.depth q + c ≤ m + f / 2 ^ s.get (R.SETT_QCFG q) F.SETT_QCFG_DYN) && decide (c ≤ f))

def queue (s : State) (q : Nat) : List QEnt := s.sett.queues.get dNil q
def setQueue (s : State) (q : Nat) (l : List QEnt) : State :=
  s.setSett fun t => { t with queues := t.queues.put dNil q l }

/-- A packet is a TLP on its way out of port P: it has come as one, or firmware has injected it for a PCI Express port (R26, R334). -/
def isTlpAt (s : State) (P : Nat) (k : Pkt) : Bool := k.isTlp || (k.injected && s.isPcie P)

/-- The entry at the head of a queue is tested against MARK_TH once, when it gets there (R230). -/
def touchHead (s : State) (q : Nat) : State :=
  match s.queue q with
  | [] => s
  | e :: rest =>
    if e.tested then s
    else
      let th := s.get (R.SETT_QCFG2 q) F.SETT_QCFG2_MARK_TH
      let fab := match s.pkt e.pid with | some k => !s.isTlpAt (q / 8) k | none => false
      let m := fab && decide (th ≠ 0xFFFF) && decide (th < s.depth q)
      let s := s.setQueue q ({ e with tested := true, mark := e.mark || m } :: rest)
      if m then s.count 32 5 q 1 else s

/-- Whether an egress port is idle: its link up, nothing being sent, no packet queued, none in a fabric link's transmitter
(R24, R227). -/
def egressIdle (s : State) (P : Nat) : Bool :=
  let l := s.link (P / 8) (P % 8)
  s.portUp P && (s.sett.sending.get dNone P).isNone && (upTo 8).all (fun t => (s.queue (P * 8 + t)).isEmpty)
    && (!s.isFabric P || [l.tx0, l.tx1, l.tx2].all fun x => x.wait.isEmpty && x.cur.isEmpty)

/-- Cut-through at the admission instant (R24, R227): a packet whose last cell has been written is stored already. -/
def cutsThrough (s : State) (k : Pkt) (P : Nat) : Bool :=
  decide (k.port < 128) && decide (k.left ≠ 0) && !s.on R.SETT_CFG F.SETT_CFG_CT_DIS && s.egressIdle P
    && decide (s.lineRate P ≤ s.lineRate k.port)

/-! ### Forwarded VFs (R184 to R188, R203) -/

/-- The ID of a TLP's sender: the Requester ID, of a completion the completer's (notes/assumptions/27.md). -/
def sender (t : Tlp) : Nat :=
  if t.kind = .cpl ∨ t.kind = .atsCpl then idAt t.bytes (tlpHdr t.flit t.bytes + 4) else t.reqId

/-- The tracked request a completion from a shared port answers (R187, R193). -/
def trackedOf (s : State) (k : Pkt) : Option Tracked :=
  match k.tlp with
  | some t =>
    if k.isCpl && (s.proxyOf k.port t.reqId).isSome then
      (s.port k.port).tracked.find? fun x => x.proxy && x.tag == t.tag
    else none
  | none => none

/-- The entry by which a guest's request leaves a shared port: the program has written PROXY into its Requester ID (R187), or it is a
configuration request to the VF by either of its IDs, which the device rewrites (R186). -/
def vfOut (s : State) (P : Nat) (k : Pkt) (d : Desc) (view : List Byte) : Option VfEnt :=
  match k.tlp with
  | none => none
  | some t =>
    let b := outBytes k d view
    let o := tlpHdr t.flit b
    if t.kind = .cfgRd ∨ t.kind = .cfgWr then
      if s.role P = 3 then
        s.vfMap.find? fun e => e.pport == P && e.ghd == s.roleHd k.port && (idAt b (o + 8) == e.prid || idAt b (o + 8) == s.guestId e)
      else none
    else if t.kind = .cpl ∨ t.kind = .atsCpl then none
    else s.proxyOf P (idAt b (o + 4))

/-- The entry whose proxy tag a request needs on its way out of a shared port (R188). -/
def proxyNeed (s : State) (P : Nat) (k : Pkt) (d : Desc) (view : List Byte) : Option VfEnt :=
  if k.nonPosted then s.vfOut P k d view else none

/-- The domain a TLP comes from: that of the guest for a forwarded VF and for the answer to a guest's request (R187). -/
def fromDomain (s : State) (k : Pkt) (t : Tlp) : Nat :=
  match s.trackedOf k with
  | some x => x.domain
  | none => (s.virtOf k.port (sender t)).1

/-- A TLP that would enter another domain's hierarchy and is no forwarded VF's traffic (R203): it is no request by the PROXY of a VF of its
own domain, and names by its routing ID no such VF behind the shared port it would leave by. -/
def crosses (s : State) (k : Pkt) (d : Desc) (view : List Byte) : Bool :=
  match k.tlp with
  | none => false
  | some t =>
    let b := outBytes k d view
    let o := tlpHdr t.flit b
    let h := s.fromDomain k t
    decide (s.role k.port ≠ 0 ∧ s.role d.dest ≠ 0) && s.roleHd d.dest != h
      && !((s.vfOut d.dest k d view).any fun e => e.ghd == h)
      && !(s.role d.dest == 3 && idRouted t b o && s.vfMap.any fun e => e.pport == d.dest && e.ghd == h && e.prid == idAt b (o + 8))

/-- The virtual port behind which a host's memory request would leave, when its Memory Space Enable is 0 (R191). -/
def notCovered (s : State) (k : Pkt) (d : Desc) (view : List Byte) : Option (Nat × Nat) :=
  match k.tlp with
  | none => none
  | some t =>
    let v := match s.vfOut d.dest k d view with
      | some e => (e.ghd, 2 + e.gvport)
      | none => (s.roleHd d.dest, 2 + s.roleVdev d.dest)
    if s.role k.port = 1 ∧ 2 ≤ s.role d.dest ∧ [TlpKind.mrd, .mwr, .atomic].contains t.kind = true
        ∧ bit (s.cfgWord v.1 v.2 .command).toNat 1 = false then some v
    else none

/-- Whether a queue takes a packet now: its admission rule holds (R219), and a proxy tag is free for a guest's request, which otherwise
waits at its ingress (R188). -/
def canAdmit (s : State) (q : Nat) (k : Pkt) (d : Desc) (view : List Byte) : Bool :=
  s.admits q k.need && ((s.proxyNeed (q / 8) k d view).isNone || !(s.proxyFree (q / 8)).isEmpty)

/-- A guest's request takes a proxy tag, unspecified among the free ones, and is tracked (R188, R193). -/
def takeTag (s : State) (P : Nat) (k : Pkt) (d : Desc) (view : List Byte) : Option Nat × State :=
  match s.proxyNeed P k d view, k.tlp with
  | some v, some t =>
    let fr := s.proxyFree P
    let tag := fr.getD (s.freeBelow fr.length) 0
    (some tag, s.used.setPort P fun p => { p with
      tracked := p.tracked ++ [⟨tag, k.port, t.reqId, t.tag, v.gvport, v.ghd, true⟩] })
  | _, _ => (none, s)

/-- A packet is placed on an egress queue: its cells move to the queue's account, and a TLP's credit returns (R217, R221). -/
def enqueue (s : State) (pid q : Nat) (k : Pkt) (d : Desc) (view : List Byte) : State :=
  let ct := s.cutsThrough k (q / 8)
  let (tag, s) := s.takeTag (q / 8) k d view
  let s := s.setQueue q (s.queue q ++ [⟨pid, d, view, false, decide (d.mark = 1) && !s.isTlpAt (q / 8) k, ct, 0, false, false, false, tag⟩])
  let s := s.set (R.SETT_QSTAT q) F.SETT_QSTAT_DEPTH (s.depth q + k.need)
  let s := match s.pkt pid with | some k => (s.fcBack k).setPkt pid (some { k with refs := k.refs + 1, fc := false }) | none => s
  (s.count 32 (if ct then 2 else 3) 0 1).touchHead q

/-- Whether a later TLP may pass an earlier one that is held (R190, R221). -/
def mayPass (later earlier : Pkt) : Bool :=
  if later.nonPosted then false
  else if later.isCpl then earlier.nonPosted
  else earlier.nonPosted || earlier.isCpl

/-- Whether the TLPs held of an ingress port and class keep a later one back. -/
def heldBack (s : State) (k : Pkt) (l : List HeldTlp) : Bool :=
  l.any (fun e => match s.pkt e.pid with | some k' => !mayPass k k' | none => false)

/-- A refusal counts at its ingress port (R192). -/
def urSent (s : State) (P : Nat) : State := s.inc (R.GRP_PCIE_CNT (P / 8) (P % 8)) F.GRP_PCIE_CNT_UR_SENT 1

/-- A refusal of a TLP with REASON 1 to 7 is counted at its ingress port and logged (R191, R192, R332): an AtomicOp to a DMF BAR in the
DMF, a block of ACS as ACS Violation and any other in the virtual port it came in by. A completion that finds no way is unexpected. -/
def logRefusal (s : State) (k : Pkt) (d : Desc) : State :=
  match k.tlp with
  | none => s
  | some t =>
    if d.action ≠ 0 ∧ 1 ≤ d.reason ∧ d.reason ≤ 7 then
      let v := s.virtOf k.port (sender t)
      let lost := endsRequest t && d.reason != 2 && d.reason != 3
      let s := if lost then s.inc (R.GRP_PCIE_CNT (k.port / 8) (k.port % 8)) F.GRP_PCIE_CNT_UNEXP_CPL 1 else s.urSent k.port
      if lost then (if s.role k.port = 0 then s else s.aerIn k.port v.1 v.2 2)
      else if s.role k.port = 0 then s
      else if d.reason = 5 then s.aerIn k.port v.1 1 1
      else s.aerIn k.port v.1 v.2 (if d.reason = 2 ∨ d.reason = 3 then 3 else 1)
    else s

/-- A drop: an answer to a non-posted TLP, and the packet is gone (R249). -/
def dropPkt (s : State) (pid : Nat) (k : Pkt) (d : Desc) (exc completes : Bool) : State :=
  ((s.answer k d exc completes).logRefusal k d).freePkt pid

/-- Whether a selective IDE TLP would leave changed: rewritten, with a proxy tag, or as a completion to PROXY (R175, R187). -/
def ideBlocked (s : State) (k : Pkt) (d : Desc) (view : List Byte) : Bool :=
  match k.tlp with
  | some t =>
    let b := outBytes k d view
    t.ide && (decide (b ≠ k.bytes) || (s.proxyNeed d.dest k d view).isSome || (s.trackedOf k).isSome)
  | none => false

/-- The status DPC gives refused requests, by the DPC Completion Control bit of a virtual downstream port (R195): bit 2 of DPC
Control, 1 for Unsupported Request. -/
def dpcStatus (s : State) (h v : Nat) : CplStatus :=
  if bit (s.cfgWord h (2 + v) .dpcControl).toNat 2 then .ur else .ca

/-- A TLP for a port in DPC containment: a request is answered as R195 states (R198), anything else discarded. -/
def dpcRefuse (s : State) (pid : Nat) (k : Pkt) (d : Desc) (view : List Byte) : State :=
  match k.tlp with
  | some t =>
    if k.nonPosted then
      let st := match s.proxyNeed d.dest k d view with
        | some v => s.dpcStatus v.ghd v.gvport
        | none => s.dpcStatus (s.roleHd d.dest) (s.roleVdev d.dest)
      ((s.complete k.port t st []).inc (R.GRP_PCIE_CNT2 (d.dest / 8) (d.dest % 8)) F.GRP_PCIE_CNT2_CTO_SYN 1).freePkt pid
    else (s.freePkt pid).emit (.discarded d.dest 1)
  | none => (s.freePkt pid).emit (.discarded d.dest 1)

/-- A TLP for a port that is shut to it, answered as R195 states, or for the reset of its port discarded and counted (R75, R76). -/
def goneAt (s : State) (pid : Nat) (k : Pkt) (d : Desc) (view : List Byte) : State :=
  if (s.proxyNeed d.dest k d view).isSome || !(s.port d.dest).dpcHold.isEmpty then s.dpcRefuse pid k d view
  else (s.freePkt pid).emit (.discarded d.dest 1)

/-- The TLPs held for an egress port that goes down go with its queues: what waits at its ingress for a place or a proxy tag has no port
to leave by (R56, R76, R195, R198). -/
def heldGone (s : State) (P : Nat) : State :=
  let out := s.sett.held.flatMap fun e => e.2.filter fun x => x.q / 8 == P
  let s := s.setSett fun t => { t with held := t.held.mapAll dNil fun _ l => l.filter fun x => x.q / 8 != P }
  forAll out (fun x s => match s.pkt x.pid with
    | some k => s.goneAt x.pid k x.desc x.view
    | none => s) s

/-- The TLP that a forward sends to a PCI Express port: one that arrived, or one that firmware injected (R334). -/
def leavingTlp (s : State) (k : Pkt) (d : Desc) (view : List Byte) : Option Tlp :=
  let b := outBytes k d view
  match k.tlp with
  | some t => some { t with bytes := b }
  | none => if k.injected then some (injTlp (s.on (R.GRP_PCIE_STAT (d.dest / 8) (d.dest % 8)) F.GRP_PCIE_STAT_FLIT) b) else none

/-- Whether a request forwarded to an upstream port lies in a BAR of that port's DMF (R329). -/
def forDmf (s : State) (k : Pkt) (d : Desc) (view : List Byte) : Option Nat :=
  match s.leavingTlp k d view with
  | some t =>
    if s.role d.dest = 1 ∧ (t.kind = .mrd ∨ t.kind = .mwr ∨ t.kind = .atomic) then
      s.inDmf (s.roleHd d.dest) (tlpAddr t.flit t.bytes)
    else none
  | none => none

/-- The packet is delivered to a DMF (R329), which serves it as the release of its descriptor goes on; an AtomicOp is refused there
(R191). -/
def toDmf (s : State) (pid : Nat) (k : Pkt) (d : Desc) (view : List Byte) : State :=
  match s.leavingTlp k d view with
  | some t =>
    if t.kind = .atomic then s.dropPkt pid k (((d.put 0 1).put 6 5).put 7 0) false false
    else
      let h := s.roleHd d.dest
      ((s.emit (.toDmf h t.bytes)).setSett fun x => { x with dmfIn := x.dmfIn ++ [(h, t)] }).freePkt pid
  | none => s.freePkt pid

/-- A decision the device turns into a DROP with CPLST 0 (R222, R250). -/
def asDrop (d : Desc) : Desc := (d.put 0 1).put 7 0

/-- A request that the virtual port it would leave by does not cover (R191): answered with Unsupported Request, logged there. -/
def refuseAt (s : State) (pid : Nat) (k : Pkt) (d : Desc) (v : Nat × Nat) : State :=
  ((((s.answer k (asDrop d) false false).urSent k.port).aerIn k.port v.1 v.2 1)).freePkt pid

/-- A unicast forward (R219 to R221, R250, R76). A guest's request to a VF of a port that is down is answered (R195, R479). A TLP that would cross to another domain matches no route of its own (R191, R203;
notes/assumptions/107.md). -/
def forward1 (s : State) (pid : Nat) (k : Pkt) (d : Desc) (view : List Byte) : State :=
  let q := d.dest * 8 + d.tc
  if !s.portEn d.dest then
    (s.inc (R.DEN_DROP_CNT k.den) F.DEN_DROP_CNT_NOPORT 1).dropPkt pid k (asDrop d) false false
  else if s.sett.shut.contains d.dest then (s.freePkt pid).emit (.discarded d.dest 1)
  else if s.crosses k d view then s.dropPkt pid k ((asDrop d).put 6 1) false false
  else if s.isTlpAt d.dest k && s.on (R.GRP_PCIE_STAT (d.dest / 8) (d.dest % 8)) F.GRP_PCIE_STAT_DPC then s.dpcRefuse pid k d view
  else if (s.proxyNeed d.dest k d view).isSome && !s.portUp d.dest then s.dpcRefuse pid k d view
  else if (s.forDmf k d view).isSome then s.toDmf pid k d view
  else if s.ideBlocked k d view then
    (s.inc (R.GRP_PCIE_CNT2 (k.port / 8) (k.port % 8)) F.GRP_PCIE_CNT2_IDE_DROP 1).dropPkt pid k (d.put 7 0) false false
  else if let some v := s.notCovered k d view then s.refuseAt pid k d v
  else if s.isTlpAt d.dest k then
    let hk := k.port * 8 + k.tc
    let held := s.sett.held.get dNil hk
    if !s.heldBack k held && s.canAdmit q k d view then s.enqueue pid q k d view
    else (s.count 32 4 q 1).setSett fun t => { t with held := t.held.put dNil hk (held ++ [⟨pid, q, d, view⟩]) }
  else if s.admits q k.need then s.enqueue pid q k d view
  else ((s.inc (R.SETT_QSTAT q) F.SETT_QSTAT_DROPS 1).count 32 4 q 1).freePkt pid

/-- The member ports of a multicast set other than the ingress port (R251). -/
def members (s : State) (set P : Nat) : List Nat :=
  (upTo 128).filter (fun j => bit (s.rd (R.SETT_MCSET set (j / 32))).toNat (j % 32) && j != P && s.portEn j)

/-- A multicast forward: every member queue admits or refuses its copy by itself (R219, R251); a copy for a port of a reset
group is discarded and counted (R76). -/
def forwardM (s : State) (pid : Nat) (k : Pkt) (d : Desc) (view : List Byte) : State :=
  let s := forAll (s.members d.dest k.port) (fun j s =>
    let q := j * 8 + d.tc
    if s.sett.shut.contains j then s.emit (.discarded j 1)
    else if s.admits q k.need then s.enqueue pid q k d view
    else (s.inc (R.SETT_QSTAT q) F.SETT_QSTAT_DROPS 1).count 32 4 q 1) s
  match s.pkt pid with
  | some k => if k.refs = 0 then s.freePkt pid else s
  | none => s

/-- This device's id; 0 while it holds none (notes/assumptions/23.md). -/
def ownId (s : State) : Nat := s.get R.MGT_FAB_ID F.MGT_FAB_ID_ID

/-- A packet the crossbar places on the window-engine port (R336): classes 17 to 20 and 25 for this device. -/
def toEngine (s : State) (k : Pkt) : Bool :=
  [17, 18, 19, 20, 25].contains (k.cls % 32) && !k.isTlp && (k.bytes.getD 0 0).toNat == s.ownId

/-- The window-engine port takes a packet as it would leave a link: rewritten, marked, its check updated. One whose OPC is 0 has no class
that comes here: it is dropped, and counted when its check holds (R377). -/
def engineTake (s : State) (pid : Nat) (k : Pkt) (d : Desc) (view : List Byte) : State :=
  let b := outBytes k d view
  let s := s.wakeIsland 28
  let x := fabricOut (covered k) (if d.mark = 1 then setMark b else b) false
  if fieldAt x 2 1 % 8 = 0 then
    (if crc32c (x.take (x.length - 4)) = fieldAt x (x.length - 4) 4 then s.inc R.WEN_CNT1 F.WEN_CNT1_BAD_HDR 1 else s).freePkt pid
  else (s.setPkt pid (some { k with refs := 1 })).setWen fun w => { w with inq := w.inq ++ [(pid, x)] }

/-- A released descriptor takes effect (R23, R246 to R251, R222, R274, R276). A packet that its ingress has found bad is
discarded with no answer (R229). -/
def takeDecision (s : State) (pid : Nat) (k : Pkt) (e : Done) : State :=
  let d := e.desc
  let s := s.creditBack k
  let s := s.count (16 + k.den) 5 d.action 1
  let s := s.mirrorSelect pid k d
  let k := (s.pkt pid).getD k
  if k.bad && decide (k.left = 0) then (s.freePkt pid).emit (.discarded k.port 1)
  else if d.action = 0 ∧ s.toEngine k = true then s.engineTake pid k d e.view
  else if d.action = 0 then
    (if d.mcast = 1 then
       (if k.isTlp then (s.inc R.SETT_ERR F.SETT_ERR_MC_PCIE 1).dropPkt pid k (asDrop d) false false
        else s.forwardM pid k d e.view)
     else s.forward1 pid k d e.view)
  else if d.action = 2 then (s.trap k d).freePkt pid
  else if d.action = 3 ∧ k.nonPosted then s.dropPkt pid k d false true
  else s.dropPkt pid k d (decide (e.exc ≠ 0)) false

/-- Whether a packet whose decision is not for an egress port waits for its last cell: for the window engine, a DMF or the trap
queue it is stored before it is handed on (R24). -/
def awaitsCells (s : State) (k : Pkt) (e : Done) : Bool :=
  let d := e.desc
  decide (k.left ≠ 0) && (d.action == 2
    || (d.action == 0 && (s.toEngine k || (d.mcast == 0 && s.portEn d.dest && (s.forDmf k d e.view).isSome))))

/-- The oldest packet of an ingress port and traffic class is released when its descriptor is ready (R23). DESIGN CHOICE: packets of the
control port or the window-engine port that different dens decide keep their arrival order too (notes/assumptions/121.md). -/
def releaseNext (s : State) (P tc : Nat) : State :=
  match s.sett.order.get dNil (P * 8 + tc) with
  | [] => s
  | pid :: rest =>
    match s.pkt pid with
    | none => s.setSett fun t => { t with order := t.order.put dNil (P * 8 + tc) rest }
    | some k =>
      match (s.den k.den).rel.find? (fun e => e.pid == pid) with
      | none => s
      | some e =>
        if s.awaitsCells k e then s else
        let s := s.setSett fun t => { t with order := t.order.put dNil (P * 8 + tc) rest }
        let s := s.setDen k.den fun D => { D with rel := D.rel.filter (fun x => x.pid != pid) }
        s.takeDecision pid k e

/-! ### Egress -/

/-- Units of credit a link packet of `n` bytes uses (R133, R148). -/
def linkUnits (n : Nat) : Nat := (16 * ((n + 4 + 15) / 16) + 63) / 64

def clsTx (l : Link) (c : Nat) : ClsTx := if c = 0 then l.tx0 else if c = 1 then l.tx1 else l.tx2
def setClsTx (l : Link) (c : Nat) (x : ClsTx) : Link :=
  if c = 0 then { l with tx0 := x } else if c = 1 then { l with tx1 := x } else { l with tx2 := x }

/-- Credit a transmitter holds in a class (R150): the last CR_COUNT minus the units used, modulo 65,536; none before the
first CR_COUNT (R151). -/
def credit (x : ClsTx) : Nat := match x.cr with | some n => (n + 65536 - x.used % 65536) % 65536 | none => 0

/-- The credit class of a fabric packet (R376). -/
def fabClass (bs : List Byte) : Nat := (bs.getD 2 0).toNat / 8 % 4

/-- What a PCI Express port sends of a queued packet: the header facts of the TLP, read off the bytes of one that firmware
injected (R334). -/
def egTlp (s : State) (P : Nat) (k : Pkt) (e : QEnt) : Tlp :=
  match k.tlp with
  | some t => t
  | none => injTlp (s.on (R.GRP_PCIE_STAT (P / 8) (P % 8)) F.GRP_PCIE_STAT_FLIT) (outBytes k e.desc e.view)

/-- The egress group's own rewriting of a TLP (R186 to R188): a guest's request leaves with its proxy tag, a configuration request also
with PROXY and PRID in place of its Requester ID and target; a completion to PROXY takes back the guest's Requester ID and tag and the
guest-view completer ID, and the final one (no data, or none left) frees the tag. -/
def proxyOut (s : State) (P : Nat) (k : Pkt) (e : QEnt) (b : List Byte) : List Byte × State :=
  match k.tlp with
  | none => (b, s)
  | some t =>
    let o := tlpHdr t.flit b
    match e.ptag with
    | some tag =>
      let b := tagPut t.flit b o 6 tag
      (match (if t.kind = .cfgRd ∨ t.kind = .cfgWr then s.vfOut P k e.desc e.view else none) with
       | some v => (idPut (idPut b (o + 4) v.proxy) (o + 8) v.prid, s)
       | none => (b, s))
    | none =>
      match s.trackedOf k, s.proxyOf k.port t.reqId with
      | some x, some v =>
        let b := idPut (idPut (tagPut t.flit b o 10 x.reqTag) (o + 8) x.reqId) (o + 4) (s.guestId v)
        (b, if t.cplLen = 0 ∨ t.len ≤ t.cplLen then
              s.setPort k.port fun p => { p with tracked := p.tracked.filter fun y => !(y.proxy && y.tag == x.tag) }
            else s)
      | _, _ => (b, s)

/-- The partner of a PCI Express port has not granted what a packet takes (R225). -/
def creditShort (s : State) (P : Nat) (k : Pkt) (e : QEnt) : Bool :=
  let x := s.egTlp P k e
  let t := fcType x
  !(decide (1 ≤ (s.port P).hdrCr.get dZero t) && decide (fcData x ≤ (s.port P).dataCr.get dZero t))

/-- The units that the packets waiting in a class's transmitter will take: offered to it, and not yet started (R148, R225). -/
def waitUnits (x : ClsTx) : Nat := x.wait.foldl (fun a k => a + linkUnits k.bytes.length) 0

/-- Whether a packet of a queue can start (R225, R227, R228): its cells written as far as its mode needs, and credit beyond what the
packets handed over before it will take. -/
def canStart (s : State) (P : Nat) (e : QEnt) : Bool :=
  match s.pkt e.pid with
  | none => false
  | some k =>
    let n := (outBytes k e.desc e.view).length
    (decide (k.left = 0) || (e.ct && !k.cells.isEmpty)) &&
    (if s.isFabric P then
       let x := clsTx (s.link (P / 8) (P % 8)) (fabClass (outBytes k e.desc e.view))
       decide (waitUnits x + linkUnits n ≤ credit x)
     else !s.creditShort P k e)

/-- The first packet of a queue that can start: the head, or on a PCI Express port a TLP that may pass every one ahead of it, each of
which lacks credit (R190). -/
def pickNext (s : State) (P : Nat) : List QEnt → List Pkt → Option QEnt
  | [], _ => none
  | e :: rest, ahead =>
    match s.pkt e.pid with
    | none => none
    | some k =>
      if ahead.all (mayPass k) && s.canStart P e then some e
      else if s.isTlpAt P k && !s.isFabric P && s.creditShort P k e then s.pickNext P rest (ahead ++ [k])
      else none

/-- The packet of a class that an egress port can send next. -/
def nextOut (s : State) (P t : Nat) : Option QEnt := s.pickNext P (s.queue (P * 8 + t)) []

/-- The quantum of a class in bytes (R224): a quantum of 0 acts as 1. -/
def quantum (s : State) (P t : Nat) : Nat :=
  let w := if t < 4 then s.rd (R.SETT_SCHED_Q0 P) else s.rd (R.SETT_SCHED_Q1 P)
  let n := bits w.toNat (8 * (t % 4)) 8
  256 * (if n = 0 then 1 else n)

/-- The strict classes, highest first, that have a packet to start (R224). -/
def strictPick (s : State) (P : Nat) : Option Nat :=
  ([7, 6, 5, 4, 3, 2, 1, 0].find? fun t => bit (s.get (R.SETT_SCHED P) F.SETT_SCHED_STRICT) t && (s.nextOut P t).isSome)

/-- Whether a class takes part in deficit round robin now: it is not strict and has a packet to start (R224, R225). -/
def drrReady (s : State) (P t : Nat) : Bool :=
  !bit (s.get (R.SETT_SCHED P) F.SETT_SCHED_STRICT) t && (s.nextOut P t).isSome

/-- Deficit round robin over the other classes (R224, R225) from class `t` on: an empty queue loses its deficit, one whose head
cannot start is passed over and keeps it, any other gets its quantum as its turn comes, and a head larger than the deficit waits
for the queue's next turn. -/
def drrPick (P : Nat) : Nat → Nat → State → Option Nat × State
  | 0, _, s => (none, s)
  | n + 1, t, s =>
    let q := P * 8 + t
    let next := (t + 1) % 8
    let adv := fun (s : State) => s.setSett fun x => { x with
      deficit := if s.drrReady P next then x.deficit.upd dZero (P * 8 + next) (· + s.quantum P next) else x.deficit
      drr := x.drr.put dZero P next }
    if (s.queue q).isEmpty then drrPick P n next (adv (s.setSett fun x => { x with deficit := x.deficit.put dZero q 0 }))
    else match (if s.drrReady P t then s.nextOut P t else none) with
      | none => drrPick P n next (adv s)
      | some e =>
        let len := match s.pkt e.pid with | some k => (outBytes k e.desc e.view).length | none => 0
        let dfc := s.sett.deficit.get dZero q
        if len ≤ dfc then
          (some t, s.setSett fun x => { x with deficit := x.deficit.put dZero q (dfc - len), drr := x.drr.put dZero P t })
        else drrPick P n next (adv s)

/-- An egress port picks its next packet (R224, R225). -/
def schedule (s : State) (P : Nat) : State :=
  if s.portUp P && (s.sett.sending.get dNone P).isNone then
    let go := fun (t : Nat) (s : State) => match s.nextOut P t with
      | some e => s.setSett fun x => { x with sending := x.sending.put dNone P (some (P * 8 + t, e)) }
      | none => s
    match s.strictPick P with
    | some t => go t s
    | none =>
      match drrPick P 512 (s.sett.drr.get dZero P) s with
      | (some t, s) => go t s
      | (none, s) => s
  else s

/-- The copy being sent leaves its queue; its cells leave the depth (R226). -/
def leaveQueue (s : State) (P q : Nat) (e : QEnt) : State :=
  let c := match s.pkt e.pid with | some k => k.need | none => 0
  let s := s.setQueue q ((s.queue q).filter (fun x => x.pid != e.pid))
  let s := s.set (R.SETT_QSTAT q) F.SETT_QSTAT_DEPTH (s.depth q - c)
  let s := s.setSett fun t => { t with sending := t.sending.put dNone P none }
  (s.dropRef e.pid).touchHead q

/-- The TLP `x` of a packet as rewritten to the bytes `b`, its digest updated (R248). -/
def tlpWire (k : Pkt) (x : Tlp) (b : List Byte) : List Byte :=
  if x.digest && decide (b ≠ covered k) then digestOut (covered k) b else b

/-- The bytes a fabric packet's copy is sent with: rewritten, marked, its check updated or spoiled (R215, R230, R231, R247,
R248). -/
def fabWire (k : Pkt) (e : QEnt) : List Byte :=
  let b := outBytes k e.desc e.view
  fabricOut (covered k) (if e.mark then setMark b else b) e.bad

/-- The last cell of a copy is read: it is handed to its port's link layer and leaves its queue (R226). -/
def finishSend (s : State) (P q : Nat) (e : QEnt) : State :=
  match s.pkt e.pid with
  | none => s.leaveQueue P q e
  | some k =>
    let s := if e.bad then s.inc R.SETT_ERR F.SETT_ERR_POISONED 1 else s
    let s :=
      if s.isFabric P then
        let b := fabWire k e
        s.setLink (P / 8) (P % 8) fun l =>
          let c := fabClass b
          setClsTx l c { clsTx l c with wait := (clsTx l c).wait ++ [⟨false, b⟩] }
      else
        let x := s.egTlp P k e
        let t := fcType x
        let (b, s) := s.proxyOut P k e (outBytes k e.desc e.view)
        let b := tlpWire k x b
        let h := if s.role P = 1 then s.roleHd P else match k.tlp with | some y => s.fromDomain k y | none => s.roleHd P
        let s := if e.bad then s.aerIn (s.dom h).upPort h 0 4 else s
        let s := s.setPort P fun p => { p with
          hdrCr := p.hdrCr.upd dZero t (· - 1), dataCr := p.dataCr.upd dZero t (· - fcData x) }
        let poison := e.bad || (match k.tlp with | some t => t.poisoned | none => false)
        ((s.emit (.tlp P b poison false)).count (P / 8) 2 (P % 8) 1).count (P / 8) 4 (P % 8) b.length
    s.leaveQueue P q e

/-- The bytes of a copy's packet that its cells read so far hold, as it leaves (R247). -/
def sentBytes (k : Pkt) (e : QEnt) : List Byte := (outBytes k e.desc e.view).take (256 * e.rd + 4 * e.desc.pushn - 4 * e.desc.strip)

/-- A copy that has started to leave is ended (R215, R229): a TLP nullified, a fabric packet with a spoiled check; it counts in POISONED.
DESIGN CHOICE: what no cell holds of a fabric packet, whose length has left with its prefix, is free bytes (notes/assumptions/120.md). -/
def endCopy (s : State) (P q : Nat) (e : QEnt) : State :=
  let s := s.inc R.SETT_ERR F.SETT_ERR_POISONED 1
  match s.pkt e.pid with
  | none => s.leaveQueue P q e
  | some k =>
    let b := outBytes k e.desc e.view
    let had := sentBytes k e
    let s :=
      if !s.isFabric P then s.emit (.tlp P ((tlpWire k (s.egTlp P k e) b).take had.length) false true)
      else
        let b := had ++ s.freeBytes (b.length - had.length)
        let w := fabricOut (covered k) (if e.mark then setMark b else b) true
        (s.usedN (b.length - had.length)).setLink (P / 8) (P % 8) fun l =>
          setClsTx l (fabClass w) { clsTx l (fabClass w) with wait := (clsTx l (fabClass w)).wait ++ [⟨false, w⟩] }
    s.leaveQueue P q e

/-- A cell with a persistent mismatch (R216): SETT_CELL, the cell out of service, and the bank with its 64th. -/
def retireCell (s : State) (k : Pkt) (c : Nat) : State :=
  let b := c / 8192
  let addr := b * 0x200000 + Config.cellRow b (c % 8192) % 8192 * 256
  let s := s.raise 0xA0 0x10 (if k.slice = 0xFFFF then none else some k.slice) (some addr) b
  if s.sett.retired.contains c then s
  else
    let s := (s.setSett fun t => { t with retired := t.retired ++ [c] }).inc R.SETT_ERR F.SETT_ERR_RETIRED 1
    let s :=
      if (s.bankRetired b).length = 64 then
        let s := if b < 32 then s.wr R.SETT_BANK_OUT_0 (s.rd R.SETT_BANK_OUT_0 ||| BitVec.ofNat 32 (2 ^ b))
                 else s.wr R.SETT_BANK_OUT_1 (s.rd R.SETT_BANK_OUT_1 ||| BitVec.ofNat 32 (2 ^ (b - 32)))
        s.raise 0xA0 0x11 none none b
      else s
    s.refreshFree

/-- The egress group of port `P` reads the next cell of the packet it sends; `fails` of the up to three reads fail their
check (R25, R213 to R216, R228). A gap is counted once; a cut-through packet found bad after its first symbol has left is ended. -/
def readCell (s : State) (P fails : Nat) : State :=
  match s.sett.sending.get dNone P with
  | none => s
  | some (q, e) =>
    match s.pkt e.pid with
    | none => s.leaveQueue P q e
    | some k =>
      match k.cells[e.rd]? with
      | none =>
        if e.gap then s
        else (s.inc R.SETT_CTW F.SETT_CTW_CT_WAIT 1).setSett fun t =>
          { t with sending := t.sending.put dNone P (some (q, { e with gap := true })) }
      | some c =>
        let s := if fails = 1 ∨ fails = 2 then s.inc R.SETT_ERR F.SETT_ERR_REREAD_OK 1 else s
        let s := if fails = 3 then s.retireCell k c else s
        let e' := { e with rd := e.rd + 1, bad := e.bad || decide (fails = 3), started := true, gap := false }
        if decide (fails = 3) && e.ct && e.started then (s.inc R.SETT_ERR F.SETT_ERR_CT_ABORT 1).endCopy P q e'
        else if e'.rd = k.need then s.finishSend P q e'
        else s.setSett fun t => { t with sending := t.sending.put dNone P (some (q, e')) }

/-- A cut-through copy that waits too long for a cell is ended (R229, first case). -/
def ctTimeout (s : State) (P : Nat) : State :=
  match s.sett.sending.get dNone P with
  | none => s
  | some (q, e) =>
    match s.pkt e.pid with
    | none => s
    | some k =>
      if e.ct && decide (0 < e.rd) && decide (k.cells.length ≤ e.rd) && decide (0 < k.left) then
        ((if e.gap then s else s.inc R.SETT_CTW F.SETT_CTW_CT_WAIT 1).inc R.SETT_ERR F.SETT_ERR_CT_ABORT 1).endCopy P q e
      else s

/-! ### Resets of queues (R75, R76, R229) -/

/-- The packets of one queue are discarded and counted (R75). DESIGN CHOICE (notes/assumptions/96.md): the rules name no register for
this count; it is an output. -/
def flushQueue (s : State) (q : Nat) : State :=
  let l := s.queue q
  let s := s.setQueue q []
  let s := s.set (R.SETT_QSTAT q) F.SETT_QSTAT_DEPTH 0
  let s := forAll l (fun e s => s.dropRef e.pid) s
  let s := s.setSett fun t => { t with deficit := t.deficit.put dZero q 0 }
  if l.isEmpty then s else s.emit (.discarded (q / 8) l.length)

/-- The queues of a port are emptied, and no TLP waits for a place in them. -/
def flushPort (s : State) (P : Nat) : State :=
  let s := (forAll (upTo 8) (fun t s => s.flushQueue (P * 8 + t)) s).heldGone P
  s.setSett fun t => { t with sending := t.sending.put dNone P none }

/-- A packet that its ingress ends before its end (R229, second and third case): copies that have started to leave are ended under
R215, every other copy is removed, its mirror copy is kept when the bytes it captures were written, and CT_ABORT counts the packet
once if a copy was ended. -/
def endPacket (s : State) (pid : Nat) : State :=
  match s.pkt pid with
  | none => s
  | some k =>
    let sending := s.sett.sending.filterMap (fun e => match e.2 with
      | some (q, x) => if x.pid = pid && x.ct && x.started then some (e.1, q, x) else none
      | none => none)
    let s := if sending.isEmpty then s else s.inc R.SETT_ERR F.SETT_ERR_CT_ABORT 1
    let s := forAll sending (fun e s => s.endCopy e.1 e.2.1 e.2.2) s
    let s := forAll (s.sett.queues.map (·.1)) (fun q s =>
      if (s.queue q).any (fun x => x.pid == pid) then
        let s := s.setQueue q ((s.queue q).filter (fun x => x.pid != pid))
        (s.set (R.SETT_QSTAT q) F.SETT_QSTAT_DEPTH (s.depth q - k.need)).touchHead q
      else s) s
    let s := s.setSett fun t => { t with
      sending := t.sending.mapAll dNone (fun _ x => match x with | some (q, y) => if y.pid = pid then none else some (q, y) | none => none)
      held := t.held.mapAll dNil (fun _ l => l.filter fun x => x.pid != pid)
      order := t.order.upd dNil (k.port * 8 + k.tc) (·.filter (· != pid))
      mirQ := if k.cells.isEmpty then t.mirQ.filter (fun r => r.pid != some pid) else t.mirQ }
    let s := s.setDen k.den fun D => { D with
      rel := D.rel.filter (fun x => x.pid != pid), prio := D.prio.filter (· != pid), norm := D.norm.filter (· != pid)
      spill := D.spill.filter (· != pid), spillP := D.spillP.filter (· != pid) }
    let s := if k.cells.isEmpty then s.mirrorDone pid else s
    s.freePkt pid

/-- The packets of a port that are still being written when it is reset. -/
def abortIncomplete (s : State) (P : Nat) : State := forAll (s.sett.stalled.get dNil P) (fun pid s => s.endPacket pid) s

/-- The packets of a port whose last cell is written and that its link layer has found bad, once they have copies or are held for
admission (R229). -/
def endBad (s : State) (P : Nat) : State :=
  let held := s.sett.held.flatMap fun e => e.2.map (·.pid)
  forAll (s.sett.pkts.filterMap fun e => match e.2 with
    | some k => if k.port = P && k.bad && k.left == 0 && (k.refs != 0 || held.contains e.1) then some e.1 else none
    | none => none) (fun pid s => s.endPacket pid) s

/-- The arrivals of the ports `f` that no egress queue has taken over go: packets that wait for a job or for a release, and TLPs held;
counted as discarded at port `P`. A job that runs for one of them ends without effect. -/
def dropUndecided (s : State) (f : Nat → Bool) (P : Nat) : State :=
  let pids := s.sett.pkts.filterMap (fun e => match e.2 with
    | some k => if f k.port && decide (k.refs = 0) && !k.fin then some e.1 else none
    | none => none)
  let s := forAll pids (fun pid s => s.freePkt pid) s
  let s := s.setSett fun t => { t with order := t.order.drop (fun key => f (key / 8)), held := t.held.drop (fun key => f (key / 8)) }
  let keep := fun l => l.filter (fun pid => !pids.contains pid)
  let s := { s with dens := s.dens.map fun e => (e.1, { e.2 with
    prio := keep e.2.prio, norm := keep e.2.norm, spill := keep e.2.spill, spillP := keep e.2.spillP
    rel := e.2.rel.filter fun x => !pids.contains x.pid }) }
  let s := forAll (s.dens.map (·.1)) (fun d s => s.requeue d) s
  if pids.isEmpty then s else s.emit (.discarded P pids.length)

/-- What a group reset drops of a group's own arrivals (R75, and the collision table of 06_switch_core.md). -/
def dropArrivals (s : State) (g : Nat) : State := s.dropUndecided (fun P => P / 8 == g) (8 * g)

end State

end Sys2Proof.Machine
end

