-- ==== Sys2Proof/Machine/Events.lean ====
section
/-! DEFINITION. Packets the part makes itself: fabric headers (R376), the window engine's and the fabric control unit's
packets on their way to a den (R238, R334), control messages (R346, R347), and a worker's events (R364, R365). -/

namespace Sys2Proof.Machine

/-- The fields of a fabric packet's header (R376). -/
structure FabHdr where
  dst : Nat
  src : Nat
  opc : Nat
  cls : Nat
  tc : Nat
  cm : Bool := false
  ece : Bool := false
  retx : Bool := false
  spec : Bool := false
  slice : Nat
  path : Nat
  msg : Nat
  win : Nat
  key : Nat
  woff : Nat
  pidx : Nat
  mlen : Nat
  mcrc : Nat
  deriving DecidableEq, Repr

/-- The header as one number (R376). -/
def fabHdrNat (h : FabHdr) : Nat :=
  h.dst + h.src * 2 ^ 8 + h.opc * 2 ^ 16 + h.cls * 2 ^ 19 + h.tc * 2 ^ 21 + b2n h.cm * 2 ^ 24 + b2n h.ece * 2 ^ 25
    + b2n h.retx * 2 ^ 26 + b2n h.spec * 2 ^ 27 + h.slice * 2 ^ 28 + h.path * 2 ^ 40 + h.msg * 2 ^ 48 + h.win * 2 ^ 72
    + h.key * 2 ^ 96 + h.woff * 2 ^ 128 + h.pidx * 2 ^ 176 + h.mlen * 2 ^ 194 + h.mcrc * 2 ^ 224

/-- The fields of a header number (R376). -/
def fabHdrOf (v : Nat) : FabHdr where
  dst := bits v 0 8
  src := bits v 8 8
  opc := bits v 16 3
  cls := bits v 19 2
  tc := bits v 21 3
  cm := bit v 24
  ece := bit v 25
  retx := bit v 26
  spec := bit v 27
  slice := bits v 28 12
  path := bits v 40 2
  msg := bits v 48 24
  win := bits v 72 24
  key := bits v 96 32
  woff := bits v 128 48
  pidx := bits v 176 18
  mlen := bits v 194 30
  mcrc := bits v 224 32

/-- A whole fabric packet: header, payload, end-to-end CRC-32C (R379). -/
def fabPacket (h : Nat) (payload : List Byte) : List Byte :=
  let b := leBytes 32 h ++ payload
  b ++ leBytes 4 (crc32c b)

namespace State

/-- A packet of the part's own enters the crossbar by the control port (128, class 24) or the window-engine port (129,
class 25). No rule says which den decides it (notes/assumptions/24.md): a free value. -/
def ownPacket (s : State) (port cls tc slice units m5 : Nat) (bytes : List Byte) : State :=
  let d := s.freeBelow 16
  s.used.arrive {
    port := port, den := d, cls := cls, bytes := bytes, tc := tc, m5 := m5, slice := slice, arr := s.now, tlp := none,
    units := units, ucls := 0, cells := [], left := 0, refs := 0, spoor := false, bad := false }

/-! ### Control messages -/

/-- The bytes of a control message (R346) with its alive value (R347). -/
def ctlBytes (s : State) (opc : Nat) (rsp err : Bool) (tag : Nat) (body : List Byte) : List Byte :=
  let b := padTo ((body.length + 3) / 4 * 4) body
  let id := if s.on R.MGT_FAB_ID F.MGT_FAB_ID_VALID then s.ownId else 255
  let h := leBytes 1 opc ++ leBytes 1 (b2n rsp + 2 * b2n err) ++ leBytes 2 tag ++ leBytes 1 id
    ++ leBytes 1 (if s.on R.MGT_FAB_ID F.MGT_FAB_ID_VALID then s.get R.MGT_FAB_ID F.MGT_FAB_ID_ROLE else 3) ++ leBytes 1 (s.get R.MGT_FAB_MGR F.MGT_FAB_MGR_EPOCH)
    ++ leBytes 1 b.length ++ leBytes 4 ((s.fab.alive + 1) % 2 ^ 32) ++ [0, 0]
  h ++ leBytes 2 (crc16 (h ++ b)) ++ b

/-- The PATHS entry of a device in the table master copy (R335): T8, a direct table (R325). Beyond its COUNT, or with T8 of another
TYPE, there is none. -/
def pathEntry (s : State) (dst : Nat) : List Byte :=
  let d := bytesAt zeroByte s.tblw.master 128 16
  if fieldAt d 0 1 % 8 = 1 ∧ dst < fieldAt d 8 4 then bytesAt zeroByte s.tblw.master (fieldAt d 4 4 % 32768 * 64 + dst * 2 ^ (3 + bits (fieldAt d 0 1) 3 2)) 8
  else List.replicate 8 0

/-- A device has a PATHS entry. -/
def hasPath (s : State) (dst : Nat) : Bool := ((s.pathEntry dst).getD 0 0).toNat % 2 == 1

/-- The port of path 0 to a device in the table master copy (R335, R346): what the unit injects by. Without an entry no
rule names a port: a free value. -/
def pathPort (s : State) (dst : Nat) : Nat :=
  if s.hasPath dst then ((s.pathEntry dst).getD 2 0).toNat % 128 else s.freeBelow 128

/-- A control message is injected as a packet of class 24 to leave by a port (R334, R349). R346 fixes every header field but
the traffic class, a free value. -/
def ctlInject (s : State) (port dst : Nat) (msg : List Byte) : State :=
  let tc := s.freeBelow 8
  let s := s.used
  let h := fabHdrNat {
    dst := dst, src := (if s.on R.MGT_FAB_ID F.MGT_FAB_ID_VALID then s.ownId else 255), opc := 0, cls := 0,
    tc := tc, slice := 0, path := 0, msg := 0, win := 0, key := 0, woff := 0, pidx := 0, mlen := 0, mcrc := 0 }
  s.ownPacket 128 24 tc 0xFFFF 0 128 ([BitVec.ofNat 8 port, BitVec.ofNat 8 tc, 0, 0] ++ fabPacket h msg)

/-- A control message leaves: the alive counter advances (R347). -/
def ctlSendBy (s : State) (port dst opc : Nat) (rsp err : Bool) (tag : Nat) (body : List Byte) : State :=
  let m := s.ctlBytes opc rsp err tag body
  (s.setFab fun f => { f with alive := (f.alive + 1) % 2 ^ 32 }).ctlInject port dst m

/-- A control message to a device by its path 0. -/
def ctlSend (s : State) (dst opc : Nat) (rsp err : Bool) (tag : Nat) (body : List Byte) : State :=
  let P := s.pathPort dst
  s.used.ctlSendBy P dst opc rsp err tag body

/-- A request of the unit's own, with the next tag. -/
def ctlRequest (s : State) (dst opc : Nat) (body : List Byte) : State :=
  let t := s.fab.tag
  (s.setFab fun f => { f with tag := (t + 1) % 65536 }).ctlSend dst opc false false t body

/-! ### Events of a worker -/

/-- MGT_FAB_EVQ follows the queue. -/
def refreshEvq (s : State) : State := s.set R.MGT_FAB_EVQ F.MGT_FAB_EVQ_QUEUED s.fab.evq.length

/-- An event is sent to the manager, as a request of its own (R364, R365). -/
def eventSend (s : State) (e : List Byte) : State :=
  (s.setFab fun f => { f with evTags := f.evTags ++ [(f.tag, fieldAt e 2 2)] }).ctlRequest
    (s.get R.MGT_FAB_MGR F.MGT_FAB_MGR_MGR_ID) 0x30 e

/-- The queued events never yet sent go out, in their order (R364), unless the manager is lost or no id is held
(notes/assumptions/41.md). -/
def eventsOut (s : State) : State :=
  if s.on R.MGT_FAB_MGR F.MGT_FAB_MGR_MGR_LOST || !s.on R.MGT_FAB_ID F.MGT_FAB_ID_VALID then s
  else forAll (s.fab.evq.filter fun e => !s.fab.evTags.any fun x => x.2 == fieldAt e 2 2) (fun e s => s.eventSend e) s

/-- An event of a worker or standby (R364, R365): numbered and queued, or discarded and counted at 64. -/
def fabEvent (s : State) (code : Nat) (detail : List Byte) : State :=
  if s.mode ≠ 4 then s
  else if 64 ≤ s.fab.evq.length then
    (s.setFab fun f => { f with evLost := true }).inc R.MGT_FAB_EVQ F.MGT_FAB_EVQ_EV_OVF 1
  else
    let e := leBytes 1 code ++ leBytes 1 (b2n s.fab.evLost) ++ leBytes 2 s.fab.evSeq ++ leBytes 8 s.now ++ padTo 36 detail
    ((s.setFab fun f => { f with evq := f.evq ++ [e], evSeq := (f.evSeq + 1) % 65536, evLost := false }).refreshEvq).eventsOut

end State

end Sys2Proof.Machine
end

