-- ==== Sys2Proof/Machine/Directory.lean ====
section
/-! DEFINITION. The manager's side of the fabric hierarchy (10_fabric.md): the directory in control memory (R357), events to the
fabric manager's host domain (R585, R586), heartbeats sent (R358), and what a new manager does (R361). -/

namespace Sys2Proof.Machine

namespace State

/-- The offset of a directory record (R357). -/
def dirOff (s : State) (i : Nat) : Nat := s.get R.MGT_FAB_DIR F.MGT_FAB_DIR_BASE * 32 + 32 * i

/-- A record, which the unit reads in one access as master 7 (R357, R432; notes/assumptions/124.md): byte 0 STATE, 2 MISSES, 4–7 ALIVE,
16–17 EVSEQ. -/
def dirRead (s : State) (i : Nat) : State × List Byte := s.cmemRead 7 (s.dirOff i) 32

/-- A field of a record written. -/
def dirPut (s : State) (i k n v : Nat) : State := s.cmemStore 7 (s.dirOff i + k) (leBytes n v)

/-- The devices among those listed whose records read as assigned, active or lost. -/
def dirScan : List Nat → State → State × List Nat
  | [], s => (s, [])
  | i :: t, s =>
    let (s, b) := s.dirRead i
    let (s, l) := dirScan t s
    (s, if 1 ≤ fieldAt b 0 1 ∧ fieldAt b 0 1 ≤ 3 then i :: l else l)

/-- The devices of the directory that are assigned, active or lost, other than this one. -/
def dirDevices (s : State) : State × List Nat := dirScan ((upTo 256).filter (· != s.ownId)) s

/-- An event of codes 0x05 to 0x07 to the fabric manager's host domain, or counted while none is named (R585, R586). -/
def mgrEvent (s : State) (code : Nat) (b4 : List Byte) (time : Nat) (detail : List Byte) : State :=
  if s.on R.MGT_FAB_HOST F.MGT_FAB_HOST_EN then s.hostEvent (s.get R.MGT_FAB_HOST F.MGT_FAB_HOST_HD) code b4 time detail
  else s.inc R.MGT_FW_STAT F.MGT_FW_STAT_FAB_DROP 1

/-- A device that did not answer in the period (R358). -/
def hbMissed (s : State) (i : Nat) : State :=
  let (s, b) := s.dirRead i
  let m := min 255 (fieldAt b 2 1 + 1)
  let s := s.dirPut i 2 1 m
  if m = max 1 (s.get R.MGT_FAB_CFG F.MGT_FAB_CFG_HB_MISS) then (s.dirPut i 0 1 3).mgrEvent 0x05 [] s.now (leBytes 1 i) else s

/-- A heartbeat to a device (R350), with the T4 of the exchange before it, or 0 when no response completed that one (R367;
notes/assumptions/125.md). -/
def hbSend (s : State) (i : Nat) : State :=
  let t := s.fab.tag
  let body := leBytes 8 s.now ++ leBytes 8 (s.fab.t4.get dZero i) ++ leBytes 1 (s.get R.MGT_FAB_MGR F.MGT_FAB_MGR_STBY_ID)
    ++ leBytes 1 (s.get R.MGT_FAB_MGR F.MGT_FAB_MGR_STBY_PRESENT) ++ [0, 0]
  (s.setFab fun f => { f with hbSent := f.hbSent ++ [(i, t)], t4 := f.t4.put dZero i 0 }).ctlRequest i 0x01 body

/-- A heartbeat period of a manager that no longer listens (R358, R363). -/
def hbPeriod (s : State) : State :=
  if s.mode ≠ 5 ∨ s.fab.listening = true then s
  else
    let missed := (s.fab.hbSent.map (·.1)).filter fun i => !s.fab.answered.contains i
    let s := forAll missed (fun i s => s.hbMissed i) s
    let (s, l) := (s.setFab fun f => { f with hbSent := [], answered := [] }).dirDevices
    forAll l (fun i s => s.hbSend i) s

/-- Steps 2 to 4 of a takeover, once the mode is 5 (R361). -/
def takeoverDone (s : State) : State :=
  let old := s.get R.MGT_FAB_MGR F.MGT_FAB_MGR_MGR_ID
  let e := (s.get R.MGT_FAB_MGR F.MGT_FAB_MGR_EPOCH + 1) % 256
  let s := ((s.set R.MGT_FAB_MGR F.MGT_FAB_MGR_EPOCH e).set R.MGT_FAB_MGR F.MGT_FAB_MGR_MGR_ID s.ownId).set R.MGT_FAB_MGR
    F.MGT_FAB_MGR_STBY_PRESENT 0
  let s := s.setFab fun f => { f with takeover := false, hbSent := [], answered := [] }
  let body := leBytes 1 old ++ leBytes 1 (s.get R.MGT_FAB_MGR F.MGT_FAB_MGR_STBY_ID) ++ [0, 0]
  let (s, l) := s.dirDevices
  let s := forAll (l.filter (· != old)) (fun i s => s.ctlRequest i 0x40 body) s
  s.mgrEvent 0x06 [] s.now (leBytes 1 old ++ leBytes 1 e)

end State

/-- HEARTBEAT_PERIOD (R358). -/
def execHeartbeatPeriod (s : State) : Res' := run .heartbeatPeriod s fun s => s.hbPeriod

end Sys2Proof.Machine
end

