-- ==== Sys2Proof/Machine/Flags.lean ====
section
/-! DEFINITION. The flag computations of Kolzen (R289, 08_kolzen_isa.md): each answers the result and Z, N, C, V. -/

namespace Sys2Proof.Machine

/-- A result with its flags. -/
structure Flagged where
  r : DWord
  z : Bool
  n : Bool
  c : Bool
  v : Bool
  deriving DecidableEq, Repr

/-- ADD: carry out of bit 63, signed overflow. -/
def addFlags (a b : DWord) : Flagged :=
  let r := a + b
  ⟨r, r == 0, r.msb, decide (2 ^ 64 ≤ a.toNat + b.toNat), (a.msb == b.msb) && (r.msb != a.msb)⟩

/-- SUB and CMP: C is 1 when there is no borrow. -/
def subFlags (a b : DWord) : Flagged :=
  let r := a - b
  ⟨r, r == 0, r.msb, decide (b.toNat ≤ a.toNat), (a.msb != b.msb) && (r.msb != a.msb)⟩

/-- AND, OR, XOR, TST: C and V are 0. -/
def logicFlags (r : DWord) : Flagged := ⟨r, r == 0, r.msb, false, false⟩

/-- SHL: C is the last bit shifted out, 0 for a shift by 0 (R288, R289). -/
def shlFlags (a b : DWord) : Flagged :=
  let n := b.toNat % 64
  let r := a <<< n
  ⟨r, r == 0, r.msb, decide (n ≠ 0) && a.getLsbD (64 - n), false⟩

/-- SHR. -/
def shrFlags (a b : DWord) : Flagged :=
  let n := b.toNat % 64
  let r := a >>> n
  ⟨r, r == 0, r.msb, decide (n ≠ 0) && a.getLsbD (n - 1), false⟩

/-- SAR. -/
def sarFlags (a b : DWord) : Flagged :=
  let n := b.toNat % 64
  let r := a.sshiftRight n
  ⟨r, r == 0, r.msb, decide (n ≠ 0) && a.getLsbD (n - 1), false⟩

/-- A lookup: Z on a miss. -/
def lookupFlags (miss : Bool) : Flagged := ⟨0, miss, false, false, false⟩

/-- A meter: Z when green, N when red; colour 0 green, 1 yellow, 2 red (R305). -/
def meterFlags (colour : Nat) : Flagged := ⟨BitVec.ofNat 64 colour, colour == 0, colour == 2, false, false⟩

/-- The conditions of Bcc (R290). -/
def condHolds (x : Nat) (z n c v : Bool) : Bool :=
  match x with
  | 0 => z
  | 1 => !z
  | 2 => c
  | 3 => !c
  | 4 => n
  | 5 => !n
  | 6 => v
  | 7 => !v
  | 8 => c && !z
  | 9 => !c || z
  | 10 => n == v
  | 11 => n != v
  | 12 => !z && (n == v)
  | 13 => z || (n != v)
  | 14 => true
  | _ => false

end Sys2Proof.Machine
end

