-- ==== Sys2Proof/Machine/Operands.lean ====
section
/-! DEFINITION. The operand forms of Kolzen (R278 to R282, R292, R293, R299, 08_kolzen_isa.md): the fields of an
instruction word, the registers, the second operand, and which words are illegal. -/

namespace Sys2Proof.Machine

/-- The fields of an instruction word (R280). -/
def kOp (w : DWord) : Nat := bits w.toNat 56 8
def kD (w : DWord) : Nat := bits w.toNat 51 5
def kA (w : DWord) : Nat := bits w.toNat 46 5
def kB (w : DWord) : Nat := bits w.toNat 41 5
def kV (w : DWord) : Bool := bit w.toNat 40
def kX (w : DWord) : Nat := bits w.toNat 32 8
def kImm (w : DWord) : Nat := bits w.toNat 0 32

/-- IMM as a 64-bit operand (R282). -/
def immZ (w : DWord) : DWord := BitVec.ofNat 64 (kImm w)
def immS (w : DWord) : DWord := (BitVec.ofNat 32 (kImm w)).signExtend 64

/-- The field of the view that IMM describes (R292). -/
def fO (w : DWord) : Nat := bits (kImm w) 0 7
def fN (w : DWord) : Nat := bits (kImm w) 7 3
def fS (w : DWord) : Nat := bits (kImm w) 10 6
def fW (w : DWord) : Nat := bits (kImm w) 16 6
def fBE (w : DWord) : Bool := bit (kImm w) 22

/-- Which of D, A, B, V, X, IMM an instruction word uses, by opcode and variant (R281, R287, R292, R304, R309, R312 to
R314); none for an opcode that the summary does not list. A word uses B with V = 0 and IMM with V = 1 where the summary
has the operand s (notes/assumptions/20.md). -/
def usedFields (op : Nat) (v : Bool) : Option (List Nat) :=
  -- 0 D, 1 A, 2 B, 3 V, 4 X, 5 IMM
  match op with
  | 0x00 => some []
  | 0x01 => some (if v then [0, 3, 5] else [0, 2])
  | 0x02 => some [0, 5]
  | 0x03 | 0x04 | 0x05 | 0x06 | 0x07 | 0x08 | 0x09 | 0x0A => some (if v then [0, 1, 3, 5] else [0, 1, 2])
  | 0x0B | 0x0C => some (if v then [1, 3, 5] else [1, 2])
  | 0x0D => some [0, 1]
  | 0x0E => some [0]
  | 0x10 => some (if v then [0, 1, 3, 5] else [0, 5])
  | 0x11 => some (if v then [1, 2, 3, 5] else [2, 5])
  | 0x18 => some [4, 5]
  | 0x20 | 0x21 | 0x22 | 0x23 => some [0, 1, 4]
  | 0x28 => some (if v then [0, 1, 2, 3, 5] else [0, 2, 5])
  | 0x29 => some (if v then [1, 2, 3, 5] else [5])
  | 0x30 => some (if v then [3, 4, 5] else [2, 4])
  | 0x31 => some (if v then [3, 5] else [2])
  | 0x38 => some (if v then [3, 4, 5] else [2, 4])
  | 0x3F => some []
  | _ => none

/-- The encoding limits of single instructions: Bcc (R290), EXT and INS (R292, R293), lookups (R297, R299), SETD (R312),
SMPL (R314). -/
def badForm (w : DWord) : Bool :=
  match kOp w with
  | 0x18 => decide (15 ≤ kX w) || decide (kImm w / 2 ^ 14 ≠ 0)
  | 0x10 | 0x11 => decide (kImm w / 2 ^ 23 ≠ 0) || decide (8 * (fN w + 1) < fS w + fW w + 1)
  | 0x20 | 0x22 => decide (64 ≤ kX w) || decide (16 ≤ kD w) || decide (16 ≤ kA w)
  | 0x21 => decide (64 ≤ kX w) || decide (16 ≤ kD w) || decide (15 ≤ kA w)
  | 0x23 => decide (64 ≤ kX w) || decide (15 ≤ kD w) || decide (14 ≤ kA w)
  | 0x30 => decide (14 ≤ kX w)
  | 0x38 => decide (2 ≤ kX w)
  | _ => false

/-- Whether a word raises ILLEGAL (R278, R281 and the limits of single instructions). -/
def illegal (w : DWord) : Bool :=
  match usedFields (kOp w) (kV w) with
  | none => true
  | some u =>
    let reg := fun (k v : Nat) => if u.contains k then decide (24 ≤ v) else decide (v ≠ 0)
    reg 0 (kD w) || reg 1 (kA w) || reg 2 (kB w) || (kV w && !u.contains 3)
      || (!u.contains 4 && decide (kX w ≠ 0)) || (!u.contains 5 && decide (kImm w ≠ 0)) || badForm w

namespace Job

/-- A register by its number (R278): 0 to 15 g, 16 to 23 m. -/
def reg (j : Job) (k : Nat) : DWord := if k < 16 then j.g.getD k 0 else j.m.getD (k - 16) 0

/-- A register replaced. -/
def setReg (j : Job) (k : Nat) (v : DWord) : Job :=
  if k < 16 then { j with g := j.g.set k v } else { j with m := j.m.set (k - 16) v }

/-- The flags replaced. -/
def setFlags (j : Job) (f : Flagged) : Job := { j with z := f.z, n := f.n, c := f.c, v := f.v }

/-- The second operand s with IMM sign-extended, or zero-extended (R282, R287). -/
def opS (j : Job) (w : DWord) : DWord := if kV w then immS w else j.reg (kB w)
def opZ (j : Job) (w : DWord) : DWord := if kV w then immZ w else j.reg (kB w)

/-- The byte offset of EXT and INS (R292): gA + O modulo 2^64 with V = 1, O otherwise. -/
def viewOff (j : Job) (w : DWord) : Nat :=
  if kV w then (j.reg (kA w) + BitVec.ofNat 64 (fO w)).toNat else fO w

/-- The N + 1 bytes of the view from an offset as an unsigned value in the order of BE (R294). -/
def viewVal (j : Job) (w : DWord) (off : Nat) : Nat :=
  let bs := (j.view.drop off).take (fN w + 1)
  leNat (if fBE w then bs.reverse else bs)

/-- The view with the N + 1 bytes from an offset replaced by a value in the order of BE (R295). -/
def viewPut (j : Job) (w : DWord) (off v : Nat) : Job :=
  let n := fN w + 1
  let bs := leBytes n v
  { j with view := j.view.take off ++ (if fBE w then bs.reverse else bs) ++ j.view.drop (off + n) }

end Job

end Sys2Proof.Machine
end

