-- ==== Sys2Proof/Machine/Crypto.lean ====
section
/-! DEFINITION. The cryptography that R524 to R526 name, as its standards define it (notes/assumptions/5.md): SHA-256, SHA-384 and SHA-512
(FIPS 180-4), RSASSA-PSS with SHA-384, MGF1 with SHA-384 and a salt of 48 bytes (RFC 8017), and the verification of SLH-DSA-SHA2-192s in its
pure form with an empty context (FIPS 205). -/

namespace Sys2Proof.Machine

/-! ### SHA-2 -/

/-- The round constants of SHA-384 and SHA-512. Their upper halves are those of SHA-256. -/
def shaK : List Nat :=
  [0x428A2F98D728AE22, 0x7137449123EF65CD, 0xB5C0FBCFEC4D3B2F, 0xE9B5DBA58189DBBC,
    0x3956C25BF348B538, 0x59F111F1B605D019, 0x923F82A4AF194F9B, 0xAB1C5ED5DA6D8118,
    0xD807AA98A3030242, 0x12835B0145706FBE, 0x243185BE4EE4B28C, 0x550C7DC3D5FFB4E2,
    0x72BE5D74F27B896F, 0x80DEB1FE3B1696B1, 0x9BDC06A725C71235, 0xC19BF174CF692694]
  ++ [0xE49B69C19EF14AD2, 0xEFBE4786384F25E3, 0x0FC19DC68B8CD5B5, 0x240CA1CC77AC9C65,
    0x2DE92C6F592B0275, 0x4A7484AA6EA6E483, 0x5CB0A9DCBD41FBD4, 0x76F988DA831153B5,
    0x983E5152EE66DFAB, 0xA831C66D2DB43210, 0xB00327C898FB213F, 0xBF597FC7BEEF0EE4,
    0xC6E00BF33DA88FC2, 0xD5A79147930AA725, 0x06CA6351E003826F, 0x142929670A0E6E70]
  ++ [0x27B70A8546D22FFC, 0x2E1B21385C26C926, 0x4D2C6DFC5AC42AED, 0x53380D139D95B3DF,
    0x650A73548BAF63DE, 0x766A0ABB3C77B2A8, 0x81C2C92E47EDAEE6, 0x92722C851482353B,
    0xA2BFE8A14CF10364, 0xA81A664BBC423001, 0xC24B8B70D0F89791, 0xC76C51A30654BE30,
    0xD192E819D6EF5218, 0xD69906245565A910, 0xF40E35855771202A, 0x106AA07032BBD1B8]
  ++ [0x19A4C116B8D2D0C8, 0x1E376C085141AB53, 0x2748774CDF8EEB99, 0x34B0BCB5E19B48A8,
    0x391C0CB3C5C95A63, 0x4ED8AA4AE3418ACB, 0x5B9CCA4F7763E373, 0x682E6FF3D6B2B8A3,
    0x748F82EE5DEFB2FC, 0x78A5636F43172F60, 0x84C87814A1F0AB72, 0x8CC702081A6439EC,
    0x90BEFFFA23631E28, 0xA4506CEBDE82BDE9, 0xBEF9A3F7B2C67915, 0xC67178F2E372532B]
  ++ [0xCA273ECEEA26619C, 0xD186B8C721C0C207, 0xEADA7DD6CDE0EB1E, 0xF57D4F7FEE6ED178,
    0x06F067AA72176FBA, 0x0A637DC5A2C898A6, 0x113F9804BEF90DAE, 0x1B710B35131C471B,
    0x28DB77F523047D84, 0x32CAAB7B40C72493, 0x3C9EBE0A15C9BEBC, 0x431D67C49C100D4C,
    0x4CC5D4BECB3E42B6, 0x597F299CFC657E2A, 0x5FCB6FAB3AD6FAEC, 0x6C44198C4A475817]

/-- The initial words of SHA-512, whose upper halves are those of SHA-256, and of SHA-384. -/
def shaIv512 : List Nat :=
  [0x6A09E667F3BCC908, 0xBB67AE8584CAA73B, 0x3C6EF372FE94F82B, 0xA54FF53A5F1D36F1,
   0x510E527FADE682D1, 0x9B05688C2B3E6C1F, 0x1F83D9ABFB41BD6B, 0x5BE0CD19137E2179]
def shaIv384 : List Nat :=
  [0xCBBB9D5DC1059ED8, 0x629A292A367CD507, 0x9159015A3070DD17, 0x152FECD8F70E5939,
   0x67332667FFC00B31, 0x8EB44A8768581511, 0xDB0C2E0D64F98FA7, 0x47B5481DBEFA4FA4]

/-- A hash of the family: its constants, its initial words and the amounts of its four mixing functions, which end in a shift for the
message schedule's two. -/
structure Sha (w : Nat) where
  k : List (BitVec w)
  iv : List (BitVec w)
  big0 : Nat × Nat × Nat
  big1 : Nat × Nat × Nat
  small0 : Nat × Nat × Nat
  small1 : Nat × Nat × Nat

def shaBig {w : Nat} (r : Nat × Nat × Nat) (x : BitVec w) : BitVec w := x.rotateRight r.1 ^^^ x.rotateRight r.2.1 ^^^ x.rotateRight r.2.2
def shaSmall {w : Nat} (r : Nat × Nat × Nat) (x : BitVec w) : BitVec w := x.rotateRight r.1 ^^^ x.rotateRight r.2.1 ^^^ (x >>> r.2.2)

/-- The message schedule, newest word first. -/
def shaSchedule {w : Nat} (h : Sha w) : Nat → List (BitVec w) → List (BitVec w)
  | 0, l => l
  | n + 1, l =>
    shaSchedule h n ((shaSmall h.small1 (l.getD 1 0) + l.getD 6 0 + shaSmall h.small0 (l.getD 14 0) + l.getD 15 0) :: l)

/-- One round. -/
def shaRound {w : Nat} (h : Sha w) (v : List (BitVec w)) (x : BitVec w × BitVec w) : List (BitVec w) :=
  match v with
  | [a, b, c, d, e, f, g, i] =>
    let t1 := i + shaBig h.big1 e + ((e &&& f) ^^^ (~~~e &&& g)) + x.1 + x.2
    let t2 := shaBig h.big0 a + ((a &&& b) ^^^ (a &&& c) ^^^ (b &&& c))
    [t1 + t2, a, b, c, d + t1, e, f, g]
  | _ => v

/-- One block of sixteen words. -/
def shaBlock {w : Nat} (h : Sha w) (v : List (BitVec w)) (ws : List (BitVec w)) : List (BitVec w) :=
  let sched := (shaSchedule h (h.k.length - 16) ws.reverse).reverse
  (v.zip ((h.k.zip sched).foldl (shaRound h) v)).map fun x => x.1 + x.2

/-- A number in big-endian bytes, and the number that bytes give. -/
def beBytes (n v : Nat) : List Byte := (leBytes n v).reverse
def beNat (b : List Byte) : Nat := leNat b.reverse

/-- The padded message: a one bit, zeros, and the length in bits in the last two words. -/
def shaPad (wb : Nat) (m : List Byte) : List Byte :=
  let z := (16 * wb - (m.length + 1 + 2 * wb) % (16 * wb)) % (16 * wb)
  m ++ [0x80] ++ List.replicate z 0 ++ beBytes (2 * wb) (8 * m.length)

/-- The hash of a message: `n` bytes of its words. -/
def shaRun {w : Nat} (h : Sha w) (n : Nat) (m : List Byte) : List Byte :=
  let wb := w / 8
  let p := shaPad wb m
  let word := fun i => BitVec.ofNat w (beNat ((p.drop (wb * i)).take wb))
  ((((upTo (p.length / (16 * wb))).foldl (fun v b => shaBlock h v ((upTo 16).map fun i => word (16 * b + i))) h.iv).flatMap
    fun x => beBytes wb x.toNat)).take n

def sha512Of (iv : List Nat) : Sha 64 :=
  ⟨shaK.map (BitVec.ofNat 64), iv.map (BitVec.ofNat 64), (28, 34, 39), (14, 18, 41), (1, 8, 7), (19, 61, 6)⟩

/-- SHA-384, SHA-512 and SHA-256 of a byte string. -/
def sha384 (m : List Byte) : List Byte := shaRun (sha512Of shaIv384) 48 m
def sha512 (m : List Byte) : List Byte := shaRun (sha512Of shaIv512) 64 m
def sha256 (m : List Byte) : List Byte :=
  let hi := fun x => BitVec.ofNat 32 (x / 2 ^ 32)
  shaRun ⟨(shaK.take 64).map hi, shaIv512.map hi, (2, 13, 22), (6, 11, 25), (7, 18, 3), (17, 19, 10)⟩ 32 m

/-- MGF1: `n` bytes of mask, `k` hashes of the seed with a counter. -/
def mgf1 (hash : List Byte → List Byte) (k n : Nat) (seed : List Byte) : List Byte :=
  ((upTo k).flatMap fun c => hash (seed ++ beBytes 4 c)).take n

/-! ### RSASSA-PSS with a modulus of 3,072 bits -/

/-- A power by 65,537, the public exponent of R524: sixteen squarings and a product. -/
def rsaPower (n x : Nat) : Nat := (upTo 16).foldl (fun y _ => y * y % n) (x % n) * x % n

/-- The encoded message of 384 bytes carries the hash of `m`: EMSA-PSS verification with 3,071 bits. -/
def pssOk (m em : List Byte) : Bool :=
  let masked := em.take 335
  let h := (em.drop 335).take 48
  let db := ((masked.zip (mgf1 sha384 7 335 h)).map fun x => x.1 ^^^ x.2)
  let db := (db.headD 0 &&& 0x7F) :: db.tail
  decide (em.length = 384) && decide ((em.drop 383) = [0xBC]) && decide ((masked.headD 0).toNat < 128)
    && (db.take 286).all (· == 0) && decide (db.getD 286 0 = 1)
    && decide (h = sha384 (List.replicate 8 0 ++ sha384 m ++ db.drop 287))

/-- Verification under R525: the key's first 384 bytes are the modulus, big-endian. -/
def rsaVerify (key m sig : List Byte) : Bool :=
  let n := beNat (key.take 384)
  decide (sig.length = 384) && decide (beNat sig < n) && pssOk m (beBytes 384 (rsaPower n (beNat sig)))

/-! ### SLH-DSA-SHA2-192s -/

/-- A compressed address: layer, tree, type and its three last words. -/
structure SlhAdrs where
  layer : Nat
  tree : Nat
  ty : Nat
  w1 : Nat
  w2 : Nat
  w3 : Nat

def SlhAdrs.bytes (a : SlhAdrs) : List Byte :=
  beBytes 1 a.layer ++ beBytes 8 a.tree ++ beBytes 1 a.ty ++ beBytes 4 a.w1 ++ beBytes 4 a.w2 ++ beBytes 4 a.w3

/-- F by SHA-256, and H and T by SHA-512, of 24 bytes. -/
def slhF (seed : List Byte) (a : SlhAdrs) (m : List Byte) : List Byte := (sha256 (seed ++ List.replicate 40 0 ++ a.bytes ++ m)).take 24
def slhT (seed : List Byte) (a : SlhAdrs) (m : List Byte) : List Byte := (sha512 (seed ++ List.replicate 104 0 ++ a.bytes ++ m)).take 24

/-- The i-th string of 24 bytes. -/
def slhNode (b : List Byte) (i : Nat) : List Byte := (b.drop (24 * i)).take 24

/-- A chain from step `i` on. -/
def slhChain (seed : List Byte) (a : SlhAdrs) (x : List Byte) (i steps : Nat) : List Byte :=
  (upTo steps).foldl (fun x j => slhF seed { a with w3 := i + j } x) x

/-- The digits of a message of 24 bytes to base 16 with their checksum: 51. -/
def slhDigits (m : List Byte) : List Nat :=
  let d := m.flatMap fun b => [b.toNat / 16, b.toNat % 16]
  let c := (d.map (15 - ·)).sum
  d ++ [c / 256 % 16, c / 16 % 16, c % 16]

/-- The root that an authentication path leads to from leaf `idx`. -/
def slhRoot (seed : List Byte) (adrs : Nat → Nat → SlhAdrs) (auth : List Byte) (height idx : Nat) (leaf : List Byte) : List Byte :=
  (upTo height).foldl (fun node j =>
    let a := adrs (j + 1) (idx / 2 ^ (j + 1))
    if idx / 2 ^ j % 2 = 0 then slhT seed a (node ++ slhNode auth j) else slhT seed a (slhNode auth j ++ node)) leaf

/-- The public key that a WOTS+ signature gives. -/
def slhWots (seed : List Byte) (layer tree leaf : Nat) (sig m : List Byte) : List Byte :=
  let parts := ((slhDigits m).zip (upTo 51)).flatMap fun x =>
    slhChain seed ⟨layer, tree, 0, leaf, x.2, 0⟩ (slhNode sig x.2) x.1 (15 - x.1)
  slhT seed ⟨layer, tree, 1, leaf, 0, 0⟩ parts

/-- The root that one layer's XMSS signature gives: 51 chains and a path of 9. -/
def slhXmss (seed : List Byte) (layer tree leaf : Nat) (sig m : List Byte) : List Byte :=
  slhRoot seed (fun h i => ⟨layer, tree, 2, 0, h, i⟩) (sig.drop (24 * 51)) 9 leaf (slhWots seed layer tree leaf sig m)

/-- The FORS public key: 17 trees of height 14, their leaves named by the digest's bits. -/
def slhFors (seed : List Byte) (tree leaf : Nat) (sig md : List Byte) : List Byte :=
  let v := beNat md
  let roots := (upTo 17).flatMap fun i =>
    let idx := v / 2 ^ (8 * md.length - 14 * (i + 1)) % 2 ^ 14
    let s := sig.drop (24 * 15 * i)
    let a := fun h k => SlhAdrs.mk 0 tree 3 leaf h (i * 2 ^ (14 - h) + k)
    slhRoot seed a (s.drop 24) 14 idx (slhF seed (a 0 idx) (s.take 24))
  slhT seed ⟨0, tree, 4, leaf, 0, 0⟩ roots

/-- Verification of a signature of 16,224 bytes: a FORS signature of the message's digest, and seven XMSS signatures above it. -/
def slhVerify (key m sig : List Byte) : Bool :=
  let seed := key.take 24
  let r := sig.take 24
  let d := mgf1 sha512 1 39 (r ++ seed ++ sha512 (r ++ key ++ [0, 0] ++ m))
  let tree := beNat ((d.drop 30).take 7) % 2 ^ 54
  let leaf := beNat ((d.drop 37).take 2) % 2 ^ 9
  let fors := slhFors seed tree leaf (sig.drop 24) (d.take 30)
  let top := sig.drop (24 * 256)
  let root := (upTo 7).foldl (fun node j =>
    let t := tree / 2 ^ (9 * j)
    let l := if j = 0 then leaf else tree / 2 ^ (9 * (j - 1)) % 2 ^ 9
    slhXmss seed j t l (top.drop (24 * 60 * j)) node) fors
  decide (sig.length = 16224) && decide (root = key.drop 24)

end Sys2Proof.Machine
end

