-- ==== Sys2Proof/Machine/Flash.lean ====
section
/-! DEFINITION. The flash behind the SPI port (R60, R580), what cuts an operation short (R471, 20_management_registers.md,
22_electrical.md), and the discarding of a command's response (R201, R572). -/

namespace Sys2Proof.Machine

namespace State

/-- Bytes of a flash device. -/
def flashBytes (s : State) (cs off len : Nat) : List Byte := bytesAt erasedByte (if cs = 0 then s.flash0 else s.flash1) off len

/-- Bytes stored in a flash device. -/
def flashPut (s : State) (cs off : Nat) (bs : List Byte) : State :=
  if cs = 0 then { s with flash0 := putBytes erasedByte s.flash0 off bs } else { s with flash1 := putBytes erasedByte s.flash1 off bs }

/-- Programming leaves the data in erased bytes; what it leaves in a byte that is not erased no rule states: a free value
(notes/assumptions/42.md). -/
def program (s : State) (cs off : Nat) (bs : List Byte) : State :=
  let old := s.flashBytes cs off bs.length
  let new := (old.zip bs).zip (s.freeBytes bs.length) |>.map fun x => if x.1.1 = 0xFF then x.1.2 else x.2
  (s.usedN bs.length).flashPut cs off new

/-- The first `n` bytes of a program or erase operation take effect. -/
def flashPart (s : State) (o : FlashOp) (n : Nat) : State :=
  if o.cut then s
  else if o.op = 0x06 then s.program o.cs o.off (o.data.take n)
  else if o.op = 0x07 then s.flashPut o.cs o.off (List.replicate (min n o.len) 0xFF)
  else s

/-- The operation at the port stops after a number of whole units of `u` bytes that no rule fixes. -/
def flashStop (s : State) (o : FlashOp) (u : Nat) : State :=
  let n := s.freeBelow (o.len / u + 1) * u
  s.used.flashPart o n

/-- A reset cuts the operation at the port at a byte boundary (22_electrical.md). -/
def flashCut (s : State) : State :=
  match s.chan.flashQ with
  | [] => s
  | o :: _ => s.flashStop o 1

/-- The safe state cuts it likewise (R471); it will end with an error. -/
def flashSafe (s : State) : State :=
  match s.chan.flashQ with
  | [] => s
  | o :: t =>
    let s := s.flashStop o 1
    { s with chan := { s.chan with flashQ := { o with cut := true } :: t } }

/-- An FLR: the page being programmed completes, later ones are not written, and there is no response
(20_management_registers.md); operations that have not begun are dropped with it. -/
def flashDrop (s : State) (h : Nat) : State :=
  let s := match s.chan.flashQ with
    | o :: _ => if o.path = h then s.flashStop o 256 else s
    | [] => s
  { s with chan := { s.chan with
    flashQ := s.chan.flashQ.filter fun (o : FlashOp) => o.path != h
    cmds := s.chan.cmds.upd dNone h fun c => c.filter fun (x : ChCmd) => x.stage != .flash } }

/-- The response of the command in progress on a path is to be discarded; one that firmware holds, or that has only its
response left, is over. -/
def quietCmd (s : State) (path : Nat) : State :=
  { s with chan := { s.chan with cmds := s.chan.cmds.upd dNone path fun c => match c with
    | some x => if x.stage = .firmware ∨ x.stage = .answered then none else some { x with quiet := true }
    | none => none } }

end State

end Sys2Proof.Machine
end

