-- ==== Sys2Proof/Machine/Flit.lean ====
section
/-! DEFINITION. Flits of a Woell link and their transmission (R127 to R138, R148, R150, R151, 04_woell_link.md): headers, CRC, slots
of link packets, the choice of what each flit slot carries. -/

namespace Sys2Proof.Machine

open State

/-! ### Flit headers and CRC (R130, R131) -/

/-- A flit header from its fields. -/
def flitHdr (ty cls seq ack nak crCls crCount start : Nat) : DWord :=
  BitVec.ofNat 64 (ty % 4 + cls % 4 * 2 ^ 2 + seq % 4096 * 2 ^ 4 + ack % 4096 * 2 ^ 16 + nak % 2 * 2 ^ 28 + crCls % 4 * 2 ^ 30
    + crCount % 65536 * 2 ^ 32 + start % 32 * 2 ^ 48)

def hTYPE (h : DWord) : Nat := bits h.toNat 0 2
def hCLASS (h : DWord) : Nat := bits h.toNat 2 2
def hSEQ (h : DWord) : Nat := bits h.toNat 4 12
def hACK (h : DWord) : Nat := bits h.toNat 16 12
def hNAK (h : DWord) : Bool := bit h.toNat 28
def hCRCLS (h : DWord) : Nat := bits h.toNat 30 2
def hCRCOUNT (h : DWord) : Nat := bits h.toNat 32 16
def hSTART (h : DWord) : Nat := bits h.toNat 48 5

/-- The 512 bytes of a flit (R129): header, payload, CRC-64 with its least significant byte at byte 504. -/
def flitBytes (f : Flit) : List Byte := leBytes 8 f.hdr.toNat ++ f.payload ++ leBytes 8 f.crc.toNat

/-- The CRC-64 of a flit (R131): over its first 504 bytes. -/
def flitCrc (h : DWord) (payload : List Byte) : DWord := BitVec.ofNat 64 (crc64 ((flitBytes ⟨h, payload, 0⟩).take 504))

/-- A flit whose header and payload agree with its CRC (R132). -/
def flitOk (f : Flit) : Bool := f.crc == flitCrc f.hdr f.payload

/-- The class a reserved TYPE or CLASS makes a protocol error (R132). -/
def flitProto (h : DWord) : Bool :=
  decide (2 ≤ hTYPE h) || (decide (hTYPE h = 1) && decide (hCLASS h = 3)) || (decide (hTYPE h = 0) && decide (hCLASS h ≠ 3))

/-- The slots of a link packet (R133): prefix, packet, pad to whole slots. -/
def slotsOf (k : LinkPkt) : List (List Byte) :=
  let n := k.bytes.length
  let raw := leBytes 4 (n % 8192 + b2n k.lcm * 2 ^ 15) ++ k.bytes
  let c := (n + 4 + 15) / 16
  let raw := padTo (16 * c) raw
  (upTo c).map (fun i => (raw.drop (16 * i)).take 16)

/-- Sequence numbers in the half-space (R139): 0 equal, 1 after, 2 before. -/
def seqCmp (a b : Nat) : Nat :=
  let d := (a + 4096 - b % 4096) % 4096
  if d = 0 then 0 else if d ≤ 2047 then 1 else 2

/-- An ACK in the permitted range (R142): from the oldest unacknowledged number minus 1 to the last sent. -/
def ackOk (buf : List TxFlit) (next ack : Nat) : Bool :=
  let oldest := match buf with | f :: _ => f.seq | [] => next
  let lo := (oldest + 4095) % 4096
  decide ((ack + 4096 - lo) % 4096 ≤ (next + 4095 + 4096 - lo) % 4096 % 4096)

/-- Header fields of a fabric packet (R376). -/
def hb (bs : List Byte) (lo w : Nat) : Nat := bits (leNat (bs.take 32)) lo w

/-- The base class of a fabric packet (R238). -/
def fabricBase (cls : Nat) (bs : List Byte) : Nat :=
  let opc := hb bs 16 3
  if cls = 0 then 16
  else if cls = 1 then (if opc = 3 then 18 else 17)
  else if opc = 6 then 20 else 19

def clsRx (l : Link) (c : Nat) : ClsRx := if c = 0 then l.rx0 else if c = 1 then l.rx1 else l.rx2
def setClsRx (l : Link) (c : Nat) (x : ClsRx) : Link :=
  if c = 0 then { l with rx0 := x } else if c = 1 then { l with rx1 := x } else { l with rx2 := x }

/-- Fill up to `n` slots of a flit from a class: what is left of the packet in flight, then packets that have credit (R134,
R148). Answers the slots, the first slot in which a packet starts, and the class after it. -/
def fillSlots : Nat → Nat → ClsTx → List (List Byte) × Nat × ClsTx
  | 0, _, x => ([], 31, x)
  | n + 1, pos, x =>
    match x.cur with
    | sl :: rest =>
      let r := fillSlots n (pos + 1) { x with cur := rest }
      (sl :: r.1, r.2.1, r.2.2)
    | [] =>
      match x.wait with
      | [] => ([], 31, x)
      | k :: w =>
        if linkUnits k.bytes.length ≤ credit x then
          match slotsOf k with
          | [] => ([], 31, x)
          | sl :: rest =>
            let r := fillSlots n (pos + 1) { x with wait := w, cur := rest, used := (x.used + linkUnits k.bytes.length) % 65536 }
            (sl :: r.1, pos, r.2.2)
        else ([], 31, x)

/-- A class has data to send: a packet in flight, or one with credit for it. -/
def clsReady (x : ClsTx) : Bool :=
  !x.cur.isEmpty || (match x.wait with | k :: _ => x.cr.isSome && decide (linkUnits k.bytes.length ≤ credit x) | [] => false)

namespace State

/-! ### Link registers -/

def linkSet (s : State) (g p : Nat) (f : Fld) (v : Nat) : State := s.set (R.GRP_LINK_STAT g p) f v
def linkRate (s : State) (g p : Nat) : Nat := s.get (R.GRP_LINK_STAT g p) F.GRP_LINK_STAT_RATE

/-- The credits a transmitter holds, shown in the status registers (R150). -/
def showCredits (s : State) (g p : Nat) : State :=
  let l := s.link g p
  ((s.set (R.GRP_LINK_RX g p) F.GRP_LINK_RX_CTL_CRD (credit l.tx0)).set (R.GRP_LINK_CRDS g p) F.GRP_LINK_CRDS_REQ_CRD
    (credit l.tx1)).set (R.GRP_LINK_CRDS g p) F.GRP_LINK_CRDS_RSP_CRD (credit l.tx2)

/-- A link packet handed to the transmitter of a class. -/
def linkSend (s : State) (g p c : Nat) (k : LinkPkt) : State :=
  s.setLink g p fun l => setClsTx l c { clsTx l c with wait := (clsTx l c).wait ++ [k] }

/-- A link control message (R136): opcode and operands, 12 bytes. -/
def lcmBytes (op : Nat) (ops : List Nat) : List Byte := padTo 12 ((op :: ops).map (BitVec.ofNat 8))
def sendLcm (s : State) (g p op : Nat) (ops : List Nat) : State := s.linkSend g p 0 ⟨true, lcmBytes op ops⟩

/-! ### Transmit -/

/-- Unacknowledged flits a link may hold (R46, R138). -/
def flitLimit (s : State) (g : Nat) : Nat :=
  let n := ((upTo 8).filter (fun p => s.isFabric (g * 8 + p))).length
  min 256 (512 / max 1 n)

/-- The DATA pause of a swap (R159, R160): from this end's SWAP_GO to the end of the swap block only IDLE flits go out. -/
def swapPause (l : Link) : Bool :=
  match l.swap with
  | some w => w.sentGo && l.tx0.cur.isEmpty && !l.tx0.wait.any (fun k => k.lcm)
  | none => false

/-- A flit is sent with the header fields every flit carries (R130, R141, R150). -/
def putFlit (s : State) (g p ty cls seq start : Nat) (payload : List Byte) : State :=
  let l := s.link g p
  let rx := R.GRP_LINK_RX g p
  let h := flitHdr ty cls seq ((s.get rx F.GRP_LINK_RX_RX_NEXT + 4095) % 4096) (s.get rx F.GRP_LINK_RX_NAK_PEND) l.crNext
    (clsRx l l.crNext).granted start
  let s := s.setLink g p fun l => { l with crNext := (l.crNext + 1) % 3 }
  let s := s.emit (.flit g p ⟨h, payload, flitCrc h payload⟩)
  (s.count g 2 p 1).count g 4 p 512

/-- The class to send new data from (R151): CTL first, at most once in 50 slots while REQ or RSP is ready, then REQ and RSP in
turn. -/
def pickClass (l : Link) : Option Nat :=
  let r0 := clsReady l.tx0
  let r1 := clsReady l.tx1
  let r2 := clsReady l.tx2
  if r0 && (decide (49 ≤ l.sinceCtl) || !(r1 || r2)) then some 0
  else if r1 && r2 then some (if l.rspTurn then 2 else 1)
  else if r1 then some 1
  else if r2 then some 2
  else none

/-- One flit slot of a link's transmitter (R127, R151): a replay, then new data, then an IDLE flit, which names the flit that the next
DATA flit will carry (R130). -/
def transmit (s : State) (g p : Nat) : State :=
  let st := s.linkState g p
  if st = 2 ∨ st = 3 ∨ st = 4 then
    let l := s.link g p
    let next := s.get (R.GRP_LINK_SEQ g p) F.GRP_LINK_SEQ_TX_NEXT
    let idle := fun (s : State) =>
      (s.putFlit g p 0 3 ((s.link g p).replayQ.headD next) 31 (leBytes 496 (s.freeBelow (2 ^ 3968)))).used
    let s := s.setLink g p fun l => { l with sinceCtl := min 49 (l.sinceCtl + 1) }
    if swapPause l then idle s
    else
      match l.replayQ with
      | q :: rest =>
        let s := s.setLink g p fun l => { l with replayQ := rest }
        match l.buf.find? (fun f => f.seq == q) with
        | some f => s.putFlit g p 1 f.cls f.seq f.start f.payload
        | none => idle s
      | [] =>
        match (if l.buf.length < s.flitLimit g then pickClass l else none) with
        | none => idle s
        | some c =>
          let r := fillSlots 31 0 (clsTx l c)
          let payload := padTo 496 r.1.flatten
          let s := s.setLink g p fun l =>
            { setClsTx l c r.2.2 with
              buf := l.buf ++ [⟨next, c, r.2.1, payload⟩]
              sinceCtl := if c = 0 then 0 else l.sinceCtl
              rspTurn := if c = 1 then true else if c = 2 then false else l.rspTurn }
          let s := s.set (R.GRP_LINK_SEQ g p) F.GRP_LINK_SEQ_TX_NEXT ((next + 1) % 4096)
          (s.putFlit g p 1 c next r.2.1 payload).showCredits g p
  else s

/-- Flit slots until every link control message that waits has left (R136), at most `n` of them, and only while the link can carry
one. -/
def flushCtl : Nat → Nat → Nat → State → State
  | 0, _, _, s => s
  | n + 1, g, p, s =>
    let l := s.link g p
    if (l.tx0.wait.any (·.lcm) || !l.tx0.cur.isEmpty) && !swapPause l && (clsReady l.tx0 || !l.replayQ.isEmpty) then
      flushCtl n g p (s.transmit g p)
    else s

/-- A message is sent that the link must carry before it goes down (R161): it takes its turn among the CTL flits (R151). -/
def sendLast (s : State) (g p op : Nat) (ops : List Nat) : State :=
  let s := s.sendLcm g p op ops
  let l := s.link g p
  flushCtl (l.replayQ.length + 51 * (l.tx0.wait.length + 1)) g p s

end State

end Sys2Proof.Machine
end

