-- ==== Sys2Proof/Machine/Lanes.lean ====
section
/-! DEFINITION. Lanes and the states of a fabric link: equalisation entries (R87 to R92), layout (R80 to R82), bring-up
(R112 to R115), retrain and width fallback (R154 to R164), spare swap (R116 to R122, R159 to R161). From 03_lanes.md and
04_woell_link.md. -/

namespace Sys2Proof.Machine

/-! ### Names of codes -/

/-- The number of a lane in the equalisation table (R87). -/
def laneNo (g n : Nat) : Nat := if n < 16 then g * 16 + n else 256 + g

/-- A signed byte. -/
def signedByte (b : Byte) : Int := b.toInt

/-- Whether an equalisation entry is ignored (R88). DESIGN CHOICE: byte 8 out of range ignores an entry at a Woell rate too
(notes/assumptions/101.md). -/
def eqBad (e : List Byte) : Bool :=
  let at' := fun i => (e.getD i 0).toNat
  let sg := fun i => (signedByte (e.getD i 0)).natAbs
  decide (at' 3 ≠ 1) || decide (271 < fieldAt e 0 2) || !([0, 1, 2, 3, 4, 5, 6, 8, 9, 10, 11].contains (at' 2))
    || decide (64 < sg 4 + sg 5 + at' 6 + sg 7)
    || (decide (10 < at' 8) && decide (at' 8 ≠ 255)) || decide (31 < at' 9) || decide (63 < at' 10)
    || decide (7 < at' 14) || decide (at' 15 ≠ 0)

/-- The CRC of a lane training record (R112). -/
def trainingCrcOk (b : List Byte) : Bool := decide (crc16 (b.take 30) = fieldAt b 30 2)

/-- The chosen lanes of a link after exclusions (R162): `ok k` says that logical lane k of the configured width may be used.
The widths tried are the configured one, its halves and its quarters, the lowest first. -/
def chooseLanes (w : Nat) (ok : Nat → Bool) : Option (List Nat) :=
  let sets := [[(0, w)], [(0, w / 2), (w / 2, w / 2)], [(0, w / 4), (w / 4, w / 4), (w / 2, w / 4), (3 * (w / 4), w / 4)]].flatten
  match sets.find? (fun x => decide (4 ≤ x.2) && (upTo x.2).all (fun i => ok (x.1 + i))) with
  | some x => some ((upTo x.2).map (fun i => x.1 + i))
  | none => none

/-- The width code of LINK_STAT for a lane count. -/
def widthCode (n : Nat) : Nat := if n = 16 then 2 else if n = 8 then 1 else 0

namespace State

/-! ### Layout (R80 to R82) -/

/-- Whether the layout words of a group are valid (R81). DESIGN CHOICE: the MAXRATE of a port that is not enabled is not looked at
(notes/assumptions/116.md). -/
def layoutOk (ws : List Word) : Bool :=
  let en := fun i => fldOf (ws.getD i 0) F.GRP_PORT_CFG_EN = 1
  let first := fun i => fldOf (ws.getD i 0) F.GRP_PORT_CFG_FIRST
  let wid := fun i => 2 ^ fldOf (ws.getD i 0) F.GRP_PORT_CFG_WIDTH
  let code := fun i => fldOf (ws.getD i 0) F.GRP_PORT_CFG_WIDTH
  let mode := fun i => fldOf (ws.getD i 0) F.GRP_PORT_CFG_MODE
  let mr := fun i => fldOf (ws.getD i 0) F.GRP_PORT_CFG_MAXRATE
  (upTo 8).all (fun i => !decide (en i) ||
    ((decide (i = 0) || (decide (en (i - 1)) && decide (first (i - 1) + wid (i - 1) ≤ first i)))
      && decide (first i % wid i = 0) && decide (first i + wid i ≤ 16) && decide (code i ≤ 4)
      && (decide (mode i = 0) || decide (2 ≤ code i))
      && (decide (mr i = 15) || (decide (mode i = 0) && decide (mr i < 7)) || (decide (mode i = 1) && decide (8 ≤ mr i ∧ mr i < 12)))))

/-- The layout words that a release of a group samples (R80): its registers; in Recovery one x1 PCI Express port on L000 of G00 and
nothing else (R83). -/
def layoutWords (s : State) (g : Nat) : List Word :=
  (upTo 8).map fun p =>
    if s.mode ≠ 1 then s.rd (R.GRP_PORT_CFG g p)
    else if g = 0 ∧ p = 0 then setFld (setFld 0 F.GRP_PORT_CFG_EN 1) F.GRP_PORT_CFG_MAXRATE 15 else 0

/-- CFG_ERR says that the layout last sampled is invalid (R82). -/
def judgeLayout (s : State) (g : Nat) : State :=
  s.set (R.GRP_LANE_STAT g) F.GRP_LANE_STAT_CFG_ERR (b2n !(layoutOk ((upTo 8).map fun p => s.layout (g * 8 + p))))

/-- A group's layout is sampled (R80, R82): invalid layouts set CFG_ERR and are reported. -/
def sampleLayout (s : State) (g : Nat) : State :=
  let ws := s.layoutWords g
  let s := forAll (upTo 8) (fun p s => { s with samp := s.samp.put dWord (g * 8 + p) (ws.getD p 0) }) s
  let s := s.judgeLayout g
  if layoutOk ws then s else s.raise (srcGroup g) 0x05 none none 0

/-- The layout last sampled of a group has an enabled port (R503). -/
def groupUsed (s : State) (g : Nat) : Bool := (upTo 8).any fun p => fldOf (s.layout (g * 8 + p)) F.GRP_PORT_CFG_EN == 1

/-! ### Lanes -/

/-- The entry in force for a lane at a rate (R87). -/
def eqEntry (s : State) (g n r : Nat) : Option (List Byte) :=
  match s.eq.get dNil (laneNo g n * 16 + r) with | [] => none | e => some e

/-- A lane may run at a rate (R89). -/
def laneAllows (s : State) (g n r : Nat) : Bool := (s.eqEntry g n r).isSome || decide (r = 0) || decide (r = 8) || decide (s.mode = 1)

/-- The settings of a lane at a rate with their source as EQ_SRC codes it (R87, R89, R126): the override in force at that rate, else the
entry, else the factory settings, which Recovery always uses. -/
def laneSettings (s : State) (g n r : Nat) : List Byte × Nat :=
  let own := match s.eqEntry g n r with | some e => (e, 0) | none => ([], 1)
  if s.mode = 1 then ([], 1) else
  match (s.lane g n).ovr with
  | some (r', b) => if r' = r then (b, 2) else own
  | none => own

/-- A lane loads its entry for a rate (R92, R126) and reports it; its receiver starts afresh. -/
def loadLane (s : State) (g n r pos : Nat) : State :=
  let (e, src) := s.laneSettings g n r
  let a := R.GRP_LANE_CTL g n
  let s := s.setLane g n fun L => { L with loaded := e, aligning := true, tx := none }
  (((((s.set a F.GRP_LANE_CTL_RATE r).set a F.GRP_LANE_CTL_EQ_SRC src).set a F.GRP_LANE_CTL_POS pos).set a
    F.GRP_LANE_CTL_LOCK 0).set a F.GRP_LANE_CTL_ALIGNED 0).set a F.GRP_LANE_CTL_POL 0

/-- A lane is powered down. -/
def laneDown (s : State) (g n : Nat) : State :=
  let a := R.GRP_LANE_CTL g n
  let s := s.setLane g n fun L => { L with loaded := [], aligning := false, due := false, tx := none }
  ((s.set a F.GRP_LANE_CTL_EQ_SRC 3).set a F.GRP_LANE_CTL_LOCK 0).set a F.GRP_LANE_CTL_ALIGNED 0

def laneAligned (s : State) (g n : Nat) : Bool := s.on (R.GRP_LANE_CTL g n) F.GRP_LANE_CTL_ALIGNED

/-- Whether every lane of a link is aligned. -/
def allAligned (s : State) (g p : Nat) : Bool := (s.link g p).lanes.all (fun n => s.laneAligned g n)

/-- The link of a group whose lanes hold lane n. -/
def linkOf (s : State) (g n : Nat) : Option Nat :=
  (upTo 8).find? (fun p => s.isFabric (g * 8 + p) && (s.link g p).lanes.contains n)

/-- The PCI Express port of a group that lane n belongs to. -/
def pciePortOf (s : State) (g n : Nat) : Option Nat :=
  (upTo 8).find? (fun p => s.isPcie (g * 8 + p) && (s.portLanes (g * 8 + p)).contains n)

/-- The device id sent in training records (R342). -/
def trainId (s : State) : Nat := if s.on R.MGT_FAB_ID F.MGT_FAB_ID_VALID then s.get R.MGT_FAB_ID F.MGT_FAB_ID_ID else 255

/-- The highest rate of a fabric link (R91); the spare counts while it is in use in the link. -/
def topRate (s : State) (g p : Nat) : Nat :=
  let ls := (s.link g p).lanes
  let has := fun r => ls.all (fun n => (s.eqEntry g n r).isSome)
  let t := if has 9 then (if has 10 then (if has 11 then 11 else 10) else 9) else 8
  let m := fldOf (s.layout (g * 8 + p)) F.GRP_PORT_CFG_MAXRATE
  if m = 15 then t else max 8 (min t m)

/-- The receive status of a lane as its records carry it (R112). DEDUCED: deskewed once every lane of the link is aligned. -/
def laneStatus (s : State) (g p n : Nat) : Nat :=
  let a := R.GRP_LANE_CTL g n
  s.get a F.GRP_LANE_CTL_LOCK + 2 * s.get a F.GRP_LANE_CTL_ALIGNED + 4 * b2n (s.allAligned g p) + 8 * b2n (s.link g p).verified
    + 16 * s.get a F.GRP_LANE_CTL_POL

/-- The training record that logical lane i of a link repeats (R112). -/
def trainingRec (s : State) (g p i : Nat) : List Byte :=
  let l := s.link g p
  let n := l.lanes.getD i 0
  let b := padTo 30 ([0x57, i + 16 * widthCode l.lanes.length + 64 * b2n (decide (n = 16)), s.trainId, g * 8 + p,
    s.topRate g p + 16 * s.linkRate g p, l.phase, l.said, s.laneStatus g p n].map (BitVec.ofNat 8))
  b ++ leBytes 2 (crc16 b)

/-- The records of a link's lanes. -/
def trainingRecs (s : State) (g p : Nat) : List (List Byte) := (upTo (s.link g p).lanes.length).map (s.trainingRec g p)

/-- What a link's lanes repeat has changed: shown while they transmit. -/
def announce (s : State) (g p : Nat) : State :=
  if (s.link g p).idle then s else s.emit (.training g p (s.trainingRecs g p))

/-- A link goes on in a phase, with a target (R112, R113). -/
def sendPhase (s : State) (g p phase target : Nat) : State :=
  (s.setLink g p fun l => { l with phase := phase, said := target }).announce g p

/-! ### Bring-up (R113) -/

/-- Configured logical lanes of a link that may be used: not excluded, not forced off. -/
def usable (s : State) (g p k : Nat) : Bool :=
  let n := fldOf (s.layout (g * 8 + p)) F.GRP_PORT_CFG_FIRST + k
  !bit (s.get (R.GRP_LINK_STAT g p) F.GRP_LINK_STAT_EXCL) k && !s.on (R.GRP_LANE_CTL g n) F.GRP_LANE_CTL_OFF

/-- The physical lane that carries configured lane k of a link: the spare where a substitution is in force (R120). -/
def physLane (s : State) (g p k : Nat) : Nat :=
  let n := fldOf (s.layout (g * 8 + p)) F.GRP_PORT_CFG_FIRST + k
  let st := R.GRP_LANE_STAT g
  if s.get st F.GRP_LANE_STAT_SPARE_STATE = 2 ∧ s.get st F.GRP_LANE_STAT_SPARE_PORT = p ∧ s.get st F.GRP_LANE_STAT_SPARE_LANE = n
  then 16 else n

/-- Whether the owl's state of a domain keeps its links idle (R459, R467). -/
def contained (s : State) (sc i : Nat) : Bool := (s.owl.doms.get (fun _ => {}) (sc * 4096 + i)).st != 0

/-- Whether a port may run as a fabric link now: it is one under a valid sampled layout (R82), its group is powered (R504), neither in
reset nor held by the owl (R76, R459), and the mode runs fabric links and is not about to stop them (R50, R56). -/
def mayLink (s : State) (g p : Nat) : Bool :=
  s.isFabric (g * 8 + p) && (s.mode == 4 || s.mode == 5) && !(s.transiting && (s.boot.target == 3 || s.boot.target == 6))
    && s.pdOn (10 + g) && !bit (s.get R.GLB_GRP_RESET F.GLB_GRP_RESET_GRP) g && !s.contained 3 g

/-- A link without traffic, with the lanes given: what outlives its port reset is its retrains and its pools as last sampled. -/
def cleanLink (l : Link) (ls : List Nat) : Link :=
  { ({} : Link) with lanes := ls, retrainAt := l.retrainAt, pool1 := l.pool1, pool2 := l.pool2 }

/-- Bring-up starts at W1 in phase ALIGN on the lanes R162 and R163 leave, or the link fails when none are left; a link that cannot
bring up is DOWN (R154). -/
def startTraining (s : State) (g p : Nat) : State :=
  if !s.mayLink g p then s.linkSet g p F.GRP_LINK_STAT_STATE 0
  else match chooseLanes (s.portWidth (g * 8 + p)) (s.usable g p) with
  | none => s.linkSet g p F.GRP_LINK_STAT_STATE 6
  | some ks =>
    let ls := ks.map (s.physLane g p)
    let s := (s.nightFail 1).wakeIsland (8 + g)
    let s := s.setLink g p fun l => cleanLink l ls
    let s := ((s.linkSet g p F.GRP_LINK_STAT_STATE 1).linkSet g p F.GRP_LINK_STAT_WIDTH (widthCode ls.length)).linkSet g p
      F.GRP_LINK_STAT_RATE 8
    let s := forAll (upTo ls.length) (fun i s => s.loadLane g (ls.getD i 0) 8 i) s
    s.sendPhase g p 0 8

/-- Entry to INIT (R138, R139, R147, R150, R154). -/
def enterInit (s : State) (g p : Nat) : State :=
  let c := R.GRP_LINK_CRD g p
  let rq := clampTo 256 16384 (s.get c F.GRP_LINK_CRD_REQ_UNITS)
  let rs := clampTo 256 16384 (s.get c F.GRP_LINK_CRD_RSP_UNITS)
  let s := s.setLink g p fun l => { l with
    tx0 := {}, tx1 := {}, tx2 := {}, rx0 := { granted := 64 }, rx1 := { granted := rq }, rx2 := { granted := rs },
    buf := [], replayQ := [], rpFrom := none, rpCnt := 0, goodRun := 0, crNext := 0, sinceCtl := 49, rspTurn := false
    pool1 := rq, pool2 := rs }
  let s := (s.set (R.GRP_LINK_SEQ g p) F.GRP_LINK_SEQ_TX_NEXT 0).set (R.GRP_LINK_SEQ g p) F.GRP_LINK_SEQ_TX_ACK 4095
  let s := (s.set (R.GRP_LINK_RX g p) F.GRP_LINK_RX_RX_NEXT 0).set (R.GRP_LINK_RX g p) F.GRP_LINK_RX_NAK_PEND 0
  (s.linkSet g p F.GRP_LINK_STAT_STATE 2).showCredits g p

/-- The order of a link's lanes is settled: a record of the partner has come on each, with the index of its place (R113 step 3). -/
def ordered (s : State) (g p : Nat) : Bool :=
  let l := s.link g p
  (upTo l.lanes.length).all fun i => l.laneRecs.contains (i, i)

/-- Both ends have reached the target rate: DONE is sent, and INIT entered once the partner sent it too (R113, R154). -/
def doneCheck (s : State) (g p : Nat) : State :=
  let l := s.link g p
  if s.linkState g p = 1 ∧ l.idle = false ∧ s.allAligned g p = true ∧ s.ordered g p = true then
    match l.peer with
    | none => s
    | some r =>
      let rate := s.linkRate g p
      let s :=
        if l.phase ≠ 5 ∧ rate = l.target ∧ (rate = 8 ∨ (l.verified = true ∧ bit r.status 3 = true)) then s.sendPhase g p 5 rate else s
      if (s.link g p).phase = 5 ∧ r.phase = 5 then s.enterInit g p else s
  else s

/-- A failed rate step (R115): back to the previous rate, which becomes the target, and DONE. -/
def stepFail (s : State) (g p : Nat) : State :=
  let l := s.link g p
  let s := s.setLink g p fun l => { l with target := l.prevRate, verified := false, verifyBad := false, idle := false }
  let s := s.linkSet g p F.GRP_LINK_STAT_RATE l.prevRate
  let s := forAll (upTo l.lanes.length) (fun i s => s.loadLane g (l.lanes.getD i 0) l.prevRate i) s
  s.sendPhase g p 5 l.prevRate

/-! ### Retrain (R154 to R158, R162) -/

/-- The port reset of a fabric link (R14, R75, R156): its registers' port fields, the port fields of its configured lanes (a lane that is
powered down stays so), its buffers, its receive pools with the packets in them, and its egress queues. -/
def linkPortReset (s : State) (g p : Nat) : State :=
  let P := g * 8 + p
  let lo := R.GRP_LINK_CTL g p
  let ns := s.portLanes P
  let off := ns.filter fun n => s.get (R.GRP_LANE_CTL g n) F.GRP_LANE_CTL_EQ_SRC == 3
  let s := s.resetFields (fun a => (decide (lo ≤ a) && decide (a < lo + 0x40))
    || ns.any fun n => decide (a = R.GRP_LANE_CTL g n) || decide (a = R.GRP_LANE_ERR g n)) portKinds
  let s := forAll off (fun n s => s.set (R.GRP_LANE_CTL g n) F.GRP_LANE_CTL_EQ_SRC 3) s
  let s := ((s.abortIncomplete P).dropUndecided (· == P) P).flushPort P
  s.setLink g p fun l => cleanLink l l.lanes

/-- A swap in progress is abandoned (R161): LSgg is powered down, SPARE_STATE returns to OFF. -/
def abandonSwap (s : State) (g p : Nat) : State :=
  match (s.link g p).swap with
  | none => s
  | some _ =>
    let s := if s.get (R.GRP_LANE_STAT g) F.GRP_LANE_STAT_SPARE_STATE = 1 then
        (s.laneDown g 16).set (R.GRP_LANE_STAT g) F.GRP_LANE_STAT_SPARE_STATE 0 else s
    s.setLink g p fun l => { l with swap := none }

/-- Lanes join EXCL (R162). -/
def exclude (s : State) (g p : Nat) (ks : List Nat) : State :=
  s.linkSet g p F.GRP_LINK_STAT_EXCL (ks.foldl (fun m k => m ||| 2 ^ k) (s.get (R.GRP_LINK_STAT g p) F.GRP_LINK_STAT_EXCL))

/-- The configured logical lane that a physical lane of a link stands for. -/
def cfgIdx (s : State) (g p n : Nat) : Nat :=
  (if n = 16 then s.get (R.GRP_LANE_STAT g) F.GRP_LANE_STAT_SPARE_LANE else n) - fldOf (s.layout (g * 8 + p)) F.GRP_PORT_CFG_FIRST

/-- A retrain with its cause (R155 to R158). A swap in progress is abandoned, the partner told so while the link can carry it (R161,
R619; DESIGN CHOICE: one that retrains for cause 2 cannot, notes/assumptions/115.md); the lanes that were to leave after it leave now
(R121). A link broken or in protocol error or without alignment is reported; more
than RT_LIM retrains within 1 s lead to FAILED. -/
def retrain (s : State) (g p cause : Nat) (excl : List Nat) : State :=
  let st := s.linkState g p
  let P := g * 8 + p
  if st = 1 ∨ st = 2 ∨ st = 3 ∨ st = 4 then
    let s := match (s.link g p).swap with
      | some w => if [2, 4, 6, 7].contains cause then s else s.sendLast g p 4 [w.lane, 3]
      | none => s
    let s := (s.exclude g p (excl ++ (s.link g p).exclAfterSwap)).abandonSwap g p
    let s := if cause = 1 ∨ cause = 2 then s.raise P 0x01 none none cause
             else if cause = 4 ∨ cause = 5 then s.raise P 0x02 none none cause else s
    let times := ((s.link g p).retrainAt.filter (fun t => decide (s.now < t + 1000000000))) ++ [s.now]
    let s := s.linkPortReset g p
    let s := (s.setLink g p fun l => { l with retrainAt := times }).linkSet g p F.GRP_LINK_STAT_CAUSE cause
    let s := if st = 3 ∨ st = 4 then s.fabEvent 0x02 (leBytes 1 P ++ leBytes 1 cause) else s
    if max 1 (s.get (R.GRP_LINK_CTL g p) F.GRP_LINK_CTL_RT_LIM) < times.length then
      (s.linkSet g p F.GRP_LINK_STAT_STATE 6).raise P 0x03 none none (s.get (R.GRP_LINK_RPL g p) F.GRP_LINK_RPL_RETRAINS)
    else (s.linkSet g p F.GRP_LINK_STAT_STATE 5).inc (R.GRP_LINK_RPL g p) F.GRP_LINK_RPL_RETRAINS 1
  else s

/-! ### Errors of lanes, and the spare (R116 to R122, R159 to R161) -/

/-- The spare of a group can take a lane of a link: OFF, with an entry for the link's rate (R118, R122). -/
def spareFit (s : State) (g p : Nat) : Bool :=
  decide (s.get (R.GRP_LANE_STAT g) F.GRP_LANE_STAT_SPARE_STATE = 0) && (s.eqEntry g 16 (s.linkRate g p)).isSome

/-- An end enters SWAP for a logical lane and prepares LSgg (R119 step 1, R159). -/
def prepareSwap (s : State) (g p lane : Nat) : State :=
  let n := (s.link g p).lanes.getD lane 0
  let st := R.GRP_LANE_STAT g
  let s := s.setLink g p fun l => { l with swap := some { lane := lane } }
  let s := (s.linkSet g p F.GRP_LINK_STAT_STATE 4).loadLane g 16 (s.linkRate g p) lane
  ((s.set st F.GRP_LANE_STAT_SPARE_STATE 1).set st F.GRP_LANE_STAT_SPARE_LANE n).set st F.GRP_LANE_STAT_SPARE_PORT p

/-- An end requests a swap of physical lane n of a link that is UP. -/
def requestSwap (s : State) (g p n : Nat) : State :=
  let lane := (s.link g p).lanes.idxOf n
  (s.sendLcm g p 1 [lane]).prepareSwap g p lane

/-- Lanes of a link that crossed their thresholds and wait for the answer, the lowest lane index first (R118, R121). -/
def dueLanes (s : State) (g p : Nat) : List Nat :=
  (upTo 17).filter fun n => (s.link g p).lanes.contains n && (s.lane g n).due

def settled (s : State) (g : Nat) (ns : List Nat) : State := forAll ns (fun n s => s.setLane g n fun L => { L with due := false }) s

/-- Crossings lead to width fallback once the swap in progress has ended (R121); that of the lane being swapped is answered by the swap. -/
def putOff (s : State) (g p : Nat) : State :=
  let ns := s.dueLanes g p
  let out := ns.filter fun n => !((s.link g p).swap.map fun w => (s.link g p).lanes.getD w.lane 0).any (· == n)
  (s.settled g ns).setLink g p fun l => { l with exclAfterSwap := l.exclAfterSwap ++ out.map (s.cfgIdx g p) }

/-- The answer to crossed thresholds (R118, R121, and the collision table of 03_lanes.md): in UP the first lane takes the spare and the
others fall back after the swap; without a spare the link retrains without those lanes, and so it does without the spare that crosses
its own; an unranked link retrains at its configured width (R343); in INIT a swap waits for UP; during a rate step, TRAINING, everything
waits. DESIGN CHOICE: while AUTO_SWAP is 0 a lane that
the spare fits is left alone (notes/assumptions/102.md). -/
def tendDue (s : State) (g p : Nat) : State :=
  let st := s.linkState g p
  let ns := s.dueLanes g p
  let fall := fun (s : State) => (s.settled g ns).retrain g p 8 (ns.map (s.cfgIdx g p))
  if st = 4 then s.putOff g p
  else if ns.isEmpty ∨ (st ≠ 2 ∧ st ≠ 3) then s
  else if (s.link g p).unranked then (s.settled g ns).retrain g p 8 []
  else if ns.contains 16 then
    fall (((s.raise (g * 8 + p) 0x04 none none 16).laneDown g 16).set (R.GRP_LANE_STAT g) F.GRP_LANE_STAT_SPARE_STATE 3)
  else if !s.spareFit g p then fall s
  else if st = 2 then s
  else if s.on (R.GRP_ERR_CFG g) F.GRP_ERR_CFG_AUTO_SWAP then
    match ns with
    | n :: _ => ((s.settled g [n]).requestSwap g p n).putOff g p
    | [] => s
  else s.settled g ns

/-- A lane crosses its threshold (R117). -/
def crossed (s : State) (g n : Nat) : State :=
  (s.set (R.GRP_LANE_ERR g n) F.GRP_LANE_ERR_SWAP_REQ 1).setLane g n fun L => { L with crossed := true, due := true }

/-- Errors found on a fabric lane: counts, the window, and the threshold (R116, R117). DESIGN CHOICE: PSE_TH_EXP below 8 acts as 8, and
HARD_TH 0 as 1 (notes/assumptions/19.md). -/
def laneErrors (s : State) (g n lcv pse attr : Nat) : State :=
  let s := ((s.inc (R.GRP_LANE_ERR g n) F.GRP_LANE_ERR_LCV lcv).inc (R.GRP_LANE_ERR g n) F.GRP_LANE_ERR_ATTR attr).inc
    (R.GRP_LANE_PSE g n) F.GRP_LANE_PSE_PSE pse
  let s := s.setLane g n fun L => { L with winHard := L.winHard + lcv + attr, winPse := L.winPse + pse }
  let L := s.lane g n
  let e := R.GRP_ERR_CFG g
  let hard := decide (max 1 (s.get e F.GRP_ERR_CFG_HARD_TH) ≤ L.winHard)
  let soft := s.on e F.GRP_ERR_CFG_PSE_EN && decide (2 ^ clampTo 8 31 (s.get e F.GRP_ERR_CFG_PSE_TH_EXP) ≤ L.winPse)
  if (hard || soft) && !L.crossed then s.crossed g n else s

/-- A violation during VERIFY fails the step (R115). -/
def verifyHit (s : State) (g p : Nat) : State :=
  s.setLink g p fun l => { l with verifyBad := l.verifyBad || decide (l.phase = 4) }

/-- Errors of a fabric lane, and what they lead to in its link. -/
def linkErrors (s : State) (g p n lcv pse : Nat) : State :=
  let s := s.laneErrors g n lcv pse 0
  (if lcv = 0 then s else s.verifyHit g p).tendDue g p

/-- SWAP_GO is sent when R159 lets this end send it. -/
def maybeGo (s : State) (g p : Nat) : State :=
  match (s.link g p).swap with
  | none => s
  | some w =>
    let leader := s.on (R.GRP_LINK_STAT g p) F.GRP_LINK_STAT_LEADER
    if !w.sentGo && ((leader && w.sentReady && w.gotReady) || (!leader && w.gotGo)) then
      (s.sendLcm g p 3 [w.lane]).setLink g p fun l => { l with swap := some { w with sentGo := true } }
    else s

/-- SWAP_ABORT is sent and the link retrains at the next lower width (R161). -/
def abortSwap (s : State) (g p lane reason : Nat) : State :=
  let k := s.cfgIdx g p ((s.link g p).lanes.getD lane 0)
  (s.sendLast g p 4 [lane, reason]).retrain g p 6 [k]

/-- SWAP_REQ received (R159 and the collision table of 04_woell_link.md). DESIGN CHOICE: in INIT, or for a lane that the link does not
have, it has no effect (notes/assumptions/115.md). -/
def onSwapReq (s : State) (g p lane : Nat) : State :=
  let st := s.linkState g p
  let l := s.link g p
  if l.lanes.length ≤ lane then s
  else if st = 3 then (if s.spareFit g p then s.prepareSwap g p lane else s.abortSwap g p lane 2)
  else if st = 4 then
    match l.swap with
    | none => s
    | some w =>
      if w.lane = lane then s
      else if s.on (R.GRP_LINK_STAT g p) F.GRP_LINK_STAT_LEADER then
        s.setLink g p fun l => { l with exclAfterSwap := l.exclAfterSwap ++ [s.cfgIdx g p (l.lanes.getD lane 0)] }
      else
        let own := s.cfgIdx g p (l.lanes.getD w.lane 0)
        (s.setLink g p fun l => { l with exclAfterSwap := l.exclAfterSwap ++ [own] }).prepareSwap g p lane
  else s

/-- SWAP_READY received. -/
def onSwapReady (s : State) (g p lane : Nat) : State :=
  match (s.link g p).swap with
  | none => s
  | some w => if w.lane = lane then (s.setLink g p fun l => { l with swap := some { w with gotReady := true } }).maybeGo g p else s

/-- SWAP_GO received. -/
def onSwapGo (s : State) (g p lane : Nat) : State :=
  match (s.link g p).swap with
  | none => s
  | some w => if w.lane = lane then (s.setLink g p fun l => { l with swap := some { w with gotGo := true } }).maybeGo g p else s

/-- SWAP_ABORT received (R161); reason 3 announces a retrain of the partner's own, and a lane the link does not have is excluded
from nothing. -/
def onSwapAbort (s : State) (g p lane reason : Nat) : State :=
  if s.linkState g p = 4 then
    let k := s.cfgIdx g p ((s.link g p).lanes.getD lane 0)
    (s.abandonSwap g p).retrain g p 6 (if reason = 3 ∨ (s.link g p).lanes.length ≤ lane then [] else [k])
  else s

/-- Every lane of the configured width may be used again (R163). -/
def clearExcl (s : State) (g p : Nat) : State :=
  (s.linkSet g p F.GRP_LINK_STAT_EXCL 0).setLink g p fun l => { l with exclAfterSwap := [] }

/-- RETRAIN_REQ received (R155, R165). -/
def onRetrainReq (s : State) (g p op : Nat) : State :=
  let st := s.linkState g p
  if st = 2 ∨ st = 3 ∨ st = 4 then (if op = 2 then s.clearExcl g p else s).retrain g p 3 [] else s

/-- The swap block has ended (R119 step 4, R159 step 5): LSgg carries the lane, the link is UP again, and lanes that crossed
their thresholds meanwhile lead to width fallback. -/
def swapDone (s : State) (g p : Nat) : State :=
  match (s.link g p).swap with
  | none => s
  | some w =>
    if s.linkState g p = 4 ∧ w.sentGo = true ∧ w.gotGo = true then
      let n := (s.link g p).lanes.getD w.lane 0
      let st := R.GRP_LANE_STAT g
      let ex := (s.link g p).exclAfterSwap
      let s := (s.laneDown g n).setLink g p fun l => { l with swap := none, lanes := l.lanes.set w.lane 16, exclAfterSwap := [] }
      let s := ((s.set st F.GRP_LANE_STAT_SPARE_STATE 2).inc st F.GRP_LANE_STAT_SWAPS 1).linkSet g p F.GRP_LINK_STAT_STATE 3
      let s := s.fabEvent 0x04 (leBytes 1 g ++ leBytes 1 n)
      if ex.isEmpty then s.tendDue g p else s.retrain g p 8 ex
    else s

/-- A worker's events when a link comes UP (R364): LINK_UP, LINK_WIDTH when it is narrower than configured, NEIGHBOUR when
the partner holds no id or one that no PATHS entry names (notes/assumptions/25.md). -/
def upEvents (s : State) (g p : Nat) : State :=
  let P := g * 8 + p
  let st := R.GRP_LINK_STAT g p
  let w := s.get st F.GRP_LINK_STAT_WIDTH
  let id := s.get (R.GRP_LINK_PEER g p) F.GRP_LINK_PEER_PEER_ID
  let s := s.fabEvent 0x01 (leBytes 1 P ++ leBytes 1 id ++ leBytes 1 (s.get (R.GRP_LINK_PEER g p) F.GRP_LINK_PEER_PEER_PORT)
    ++ leBytes 1 w ++ leBytes 1 (s.linkRate g p))
  let s := if 4 * 2 ^ w < s.portWidth P then s.fabEvent 0x03 (leBytes 1 P ++ leBytes 1 w ++ leBytes 2 (s.get st F.GRP_LINK_STAT_EXCL)) else s
  if id = 255 || !s.hasPath id then s.fabEvent 0x09 (leBytes 1 P) else s

/-- A link that comes UP tends to the lanes that crossed their thresholds during bring-up (collision table of 03_lanes.md). -/
def enterUp (s : State) (g p : Nat) : State :=
  let s := s.setSett fun x => { x with shut := x.shut.filter (· != g * 8 + p) }
  ((s.linkSet g p F.GRP_LINK_STAT_STATE 3).upEvents g p).tendDue g p

end State

end Sys2Proof.Machine
end

