-- ==== Sys2Proof/Machine/Den.lean ====
section
/-! DEFINITION. Dens and foxes: dispatch (R239 to R245), the issue of one instruction and its checks (R259, R265, R281,
R316), exceptions (R273 to R275), shared resources (R285), tables (R253 to R258), meters and counters (R304 to R311), END
and spoor records (R243, R315, R561 to R563). From 07_forwarding_model.md, 08_kolzen_isa.md and 19_telemetry.md. -/

namespace Sys2Proof.Machine

/-- The key of a thread in its den's tables. -/
def thrKey (t : Thr) : Nat := t.fox * 4 + t.thread

/-- The rate and burst encoding M × 2^E (DENdd_MTR_RATE, 08_kolzen_isa.md). -/
def mantExp (v : Nat) : Nat := v % 4096 * 2 ^ (v / 4096 % 16)

/-- One meter operation (R305): colour 0 green, 1 yellow, 2 red, and the meter after it. Tokens are in 1/8,000 B. -/
def meterStep (k : Meter) (now b : Nat) : Nat × Meter :=
  if k.unl then (0, k)
  else
    let dt := now - k.last
    let tc := min (mantExp k.cbs * 8000) (k.tc + dt * mantExp k.cir)
    let tp := min (mantExp k.pbs * 8000) (k.tp + dt * mantExp k.pir)
    if tp < b * 8000 then (2, { k with last := now, tc := tc, tp := tp })
    else if tc < b * 8000 then (1, { k with last := now, tc := tc, tp := tp - b * 8000 })
    else (0, { k with last := now, tc := tc - b * 8000, tp := tp - b * 8000 })

/-- Capacity of a shared resource per fox cycle (R285), by number: 0 table, 1 ternary, 2 meter, 3 counter. -/
def resCap (r : Nat) : Nat := [8, 2, 4, 8].getD r 0
def resNum : Res → Nat | .table => 0 | .ternary => 1 | .meter => 2 | .counter => 3

/-- The interval of an opcode in fox cycles (R284, R287): of Bcc when it is not taken, of LKR without its probes. -/
def kInterval (op : Nat) : Nat :=
  match op with
  | 0x0D => 2 | 0x20 => 8 | 0x21 => 10 | 0x22 => 4 | 0x23 => 12 | 0x28 => 10 | _ => 1

/-- A request's place in arrival order (R285): by cycle, and within a cycle by fox and thread. -/
def waitIn (x : Nat × Nat) : List (Nat × Nat) → List (Nat × Nat)
  | [] => [x]
  | y :: l => if x.1 < y.1 ∨ (x.1 = y.1 ∧ x.2 < y.2) then x :: y :: l else y :: waitIn x l

def dMeter : Nat → Meter := fun _ => {}
def dRow : Nat → TernRow := fun _ => {}

namespace Den

/-- Bytes of table memory (R253). -/
def tblBytes (D : Den) (off len : Nat) : List Byte := bytesAt zeroByte D.tbl off len

/-- The first damaged 8 B word that an access to `[off, off + len)` reads (R259). -/
def tblBad (D : Den) (off len : Nat) : Option Nat := D.badTab.find? (fun w => decide (w < off + len ∧ off < w + 8))

/-- How many words with a single-bit error an access reads. -/
def tblSgl (D : Den) (off len : Nat) : Nat := (D.sglTab.filter fun w => decide (w < off + len ∧ off < w + 8)).length

/-- Descriptor Tn. -/
def tdesc (D : Den) (n : Nat) : TDesc := tdescOf (D.tblBytes (16 * n) 16)

def job (D : Den) (k : Nat) : Option Job := D.jobs.get dNone k

/-- The jobs of a fox that can issue: thread, last issue, and the cycle from which it is ready (R283, R284). -/
def issuers (D : Den) (f : Nat) : List (Nat × Nat × Nat) :=
  (upTo 4).filterMap fun t => match D.job (f * 4 + t) with
    | some j => if j.wait.isSome then none else some (t, j.last, j.ready)
    | none => none

/-- The cycle of a fox's next issue: its present one, or the first in which a thread is ready. -/
def nextCycle (D : Den) (f : Nat) : Nat :=
  match D.issuers f with
  | [] => D.cyc.get dZero f
  | x :: l => max (D.cyc.get dZero f) (l.foldl (fun a y => min a y.2.2) x.2.2)

/-- The thread that a fox issues from (R283): of those ready then, the one whose last issue is the oldest, the lowest among
equals. -/
def foxPick (D : Den) (f : Nat) : Option Nat :=
  match (D.issuers f).filter fun x => decide (x.2.2 ≤ D.nextCycle f) with
  | [] => none
  | x :: l => some (l.foldl (fun a y => if y.2.1 < a.2.1 then y else a) x).1

/-- The key of the thread that a fox issues next, when it has one. -/
def nextKey (D : Den) (f : Nat) : Option Nat := (D.foxPick f).map (4 * f + ·)

/-- The den has come to a request, or an issue, of thread `k` in cycle `c` (R285): no fox issues before it, in an earlier cycle or in the
same one with a lower number. -/
def inTurn (D : Den) (c k : Nat) : Bool :=
  (upTo 32).all fun f => match D.nextKey f with
    | some x => decide (c < D.nextCycle f) || (c == D.nextCycle f && decide (k ≤ x))
    | none => true

/-- The cycle after the last in which a fox of the den has issued. -/
def front (D : Den) : Nat := D.cyc.foldl (fun a e => max a e.2) 0

/-- Whether resource `r` has room for `n` accesses in the cycle of a request made in cycle `c`, which none made earlier waits
for (R285). -/
def slotFree (D : Den) (r c n : Nat) : Bool :=
  let u := D.used.get dPair r
  (decide (u.1 < c) || decide (u.2 + n ≤ resCap r)) && (match D.waitq.get dNil r with | [] => true | x :: _ => decide (c < x.1))

/-- The cycle in which a request of cycle `c` is served when its turn comes, and the use of the resource then. -/
def slotTake (D : Den) (r c n : Nat) : Nat × Nat :=
  let u := D.used.get dPair r
  if u.1 < c then (c, n) else if u.2 + n ≤ resCap r then (u.1, u.2 + n) else (u.1 + 1, n)
def setJob (D : Den) (k : Nat) (j : Option Job) : Den := { D with jobs := D.jobs.put dNone k j }

end Den

namespace State

def job (s : State) (t : Thr) : Option Job := (s.den t.den).job (thrKey t)
def setJob (s : State) (t : Thr) (j : Option Job) : State := s.setDen t.den (·.setJob (thrKey t) j)

/-- PROG_STAT follows the den's jobs (R267): jobs running, jobs under another set than SEL, DRAINED. -/
def refreshProg (s : State) (d : Nat) : State :=
  let js := (s.den d).jobs.filterMap (·.2)
  let sel := s.get (R.DEN_PROG_CTL d) F.DEN_PROG_CTL_SEL
  let old := (js.filter (fun j => j.set != sel)).length
  let a := R.DEN_PROG_STAT d
  ((s.set a F.DEN_PROG_STAT_RUNNING js.length).set a F.DEN_PROG_STAT_OLD_JOBS old).set a F.DEN_PROG_STAT_DRAINED
    (b2n (old == 0))

/-! ### Spoor records (R562, R563) -/

/-- The 64 bytes of a spoor record. When a finished decision is released lies outside the den's cycles: bytes 30 and 31 are a free
value (notes/assumptions/2.md). -/
def spoorRec (s : State) (t : Thr) (k : Pkt) (j : Job) (d : Desc) (last exc seq : Nat) (lost : Bool) : List Byte :=
  let sat := fun (n : Nat) => leBytes 2 (min 65535 n)
  leBytes 1 t.den ++ leBytes 1 (t.fox + 32 * t.thread) ++ leBytes 1 k.cls ++ leBytes 1 (if k.port < 128 then k.port else 128)
    ++ leBytes 2 j.entry ++ leBytes 2 last ++ leBytes 1 exc
    ++ leBytes 1 (d.action + 4 * d.mcast + 8 * d.mark + 16 * d.sample + 32 * d.tc)
    ++ leBytes 1 d.dest ++ leBytes 1 d.reason ++ leBytes 4 j.tag ++ leBytes 4 j.path
    ++ sat j.bcc ++ sat j.issued ++ leBytes 4 (min 4294967295 (j.start - k.arr)) ++ sat (j.act - j.begun)
    ++ (if exc = 0 then leBytes 2 (Config.freeNat s.free % 65536) else leBytes 2 0)
    ++ (upTo 4).flatMap (fun r => sat (j.waited.getD r 0)) ++ sat j.passed
    ++ leBytes 2 k.bytes.length ++ leBytes 2 k.slice ++ leBytes 2 0 ++ leBytes 8 j.start ++ leBytes 2 seq
    ++ leBytes 1 (b2n lost) ++ leBytes 5 0

/-- A chosen job's record enters the queue of 256, or is dropped and counted; its SEQ is not used again. -/
def spoor (s : State) (t : Thr) (k : Pkt) (j : Job) (d : Desc) (last exc : Nat) : State :=
  if k.spoor then
    let D := s.den t.den
    let rec' := s.spoorRec t k j d last exc D.spoorSeq D.spoorLost
    let s := { s with free := s.free + 1 }
    if s.tel.spoorQ.length < 256 then
      let s := s.setDen t.den fun D => { D with spoorSeq := (D.spoorSeq + 1) % 65536, spoorLost := false }
      { s with tel := { s.tel with spoorQ := s.tel.spoorQ ++ [rec'] } }
    else
      let s := s.setDen t.den fun D => { D with spoorSeq := (D.spoorSeq + 1) % 65536, spoorLost := true }
      s.inc R.TEL_SPOOR_CNT F.TEL_SPOOR_CNT_LOST 1
  else s

/-! ### The end of a job -/

/-- The index a meter or counter instruction names with V = 1: gA + IMM modulo 2^64 (R304, R309). -/
def idxV (j : Job) (w : DWord) : Nat := (j.reg (kA w) + immZ w).toNat

/-- The counter and the byte amount of CNT (R309). -/
def cntOperands (j : Job) (w : DWord) : Nat × Nat :=
  if kV w then (idxV j w, (j.reg (kB w)).toNat) else (kImm w % 65536, kImm w / 65536)

/-- A job's thread is freed and its descriptor enters the release buffer, unless its packet is gone (R242, R243). A CNT of it that
has issued and waits for the posting queue is posted all the same (R310). -/
def finishJob (s : State) (t : Thr) (j : Job) (d : Desc) (view : List Byte) (exc last : Nat) : State :=
  let s := match s.pkt j.pid with | some k => s.spoor t k j d last exc | none => s
  let s := s.setDen t.den fun D => { (D.setJob (thrKey t) none) with
    rel := if (s.pkt j.pid).isSome then D.rel ++ [⟨j.pid, d, view, exc⟩] else D.rel
    post := match j.wait with | some x => if kOp x.word = 0x29 then D.post ++ [cntOperands j x.word] else D.post | none => D.post
    waitq := D.waitq.mapAll dNil (fun _ l => l.filter (·.2 != (thrKey t))) }
  s.refreshProg t.den

/-- An exception ends the job at once (R274, R275, R316): its descriptor is replaced by DROP or TRAP with REASON 0x80 +
code, and its view discarded. `loc` is the DEN_ECC location of an exception ECC. -/
def except (s : State) (t : Thr) (j : Job) (code : Nat) (loc : Nat) : State :=
  let a := R.DEN_EXC_STAT t.den
  let s := (s.inc (R.DEN_EXC_CNT t.den) F.DEN_EXC_CNT_COUNT 1).count (16 + t.den) 4 code 1
  let s :=
    if s.on a F.DEN_EXC_STAT_VALID then s
    else
      ((((((s.set a F.DEN_EXC_STAT_CODE code).set a F.DEN_EXC_STAT_PC j.pc).set a F.DEN_EXC_STAT_FOX t.fox).set a
        F.DEN_EXC_STAT_THREAD t.thread).set a F.DEN_EXC_STAT_VALID 1).raise (srcDen t.den) 0x18 none none code)
  let s :=
    if code = 8 then (s.raise (srcDen t.den) 0x19 none none loc).inc (R.DEN_ECC_CNT t.den) F.DEN_ECC_CNT_DBL 1 else s
  let tc := match s.pkt j.pid with | some k => k.tc | none => 0
  let act := s.get (R.DEN_EXC_CFG t.den) F.DEN_EXC_CFG_ACT
  let d := ((Desc.init tc).put 0 (if act = 1 then 2 else 1)).put 6 (0x80 + code)
  let view := match s.pkt j.pid with | some k => padTo 128 k.bytes | none => []
  s.finishJob t j d view code j.pc

/-! ### Dispatch (R239, R242, R245) -/

/-- The fox with the most free threads, the lowest number among equals, and its lowest free thread; none when every thread
runs a job. -/
def freeThread (D : Den) : Option (Nat × Nat) :=
  let free := fun f => ((upTo 4).filter (fun t => (D.job (f * 4 + t)).isNone))
  let best := (upTo 32).foldl (fun acc f => if (free acc).length < (free f).length then f else acc) 0
  match free best with
  | t :: _ => some (best, t)
  | [] => none

/-- The spoor countdown of a den (R561): the chosen job is the one that brings it to 0. -/
def spoorPick (s : State) (d : Nat) : Bool × State :=
  if s.on R.TEL_SPOOR_CFG F.TEL_SPOOR_CFG_EN && bit (s.get R.TEL_SPOOR_DENS F.TEL_SPOOR_DENS_DENS) d then
    let n := s.get R.TEL_SPOOR_CFG F.TEL_SPOOR_CFG_NM1 + 1
    let c := (s.den d).spoorCnt
    let c := if c = 0 then n else c
    if c = 1 then (true, s.setDen d fun D => { D with spoorCnt := n })
    else (false, s.setDen d fun D => { D with spoorCnt := c - 1 })
  else (false, s)

/-- A job starts on a free thread for the next header, the priority queue first (R240, R242, R277). -/
def dispatch (s : State) (d : Nat) : State :=
  let D := s.den d
  match freeThread D, D.prio ++ D.norm with
  | some (f, t), pid :: _ =>
    let s := s.setDen d fun D => if D.prio.isEmpty then { D with norm := D.norm.drop 1 } else { D with prio := D.prio.drop 1 }
    let s := refill 64 d (refillP 64 d s)
    let s := s.set (R.DEN_HQ_STAT d) F.DEN_HQ_STAT_DEPTH (s.den d).norm.length
    match s.pkt pid with
    | none => s
    | some k =>
      let (sp, s) := s.spoorPick d
      let k := { k with spoor := sp }
      let s := s.setPkt pid (some k)
      let set := s.get (R.DEN_PROG_CTL d) F.DEN_PROG_CTL_SEL
      let vec := R.DEN_VEC d set k.cls
      let e := s.get vec F.DEN_VEC_ENTRY
      let n := BitVec.ofNat 64
      let j : Job := {
        pid := pid, set := set, pc := e, entry := e, g := List.replicate 16 0,
        m := [n (if k.port < 128 then k.port else 128), n k.cls, n k.bytes.length, n k.slice, n k.tc, n k.m5, n k.arr, n (b2n sp)],
        z := false, n := false, c := false, v := false, view := padTo 128 k.bytes, desc := Desc.init k.tc,
        start := s.now, issued := 0, bcc := 0, path := 0, tag := 0, no := (s.den d).disp, wait := none
        last := (s.den d).front, ready := (s.den d).front + 1, begun := (s.den d).front, act := (s.den d).front }
      let s := s.setDen d fun D => { D with disp := D.disp + 1 }
      let s := (s.inc (R.DEN_JOB_CNT d) F.DEN_JOB_CNT_JOBS 1).count (16 + d) 1 0 1
      if s.on vec F.DEN_VEC_EN then (s.setJob ⟨d, f, t⟩ (some j)).refreshProg d
      else s.except ⟨d, f, t⟩ j 7 0
  | _, _ => s

/-! ### Issue -/

/-- An instruction of a den has issued: JOB_CYC counts them in units of 16 (07_forwarding_model.md). -/
def countIssue (s : State) (d : Nat) : State :=
  let s := s.count (16 + d) 2 0 1
  if (s.den d).cycRem = 15 then
    (s.setDen d fun D => { D with cycRem := 0 }).inc (R.DEN_JOB_CYC d) F.DEN_JOB_CYC_ISSUED 1
  else s.setDen d fun D => { D with cycRem := D.cycRem + 1 }

/-- Whether the next issue is this thread's: of its fox (R283), and of the den, whose foxes run in one clock and whose requests go in
cycle and fox order (R285); a request made in an earlier cycle for a table, row or meter access is served before it. -/
def due (s : State) (t : Thr) : Bool :=
  let D := s.den t.den
  let c := D.nextCycle t.fox
  D.foxPick t.fox == some t.thread && D.inTurn c (thrKey t)
    && (upTo 3).all fun r => match D.waitq.get dNil r with | [] => true | x :: _ => decide (c ≤ x.1)

/-- In a cycle in which a thread of a fox issues, the fox's other ready threads do not (R562). -/
def passOver (t : Thr) (c k : Nat) : Option Job → Option Job
  | some x => if k / 4 = t.fox ∧ k % 4 ≠ t.thread ∧ x.wait.isNone = true ∧ x.ready ≤ c then some { x with passed := x.passed + 1 } else some x
  | none => none

/-- The thread's next instruction is due (R283, R291): it is fetched and checked — region (R265), double-bit error (R259), encoding
(R281) — and, when its opcode is the one named, performed by `f`. A thread without a job, waiting for a resource, or behind another
thread of its fox issues nothing; nor does it under another opcode's command. -/
def issue (s : State) (t : Thr) (op : Nat) (f : DWord → Job → State → State) : State :=
  match s.job t with
  | none => s
  | some j =>
    if j.wait.isSome || !s.due t then s
    else
      let c := (s.den t.den).nextCycle t.fox
      let j := { j with act := c }
      let lo := s.get (R.DEN_REGION t.den j.set) F.DEN_REGION_LO
      let hi := s.get (R.DEN_REGION t.den j.set) F.DEN_REGION_HI
      if j.pc < lo ∨ hi < j.pc ∨ 16383 < j.pc then s.except t j 3 0
      else if (s.den t.den).badProg.contains j.pc then s.except t j 8 j.pc
      else
        let w := (s.den t.den).prog.get dInstr j.pc
        let fetched := fun (s : State) =>
          if (s.den t.den).sglProg.contains j.pc then s.inc (R.DEN_ECC_CNT t.den) F.DEN_ECC_CNT_SGL 1 else s
        if illegal w then (fetched s).except t j 2 0
        else if kOp w = op then
          f w { j with issued := j.issued + 1, last := c, ready := c + kInterval op }
            (((fetched s).setDen t.den fun D => { D with
              cyc := D.cyc.put dZero t.fox (c + 1), jobs := D.jobs.mapAll dNone (passOver t c) }).countIssue t.den)
        else s

/-- The thread goes on at the next instruction with its new registers. -/
def goOn (s : State) (t : Thr) (j : Job) : State := s.setJob t (some { j with pc := j.pc + 1, wait := none })

/-- Instructions that only change registers and flags. -/
def issueReg (s : State) (t : Thr) (op : Nat) (f : DWord → Job → Job) : State :=
  s.issue t op (fun w j s => s.goOn t (f w j))

/-! ### Shared resources (R285) -/

/-- The thread waits for a resource with its instruction, from a cycle on. -/
def waitFor (s : State) (t : Thr) (r c : Nat) (x : Wait) (j : Job) : State :=
  (s.setDen t.den fun D => { D with waitq := D.waitq.upd dNil r (waitIn (c, thrKey t)) }).setJob t (some { j with wait := some x })

/-- Take `n` slots in the cycle of issue, or wait in arrival order. -/
def request (s : State) (t : Thr) (r n : Nat) (w : DWord) (td : TDesc) (j : Job) (go : Job → State → State) : State :=
  if (s.den t.den).slotFree r j.last n then
    go j (s.setDen t.den fun D => { D with used := D.used.put dPair r (D.slotTake r j.last n) })
  else s.waitFor t r j.last ⟨w, td, none⟩ j

/-! ### Lookups (R253 to R257, R297 to R301) -/

/-- The result of a lookup reaches D, and D + 1 for two words; a miss writes 0 to each (R298). -/
def lookupEnd (s : State) (t : Thr) (j : Job) (dreg : Nat) (two : Bool) (res : Option (List Byte)) : State :=
  let v := fun off => match res with | some b => BitVec.ofNat 64 (fieldAt b off 8) | none => 0
  let j := j.setReg dreg (v 0)
  let j := if two then j.setReg (dreg + 1) (v 8) else j
  s.goOn t (j.setFlags (lookupFlags res.isNone))

/-- Single-bit errors in what is read are corrected and counted (R259). -/
def readSgl (s : State) (d off len : Nat) : State :=
  if (s.den d).tblSgl off len = 0 then s else s.inc (R.DEN_ECC_CNT d) F.DEN_ECC_CNT_SGL ((s.den d).tblSgl off len)

/-- The DEN_ECC location of a table word (R275). -/
def eccTab (off : Nat) : Nat := 0x80000000 + off

/-- A direct lookup (R255, R299). -/
def lkd (s : State) (t : Thr) (w : DWord) (d : TDesc) (j : Job) : State :=
  let D := s.den t.den
  let key := (j.reg (kA w)).toNat
  let two := decide (16 ≤ d.esize)
  if key < d.count then
    let off := d.base + key * d.esize
    let len := min 16 d.esize
    match D.tblBad off len with
    | some o => s.except t j 8 (eccTab o)
    | none =>
      let b := D.tblBytes off len
      (s.readSgl t.den off len).lookupEnd t j (kD w) two (if bit (b.getD 0 0).toNat 0 then some b else none)
  else s.lookupEnd t j (kD w) two none

/-- The hash buckets of a key (R256): CRC-32C with initial value SEED, and with its complement, modulo 2^COUNT. -/
def buckets (d : TDesc) (key : List Byte) : Nat × Nat :=
  let h := fun i => (crc32cFrom i key ^^^ 0xFFFFFFFF) % 2 ^ min 32 d.count
  (h d.seed, h (d.seed ^^^ 0xFFFFFFFF))

/-- A hash lookup (R255, R256, R297): ways 0 to 3 of b1, then of b2; both buckets are read in every case (R300). -/
def lkh (s : State) (t : Thr) (w : DWord) (d : TDesc) (j : Job) : State :=
  let D := s.den t.den
  let key := (leBytes 8 (j.reg (kA w)).toNat ++ leBytes 8 (j.reg (kA w + 1)).toNat).take d.keylen
  let (b1, b2) := buckets d key
  let offs := [b1, b2].flatMap (fun b => (upTo 4).map (fun i => d.base + (b * 4 + i) * 32))
  match offs.findSome? (fun o => D.tblBad o 32) with
  | some o => s.except t j 8 (eccTab o)
  | none =>
    let hit := offs.find? (fun o =>
      let e := D.tblBytes o 32
      bit (e.getD 0 0).toNat 0 && decide ((e.drop 8).take d.keylen = key))
    let s := forAll offs (fun o s => s.readSgl t.den o 32) s
    s.lookupEnd t j (kD w) false (hit.map (fun o => D.tblBytes (o + 24) 8))

/-- The end of a range search: the entry is the one that its probe read (R256, R262). -/
def lkrEnd (s : State) (t : Thr) (w : DWord) (j : Job) (st : LkrSt) : State :=
  let key := (j.reg (kA w)).toNat
  match st.found with
  | none => s.lookupEnd t j (kD w) false none
  | some e =>
    s.lookupEnd t j (kD w) false
      (if bit (e.getD 0 0).toNat 0 && decide (key ≤ fieldAt e 16 8) then some (e.drop 24) else none)

/-- One probe of a range search, served in cycle `c` (R256, R300); the search goes on with a request of its own three cycles later
(R285), or ends, with an interval of 4 and 3 for each probe. -/
def lkrProbe (s : State) (t : Thr) (w : DWord) (j : Job) (c : Nat) (st : LkrSt) : State :=
  let D := s.den t.den
  let mid := (st.lo + st.hi.toNat) / 2
  let off := st.base + mid * 32
  match D.tblBad off 32 with
  | some o => s.except t j 8 (eccTab o)
  | none =>
    let s := s.readSgl t.den off 32
    let st :=
      if fieldAt (D.tblBytes off 32) 8 8 ≤ (j.reg (kA w)).toNat then { st with found := some (D.tblBytes off 32), lo := mid + 1 }
      else { st with hi := (mid : Int) - 1 }
    if (st.lo : Int) ≤ st.hi then s.waitFor t 0 (c + 3) ⟨w, {}, some st⟩ j
    else s.lkrEnd t w { j with ready := c + 3 + kInterval 0x22 } st

/-- A range lookup starts: its descriptor is read now (R262); with COUNT 0 it misses without a probe (R300). -/
def lkr (s : State) (t : Thr) (w : DWord) (d : TDesc) (j : Job) : State :=
  let st : LkrSt := ⟨d.base, 0, (d.count : Int) - 1, none⟩
  if d.count = 0 then s.lkrEnd t w j st
  else if (s.den t.den).slotFree 0 j.last 1 then
    (s.setDen t.den fun D => { D with used := D.used.put dPair 0 (D.slotTake 0 j.last 1) }).lkrProbe t w j j.last st
  else s.waitFor t 0 j.last ⟨w, {}, some st⟩ j

/-- A ternary lookup (R257): the lowest entry with VALID set whose row matches the zero-padded key. -/
def lkt (s : State) (t : Thr) (w : DWord) (d : TDesc) (j : Job) : State :=
  let D := s.den t.den
  let a := kA w
  let kb := (leBytes 8 (j.reg a).toNat ++ leBytes 8 (j.reg (a + 1)).toNat ++ leBytes 4 (j.reg (a + 2)).toNat).take d.keylen
  let key := leNat kb
  let hit := (upTo d.count).find? (fun i =>
    let r := D.rows.get dRow (d.seed % 4096 + i)
    bit (D.tbl.get zeroByte (d.base + i * 64)).toNat 0 && decide ((key ^^^ r.value) &&& r.mask = 0))
  match hit with
  | none => s.lookupEnd t j (kD w) true none
  | some i =>
    let off := d.base + i * 64
    match D.tblBad off 64 with
    | some o => s.except t j 8 (eccTab o)
    | none => (s.readSgl t.den off 64).lookupEnd t j (kD w) true (some (D.tblBytes (off + 48) 16))

/-- The table type each lookup needs (R253, R297), and the check made when it issues: another TYPE, an LKD into D 15 of a
table with wider entries, and a damaged descriptor end the job. -/
def lookupStart (s : State) (t : Thr) (w : DWord) (j : Job) (ty : Nat) (go : TDesc → State → State) : State :=
  let D := s.den t.den
  match D.tblBad (16 * kX w) 16 with
  | some o => s.except t j 8 (eccTab o)
  | none =>
    let d := D.tdesc (kX w)
    let s := s.readSgl t.den (16 * kX w) 16
    if d.ty ≠ ty ∨ (ty = 1 ∧ kD w = 15 ∧ 16 ≤ d.esize) then s.except t j 5 0
    else go d s

/-! ### Meters and counters -/

/-- A meter operation takes effect (R304 to R306). -/
def mtr (s : State) (t : Thr) (w : DWord) (j : Job) (idx : Nat) : State :=
  let b := (j.reg (kB w)).toNat % 2 ^ 24
  let (colour, k) := meterStep ((s.den t.den).meters.get dMeter idx) s.now b
  let s := s.setDen t.den fun D => { D with meters := D.meters.put dMeter idx k }
  let fl := meterFlags colour
  s.goOn t ((j.setReg (kD w) fl.r).setFlags fl)

/-- An update is posted (R310); a full posting queue makes the thread wait. -/
def cnt (s : State) (t : Thr) (w : DWord) (j : Job) : State :=
  let (i, n) := cntOperands j w
  let D := s.den t.den
  if D.post.length < 64 ∧ (D.waitq.get dNil 3).isEmpty then
    (s.setDen t.den fun D => { D with post := D.post ++ [(i, n)] }).goOn t j
  else s.waitFor t 3 j.last ⟨w, {}, none⟩ j

/-- The oldest posted update is applied: one packet and its bytes (R309, R310), at most 8 in a cycle (R285). -/
def applyPost (s : State) (d : Nat) : State :=
  match (s.den d).post with
  | [] => s
  | (i, n) :: rest =>
    s.setDen d fun D => { D with
      post := rest
      used := D.used.put dPair 3 (D.slotTake 3 D.front 1)
      ctrs := D.ctrs.upd dPair i (fun c => ((c.1 + 1) % 2 ^ 64, (c.2 + n) % 2 ^ 64)) }

/-- The accesses of a resource that an instruction takes (R285). -/
def accesses (op : Nat) : Nat := if op = 0x21 then 2 else 1

/-- The first waiting request of a resource is served (R285), once no fox can make one before it, in the first cycle with room; for a
place in the posting queue, in the cycle of the update that made one. Its thread's interval grows by the
cycles it waited, which the den's bank counts (R553). -/
def serve (s : State) (d r : Nat) : State :=
  match (s.den d).waitq.get dNil r with
  | [] => s
  | (c0, k) :: rest =>
    if (r = 3 ∧ 64 ≤ (s.den d).post.length) ∨ (s.den d).inTurn c0 k = false then s
    else
      let t : Thr := ⟨d, k / 4, k % 4⟩
      let s := s.setDen d fun D => { D with waitq := D.waitq.put dNil r rest }
      match s.job t with
      | none => s
      | some j =>
        match j.wait with
        | none => s
        | some x =>
          let u := if r = 3 then (max (j.last + 1) ((s.den d).used.get dPair 3).1, 0) else (s.den d).slotTake r c0 (accesses (kOp x.word))
          let s := if r = 3 then s else s.setDen d fun D => { D with used := D.used.put dPair r u }
          let n := u.1 - c0
          let j := { j with wait := none, ready := u.1 + kInterval (kOp x.word), act := u.1, waited := j.waited.set r (j.waited.getD r 0 + n) }
          let s := s.count (16 + d) 3 r n
          match kOp x.word, x.lkr with
          | 0x20, _ => s.lkd t x.word x.td j
          | 0x21, _ => s.lkh t x.word x.td j
          | 0x22, some st => s.lkrProbe t x.word j u.1 st
          | 0x23, _ => s.lkt t x.word x.td j
          | 0x28, _ => s.mtr t x.word j (if kV x.word then idxV j x.word else kImm x.word)
          | 0x29, _ => (s.setDen d fun D => { D with post := D.post ++ [cntOperands j x.word] }).goOn t j
          | _, _ => s

/-! ### Decision (R312 to R315) -/

/-- The largest value of each descriptor field (R246). -/
def fieldMax (k : Nat) : Nat := [3, 255, 1, 7, 1, 1, 127, 7, 16, 4].getD k 0xFFFFFFFF

/-- The second operand of SETD, PUSH and SMPL: gB, or IMM zero-extended. -/
def opD (j : Job) (w : DWord) : Nat := if kV w then kImm w else (j.reg (kB w)).toNat

/-- The length a forwarded packet would have (R315). -/
def outLen (len : Nat) (d : Desc) : Nat := 4 * d.pushn + (min 128 len - 4 * d.strip) + (len - min 128 len)

/-- END (R243, R246, R315). -/
def endJob (s : State) (t : Thr) (j : Job) : State :=
  let len := match s.pkt j.pid with | some k => k.bytes.length | none => 0
  let d := j.desc
  if !d.actionSet then
    (s.inc (R.DEN_DROP_CNT t.den) F.DEN_DROP_CNT_NODEC 1).finishJob t j ((d.put 0 1).put 6 0x80) j.view 0 j.pc
  else if d.action = 0 ∧ ((d.mcast = 0 ∧ 127 < d.dest) ∨ outLen len d = 0) then s.except t j 6 0
  else s.finishJob t j d j.view 0 j.pc

end State

end Sys2Proof.Machine
end

