-- ==== Sys2Proof/Machine/Engine.lean ====
section
/-! DEFINITION. What the window engine, the aperture bridge and the slices share (11_remote_memory.md, 12_slices_qos.md):
slices and their selection (R408 to R410), windows and their checks (R371 to R375), queue contexts and completion records
(R382 to R385), interrupt entries (R425 to R428), shapers and policers (R429 to R431), paths (R386 to R388). -/

namespace Sys2Proof.Machine

/-- Statuses of R383 that the engine gives. -/
def stABORTED : Nat := 1
def stWINDOW_CLOSED : Nat := 3
def stBAD_KEY : Nat := 4
def stNO_PERMISSION : Nat := 5
def stOUT_OF_RANGE : Nat := 6
def stMISALIGNED : Nat := 7
def stRETRY_EXCEEDED : Nat := 8
def stHOST_ACCESS_DISABLED : Nat := 9
def stHOST_ERROR : Nat := 10
def stSLICE_DISABLED : Nat := 11
def stCHECK_FAILED : Nat := 12
def stSPECULATIVE_REFUSED : Nat := 13
def stPOLICED : Nat := 14
def stBUSY : Nat := 15
def stUNREACHABLE : Nat := 16
def stBAD_WQE : Nat := 17
def stPROT_DOMAIN : Nat := 18

/-- The cells a packet of `n` bytes takes. -/
def cellsOf (n : Nat) : Nat := (n + 255) / 256

/-- The byte-lane rule (R374): the order within each unit of `u` bytes reversed; `n` bounds the units. -/
def laneRule (u : Nat) : Nat → List Byte → List Byte
  | 0, b => b
  | n + 1, b => if u = 0 then b else match b with | [] => [] | _ => (b.take u).reverse ++ laneRule u n (b.drop u)

/-- Tokens of a bucket grown to an instant (R305, R429): RATE Mb/s is RATE eight-thousandths of a byte each ns. -/
def Bucket.grown (b : Bucket) (now : Nat) : Bucket :=
  { b with tok := min (Int.ofNat (mantExp b.burst * 8000)) (b.tok + Int.ofNat ((now - b.last) * mantExp b.rate)), last := now }

/-- Tokens in whole bytes, as QOS_SHP_TOK shows them: 32 bits signed. -/
def Bucket.shown (b : Bucket) : Nat := ((b.tok / 8000) % (2 ^ 32 : Int)).toNat

/-- The bytes 0 to 30 of a completion record (R382); byte 31 carries PHASE. -/
def recBytes (opc status qid imm wrId win dev info len : Nat) : List Byte :=
  leBytes 1 opc ++ leBytes 1 status ++ leBytes 2 qid ++ leBytes 4 imm ++ leBytes 8 wrId ++ leBytes 4 win ++ leBytes 1 dev
    ++ leBytes 1 info ++ [0, 0] ++ leBytes 4 len ++ [0, 0, 0]

namespace State

/-! ### Slices -/

/-- A slice's state (R410). -/
def slcState (s : State) (k : Nat) : Nat := s.get (R.SLC_STATE k) F.SLC_STATE_STATE
def slcHd (s : State) (k : Nat) : Nat := s.get (R.SLC_ID k) F.SLC_ID_HD

/-- The slices that are not FREE, lowest first. -/
def liveSlices (s : State) : List Nat :=
  s.regs.filterMap fun e =>
    if 0x500000 ≤ e.1 ∧ e.1 < 0x600000 ∧ e.1 % 256 = 4 ∧ fldOf e.2 F.SLC_STATE_STATE ≠ 0 then some ((e.1 - 0x500000) / 256) else none

/-- The slice that a domain and a PASID select (R408). -/
def selectSlice (s : State) (hd : Nat) (pasid : Option Nat) : Option Nat :=
  s.liveSlices.find? fun k =>
    let w := s.rd (R.SLC_ID k)
    decide (fldOf w F.SLC_ID_HD = hd) &&
    (match pasid with
     | some p => decide (fldOf w F.SLC_ID_PASID_EN = 1) && decide (fldOf w F.SLC_ID_PASID = p)
     | none => decide (fldOf w F.SLC_ID_PASID_EN = 0))

/-- A use of a quota (R421) changed: kind 0 messages, 1 inbound entries, 2 cells. -/
def useReg (k sl : Nat) : Nat := [R.SLC_U_SRC sl, R.SLC_U_INB sl, R.SLC_U_CELL sl].getD k 0
def useOf (s : State) (k sl : Nat) : Nat := s.get (useReg k sl) F.SLC_U_SRC_USE
def useAdd (s : State) (k sl n : Nat) : State := s.set (useReg k sl) F.SLC_U_SRC_USE (s.useOf k sl + n)
def useSub (s : State) (k sl n : Nat) : State := s.set (useReg k sl) F.SLC_U_SRC_USE (s.useOf k sl - n)
/-- The quota in force (R422). -/
def quotaOf (s : State) (k sl : Nat) : Nat := s.wen.quota.get dZero (sl * 4 + k)

/-! ### Windows -/

def win (s : State) (w a : Nat) (f : Fld) : Nat := s.get (winReg w a) f
def setWin (s : State) (w a : Nat) (f : Fld) (v : Nat) : State := s.set (winReg w a) f v
def winState (s : State) (w : Nat) : Nat := s.win w R.WEN_WIN_CTL F.WEN_WIN_CTL_STATE
def winHd (s : State) (w : Nat) : Nat := s.win w R.WEN_WIN_OWNER F.WEN_WIN_OWNER_HD
def winPasid (s : State) (w : Nat) : Option Nat :=
  if s.win w R.WEN_WIN_OWNER F.WEN_WIN_OWNER_PASID_EN = 1 then some (s.win w R.WEN_WIN_OWNER F.WEN_WIN_OWNER_PASID) else none

/-- The slice a window belongs to (R409). -/
def winSlice (s : State) (w : Nat) : Option Nat := s.selectSlice (s.winHd w) (s.winPasid w)

/-- The swap unit of a window's lane rule (R374); 0 for address-invariant. -/
def winUnit (s : State) (w : Nat) : Nat := [0, 2, 4, 8].getD (s.win w R.WEN_WIN_CTL F.WEN_WIN_CTL_LANE) 0

/-- Length and base of a window. -/
def winLen (s : State) (w : Nat) : Nat :=
  (s.win w R.WEN_WIN_LEN_HI F.WEN_WIN_LEN_HI_PAGES_M1 * 2 ^ 32 + s.win w R.WEN_WIN_LEN_LO F.WEN_WIN_LEN_LO_PAGES_M1 + 1) * 4096
def winBase (s : State) (w : Nat) : Nat :=
  s.win w R.WEN_WIN_BASE_HI F.WEN_WIN_BASE_HI_BASE * 2 ^ 32 + s.win w R.WEN_WIN_BASE_LO F.WEN_WIN_BASE_LO_BASE * 4096

/-- A local window's handle and generation as records carry them (R371, R382). -/
def winHandle (s : State) (w : Nat) : Nat := w + s.ownId * 2 ^ 16 + s.win w R.WEN_WIN_PROT F.WEN_WIN_PROT_GEN * 2 ^ 24

/-- Checks 1 to 6 and 8 of R373, and check 7 for a message in progress or not: the status, 0 when all pass. `opc` is 1 WRITE,
2 WRITE_NOTIFY, 3 READ; no key stands for a local window, whose element carries none (R381). -/
def winCheck (s : State) (w gen : Nat) (key : Option Nat) (opc off len : Nat) (spec going : Bool) : Nat :=
  let c := R.WEN_WIN_CTL
  let u := s.winUnit w
  if gen ≠ s.win w R.WEN_WIN_PROT F.WEN_WIN_PROT_GEN ∨ s.win w c F.WEN_WIN_CTL_VALID = 0 ∨ s.winState w ≠ 1 then stWINDOW_CLOSED
  else if (match key with | some k => decide (k ≠ s.win w R.WEN_WIN_KEY F.WEN_WIN_KEY_KEY) | none => false) then stBAD_KEY
  else if (opc = 3 ∧ s.win w c F.WEN_WIN_CTL_PERM_R = 0) ∨ (opc ≠ 3 ∧ s.win w c F.WEN_WIN_CTL_PERM_W = 0)
      ∨ (opc = 2 ∧ s.win w c F.WEN_WIN_CTL_PERM_N = 0) then stNO_PERMISSION
  else if 0 < len ∧ s.winLen w < off + len then stOUT_OF_RANGE
  else if u ≠ 0 ∧ (off % u ≠ 0 ∨ len % u ≠ 0) then stMISALIGNED
  else if spec ∧ s.win w c F.WEN_WIN_CTL_PF = 0 then stSPECULATIVE_REFUSED
  else if (match s.winSlice w with
      | some k => decide (s.slcState k ≠ 1) && !(going && decide (s.slcState k = 2))
      | none => true) then stSLICE_DISABLED
  else if !s.dmfOk (s.winHd w) then stHOST_ACCESS_DISABLED
  else 0

/-! ### Contexts (R384) -/

def ctxRec (s : State) (ty i : Nat) : List Byte := padTo 32 (s.wen.ctx.get dNil (ty * 65536 + i))
def ctxGet (s : State) (ty i off n : Nat) : Nat := fieldAt (s.ctxRec ty i) off n
def ctxSet (s : State) (ty i off n v : Nat) : State :=
  let b := s.ctxRec ty i
  s.setWen fun w => { w with ctx := w.ctx.put dNil (ty * 65536 + i) (b.take off ++ leBytes n v ++ b.drop (off + n)) }
def ctxEn (s : State) (ty i : Nat) : Bool := bit (s.ctxGet ty i 8 1) 7
def ctxSlice (s : State) (ty i : Nat) : Nat := s.ctxGet ty i 9 2 % 4096

/-- A completion queue's capacity, and whether a record fits (R384, R385). -/
def cqCap (s : State) (cq : Nat) : Nat := if s.ctxGet 1 cq 8 1 % 32 = 16 then 65535 else 2 ^ (s.ctxGet 1 cq 8 1 % 32)
def cqFits (s : State) (cq : Nat) : Bool :=
  s.ctxEn 1 cq && decide ((s.ctxGet 1 cq 12 2 + 65536 - s.ctxGet 1 cq 14 2) % 65536 < s.cqCap cq)

/-! ### Interrupt entries (R425 to R428) -/

/-- A trigger for entry i of a slice. -/
def irqTrigger (s : State) (sl i : Nat) : State :=
  let st := s.slcState sl
  if st = 0 ∨ 5 ≤ st then s.inc (R.SLC_CNT_IRQ sl) F.SLC_CNT_IRQ_IRQ_LOST 1
  else if s.on (R.SLC_IRQ_CTL sl i) F.SLC_IRQ_CTL_MASK || !s.dmfOk (s.slcHd sl) then s.set (R.SLC_IRQ_CTL sl i) F.SLC_IRQ_CTL_PEND 1
  else if s.wen.irqs.contains (sl, i) then s
  else s.setWen fun w => { w with irqs := w.irqs ++ [(sl, i)] }

/-- The write of an entry: DATA to ADDR, 4 bytes, no PASID. -/
def irqSend (s : State) (sl i : Nat) : State :=
  s.emit (.hostWrite (s.slcHd sl) (s.get (R.SLC_IRQ_ADDR_HI sl i) F.SLC_IRQ_ADDR_HI_ADDR * 2 ^ 32
    + s.get (R.SLC_IRQ_ADDR_LO sl i) F.SLC_IRQ_ADDR_LO_ADDR * 4) (leBytes 4 (s.rd (R.SLC_IRQ_DATA sl i)).toNat) none)

/-- A pending entry is sent when nothing holds it back (R426 to R428). -/
def irqFlush (s : State) (sl i : Nat) : State :=
  let c := R.SLC_IRQ_CTL sl i
  if s.on c F.SLC_IRQ_CTL_PEND && !s.on c F.SLC_IRQ_CTL_MASK && s.dmfOk (s.slcHd sl) && decide (1 ≤ s.slcState sl ∧ s.slcState sl ≤ 4) then
    (s.set c F.SLC_IRQ_CTL_PEND 0).irqSend sl i
  else s

/-- A fired entry issues its write, which every trigger since has merged into; one that can no longer be issued stays
pending (R425 to R427). -/
def irqIssue (s : State) (k i : Nat) : State :=
  if s.wen.irqs.contains (k, i) then
    let s := s.setWen fun w => { w with irqs := w.irqs.filter fun x => !(x == (k, i)) }
    if s.dmfOk (s.slcHd k) then s.irqSend k i else s.set (R.SLC_IRQ_CTL k i) F.SLC_IRQ_CTL_PEND 1
  else s

/-! ### Completion records (R382, R385) -/

/-- A record is written to a CQ that has a place: bytes 0 to 30 first, then PHASE; PI advances, the pass bit flips at the end
of the ring, the interrupt follows. -/
def recWrite (s : State) (cq : Nat) (b : List Byte) : State :=
  let pi := s.ctxGet 1 cq 12 2
  let sl := s.ctxSlice 1 cq
  let n := 2 ^ (s.ctxGet 1 cq 8 1 % 32)
  let a := s.ctxGet 1 cq 0 8 + pi % n * 32
  let ph := s.wen.pass.get (fun _ => false) cq
  let hd := s.slcHd sl
  let s := ((s.emit (.hostWrite hd a b none)).emit (.hostWrite hd (a + 31) (leBytes 1 (b2n ph)) none)).ctxSet 1 cq 12 2 ((pi + 1) % 65536)
  let s := if (pi + 1) % n = 0 then s.setWen fun w => { w with pass := w.pass.put (fun _ => false) cq (!ph) } else s
  let i := s.ctxGet 1 cq 11 1
  if bit i 2 then s.irqTrigger sl (i % 4) else s

/-- A record joins the records of its CQ, in completion order. -/
def recPush (s : State) (cq : Nat) (r : CqRec) : State := s.setWen fun w => { w with held := w.held.upd dNil cq (· ++ [r]) }

/-- The oldest waiting record of a CQ is written when it has a free place. -/
def recNext (s : State) (cq : Nat) : State :=
  match s.wen.held.get dNil cq with
  | [] => s
  | r :: rest =>
    if s.cqFits cq && s.dmfOk (s.slcHd (s.ctxSlice 1 cq)) then
      (s.setWen fun w => { w with held := w.held.put dNil cq rest }).recWrite cq r.bytes
    else s

/-! ### Shapers and policers -/

def shaper (s : State) (sl : Nat) : Bucket := s.wen.shp.get (fun _ => {}) sl
def policer (s : State) (sl : Nat) : Bucket := s.wen.pol.get (fun _ => {}) sl
def setShaper (s : State) (sl : Nat) (b : Bucket) : State := s.setWen fun w => { w with shp := w.shp.put (fun _ => {}) sl b }
def setPolicer (s : State) (sl : Nat) (b : Bucket) : State := s.setWen fun w => { w with pol := w.pol.put (fun _ => {}) sl b }

/-- The token registers follow the buckets. -/
def showTokens (s : State) (sl : Nat) : State :=
  let a := ((s.shaper sl).grown s.now).shown
  let b := ((s.policer sl).grown s.now).shown
  (s.set (R.QOS_SHP_TOK sl) F.QOS_SHP_TOK_TOKENS a).set (R.QOS_POL_TOK sl) F.QOS_POL_TOK_TOKENS b

/-- The policer's answer for a packet of `n` charged bytes (R430). -/
def police (s : State) (sl n : Nat) : Bool × State :=
  let b := (s.policer sl).grown s.now
  let c := Int.ofNat ((n + b.ovh) * 8000)
  if !b.en then (true, s)
  else if c ≤ b.tok then (true, s.setPolicer sl { b with tok := b.tok - c })
  else (false, ((s.setPolicer sl b).inc (R.SLC_CNT_POL sl) F.SLC_CNT_POL_POL_DROP 1).count 34 5 sl 1)

/-- A slice in STOPPING, DISABLED, RESETTING or FREE releases no packet: what is offered is discarded (R419). -/
def shpShut (s : State) (sl : Nat) : Bool := s.slcState sl == 0 || decide (4 ≤ s.slcState sl)

/-- A packet at a shaper can start (R429, R421): tokens at or above 0, and its cells fit the quota. -/
def shpReady (s : State) (sl : Nat) (x : Shp) : Bool :=
  let b := (s.shaper sl).grown s.now
  (!b.en || decide (0 ≤ b.tok)) && decide (s.useOf 2 sl + cellsOf x.bytes.length ≤ s.quotaOf 2 sl)

/-- A message at the source, and one changed. -/
def msg (s : State) (slot : Nat) : Option Msg := s.wen.msgs.get dNone slot
def setMsg (s : State) (slot : Nat) (m : Option Msg) : State := s.setWen fun w => { w with msgs := w.msgs.put dNone slot m }

/-- A packet of a message, and one changed; packet 2^18 is its CANCEL. -/
def cancelPkt : Nat := 262144
def txPkt (m : Msg) (k : Nat) : TxPkt := if k = cancelPkt then m.cancel else m.pk.get (fun _ => {}) k
def setTxPkt (m : Msg) (k : Nat) (p : TxPkt) : Msg := if k = cancelPkt then { m with cancel := p } else { m with pk := m.pk.put (fun _ => {}) k p }

/-- A packet starts: charged, and handed to the window-engine port. -/
def shpStart (s : State) (sl : Nat) (x : Shp) : State :=
  let b := (s.shaper sl).grown s.now
  let s := if b.en then s.setShaper sl { b with tok := b.tok - Int.ofNat ((x.charge + b.ovh) * 8000) } else s
  let n := cellsOf x.bytes.length
  let s := (s.useAdd 2 sl n).ownPacket 129 25 (fieldAt x.bytes 2 1 / 32) sl n 0 x.bytes
  match x.msg with
  | none => s
  | some (slot, inc, k) =>
    match s.msg slot with
    | some m => if m.inc = inc ∧ (txPkt m k).st = 1 then s.setMsg slot (some (setTxPkt m k { txPkt m k with st := 2 })) else s
    | none => s

/-- A packet is offered to its slice's shaper: it starts at once, or waits behind those offered before it (R429), or is discarded (R419). -/
def shpOffer (s : State) (sl : Nat) (x : Shp) : State :=
  let q := s.wen.shq.get dNil sl
  if s.shpShut sl then s
  else if q.isEmpty && s.shpReady sl x then s.shpStart sl x
  else s.setWen fun w => { w with shq := w.shq.put dNil sl (q ++ [x]) }

/-- The packets of a message that wait at a shaper do not start any more. -/
def shpForget (s : State) (slot : Nat) : State :=
  s.setWen fun w => { w with shq := w.shq.mapAll dNil fun _ l => l.filter fun x =>
    match x.msg with | some (k, _, _) => k != slot | none => true }

/-- The first packet that waits at a shaper starts when it can. -/
def shpRelease (s : State) (sl : Nat) : State :=
  match s.wen.shq.get dNil sl with
  | [] => s
  | x :: rest =>
    if s.shpReady sl x && decide (s.slcState sl = 1 ∨ s.slcState sl = 2) then
      (s.setWen fun w => { w with shq := w.shq.put dNil sl rest }).shpStart sl x
    else s

/-! ### Paths (R386 to R388) -/

/-- The path for a packet to a device from path `p` on in rotation: excluded paths and those an ECE answer skips are passed
over; the choice counts against every skip. -/
def choosePath (s : State) (dst p : Nat) : Nat × State :=
  let ex := s.wen.excl.get dNil dst
  let cand := (upTo 4).map fun i => (p + i) % 4
  let free := cand.filter fun q => !ex.contains q
  let q := (free.find? fun q => s.wen.skip.get dZero (dst * 4 + q) == 0).getD (free.headD (p % 4))
  (q, forAll (upTo 4) (fun i s => s.setWen fun w => { w with skip := w.skip.upd dZero (dst * 4 + i) (· - 1) }) s)

/-- A timeout on a path: counted in a row, and at PATH_TH the path is excluded with an event; the failing port is not given
by any rule (a free value). When all four are excluded all are restored. -/
def pathTimeout (s : State) (dst p : Nat) : State :=
  let n := s.wen.tmo.get dZero (dst * 4 + p) + 1
  if n < max 1 (s.get R.WEN_RM_CFG3 F.WEN_RM_CFG3_PATH_TH) then s.setWen fun w => { w with tmo := w.tmo.put dZero (dst * 4 + p) n }
  else
    let ex := s.wen.excl.get dNil dst
    let ex := if ex.contains p then ex else ex ++ [p]
    let s := s.setWen fun w => { w with
      tmo := w.tmo.put dZero (dst * 4 + p) 0, excl := w.excl.put dNil dst (if 4 ≤ ex.length then [] else ex) }
    let port := s.freeBelow 128
    s.used.fabEvent 0x07 (leBytes 1 dst ++ leBytes 1 p ++ leBytes 1 port)

/-- An answered packet ends a row of timeouts on its path; ECE makes the path skipped for the next 4 choices. -/
def pathAnswered (s : State) (dst p : Nat) (ece : Bool) : State :=
  s.setWen fun w => { w with
    tmo := w.tmo.put dZero (dst * 4 + p) 0
    skip := if ece then w.skip.put dZero (dst * 4 + p) 4 else w.skip }

/-- Whether this device can send to another (R383 UNREACHABLE). -/
def reachable (s : State) (dst : Nat) : Bool :=
  dst == s.ownId || (decide (s.mode = 4 ∨ s.mode = 5) && s.on R.MGT_FAB_ID F.MGT_FAB_ID_VALID)

end State

end Sys2Proof.Machine
end

