-- ==== Sys2Proof/Machine/Source.lean ====
section
/-! DEFINITION. The source side of remote memory: the aperture bridge (R402 to R406), elements (R380, R381), messages and
their packets (R386 to R389), answers (R387), timeouts (R388), aborts (R400). From 11_remote_memory.md. -/

namespace Sys2Proof.Machine

/-- Wire length of a message, its packets, and the local reads that gather it (R378). -/
def wireLen (m : Msg) : Nat := m.len + (if m.opc = 2 then 4 else 0)
def packetsOf (m : Msg) : Nat := (wireLen m + 4095) / 4096
def dataChunks (m : Msg) : Nat := (m.len + 4095) / 4096

/-- The wire bytes of packet k: data bytes, then those of the immediate that fall in it (R378). -/
def wireChunk (m : Msg) (k : Nat) : List Byte :=
  if m.opc = 3 then []
  else (m.data.get dNil k ++ (if m.opc = 2 ∧ m.len ≤ 4096 * (k + 1) then (leBytes 4 m.imm).drop (4096 * k - m.len) else [])).take 4096

/-- All wire bytes of a message. -/
def wireAll (m : Msg) : List Byte := (upTo (packetsOf m)).flatMap (wireChunk m)

/-- The destination device of a message. -/
def dstOf (m : Msg) : Nat := m.rwin / 65536 % 256

/-- An aperture range entry (R402). -/
structure ApEnt where
  flags : Nat
  dev : Nat
  win : Nat
  gen : Nat
  slice : Nat
  key : Nat
  start : Nat
  size : Nat
  woff : Nat
  deriving DecidableEq, Repr

def ApEnt.valid (e : ApEnt) : Bool := bit e.flags 0
def ApEnt.bar (e : ApEnt) : Nat := if bit e.flags 1 then 4 else 2
def ApEnt.ack (e : ApEnt) : Bool := bit e.flags 2
/-- PREFETCH is used only in ranges of BAR4. -/
def ApEnt.pref (e : ApEnt) : Bool := bit e.flags 3 && bit e.flags 1

/-- The contiguous runs of enabled bytes of a write, with their offsets (R403). -/
def runsOf : Nat → List (Option Byte) → List (Nat × List Byte)
  | _, [] => []
  | o, none :: t => runsOf (o + 1) t
  | o, some b :: t =>
    match t with
    | some _ :: _ =>
      (match runsOf (o + 1) t with
       | (_, bs) :: r => (o, b :: bs) :: r
       | [] => [(o, [b])])
    | _ => (o, [b]) :: runsOf (o + 1) t

namespace State

/-! ### Aperture ranges and outcomes (R402 to R406) -/

def apEnt (s : State) (h r : Nat) : ApEnt :=
  let g := s.ctxGet 2 (h * 256 + r)
  ⟨g 0 1, g 1 1, g 2 2, g 4 1, g 5 2 % 4096, g 8 4, g 12 6, g 18 6, g 24 6⟩

/-- The lowest valid range of a domain's BAR that an offset lies in. -/
def apFind (s : State) (h bar off : Nat) : Option Nat :=
  (upTo 256).find? fun r =>
    let e := s.apEnt h r
    e.valid && decide (e.bar = bar) && decide (e.start ≤ off) && decide (off < e.start + e.size)

/-- A failed aperture write (R404): the first is logged, all are counted and signalled. -/
def apErr (s : State) (h r off status : Nat) : State :=
  let a := R.WEN_AP_ERR h
  let s := if s.on a F.WEN_AP_ERR_VALID then s else
    let s := ((s.set a F.WEN_AP_ERR_STATUS status).set a F.WEN_AP_ERR_RANGE r).set a F.WEN_AP_ERR_VALID 1
    (s.wr (R.WEN_AP_ADDR_LO h) (BitVec.ofNat 32 off)).wr (R.WEN_AP_ADDR_HI h) (BitVec.ofNat 32 (off / 2 ^ 32))
  (s.inc a F.WEN_AP_ERR_COUNT 1).msix h (s.get a F.WEN_AP_ERR_VEC)

/-- A chunk of the prefetch buffer, fetched or on its way. -/
def pfFind (s : State) (h r c : Nat) : Option PfChunk := s.wen.pf.find? fun x => x.h == h && x.range == r && x.chunk == c

/-- A chunk is given up, and counted when `count` says so (R406). -/
def pfDrop (s : State) (h r c : Nat) (count : Bool) : State :=
  match s.pfFind h r c with
  | none => s
  | some _ =>
    let s := s.setWen fun w => { w with pf := w.pf.filter fun y => !(y.h == h && y.range == r && y.chunk == c) }
    if count then s.inc (R.WEN_AP_CNT h) F.WEN_AP_CNT_PF_DISC 1 else s

/-- A write through the aperture discards a fetched chunk, used or not (R406); DEDUCED: one still on its way is
none (notes/assumptions/132.md). -/
def pfWrite (s : State) (h r c : Nat) : State := if (s.pfFind h r c).any (·.data.isSome) then s.pfDrop h r c true else s

/-- A fetched chunk expires; unused it counts (R406). -/
def pfExpire (s : State) (h r c : Nat) : State :=
  match s.pfFind h r c with
  | some x => if x.data.isSome then s.pfDrop h r c (!x.used) else s
  | none => s

/-- The end of a message made for an aperture: an error log, a completion, a filled or refused prefetch. A read that fails
completes with Completer Abort (notes/assumptions/26.md). -/
def apEnd (s : State) (why : MsgFor) (status : Nat) (data : List Byte) : State :=
  match why with
  | .wqe _ => s
  | .apWrite h r off ack =>
    if status = 0 then s
    else
      let s := s.apErr h r off status
      if ack then s.setWen fun w => { w with apFail := w.apFail.put (fun _ => false) h true } else s
  | .apRead h _ _ reqId tag =>
    let P := (s.reqVport h reqId).1
    s.emit (if status = 0 then .completion P reqId tag .sc data else .completion P reqId tag .ca [])
  | .prefetch h r c =>
    if status = 0 then
      s.setWen fun w => { w with pf := w.pf.map fun x =>
        if x.h = h ∧ x.range = r ∧ x.chunk = c then { x with data := some data, at_ := s.now } else x }
    else s.pfDrop h r c true

/-! ### Message slots (R386) -/

/-- The messages outstanding, with their slots. -/
def msgList (s : State) : List (Nat × Msg) := s.wen.msgs.filterMap fun e => e.2.map fun m => (e.1, m)

/-- A message slot is free. -/
def slotLeft (s : State) : Bool := decide (s.wen.msgs.length < 65536)

/-- A free message slot: no rule says which, so the search starts at a free value. -/
def freeSlot (s : State) : Nat :=
  let busy := s.wen.msgs.map (·.1)
  let k := slotFrom busy busy.length (s.freeBelow 65536)
  if k < 65536 then k else slotFrom busy busy.length 0

/-- A message takes a slot; the slot's incarnation advances. -/
def newMsg (s : State) (m : Msg) : State :=
  let k := s.freeSlot
  let inc := (s.wen.inc.get dZero k + 1) % 256
  let s := (s.used.setMsg k (some { m with inc := inc, no := s.wen.msgNo })).setWen fun w => { w with
    inc := w.inc.put dZero k inc, msgNo := w.msgNo + 1 }
  let s := match m.why with | .wqe _ => s.useAdd 0 m.slice 1 | _ => s
  s.count 33 1 0 1

/-- A message for an aperture access to BAR offset `off` of range r. -/
def apMsg (e : ApEnt) (why : MsgFor) (opc off len tc : Nat) (data : List Byte) : Msg :=
  { inc := 0, why := why, opc := opc, sig := false, fence := false, tc := tc, imm := 0, wrId := 0, lwin := 0, loff := 0,
    rwin := e.dev * 65536 + e.win + e.gen * 2 ^ 24, rkey := e.key, roff := e.woff + (off - e.start), len := len,
    slice := e.slice, cq := 0, pdom := 0, no := 0, got := 1, data := if data.isEmpty then [] else [(0, data)],
    mcrc := if opc = 3 then some 0 else some (crc32c data) }

/-- An access of an aperture becomes a message, or ends at once (R404, R419, R383). -/
def apStart (s : State) (e : ApEnt) (why : MsgFor) (opc off len tc : Nat) (data : List Byte) : State :=
  if s.slcState e.slice ≠ 1 then s.apEnd why stSLICE_DISABLED []
  else if !s.reachable e.dev then s.apEnd why stUNREACHABLE []
  else s.newMsg (apMsg e why opc off len tc data)

/-- Speculative READs for the chunks after chunk c of a range with PREFETCH (R406). -/
def apPrefetch (s : State) (h r c tc : Nat) : State :=
  forAll (upTo (s.get R.WEN_AP_CFG F.WEN_AP_CFG_PF_DEPTH)) (fun i s =>
    let e := s.apEnt h r
    let k := c + 1 + i
    if e.pref && decide (4096 * k < e.size) && s.slotLeft
        && !s.wen.pf.any (fun x => x.h == h && x.range == r && x.chunk == k) then
      (s.setWen fun w => { w with pf := w.pf ++ [{ h := h, range := r, chunk := k }] }).apStart e (.prefetch h r k) 3
        (e.start + 4096 * k) (min 4096 (e.size - 4096 * k)) tc []
    else s) s

/-- The domain whose aperture bridge a message serves an access of; none for an element and for a prefetch. -/
def apOf (m : Msg) : Option Nat :=
  match m.why with
  | .apWrite h _ _ _ => some h
  | .apRead h _ _ _ _ => some h
  | _ => none

/-- A message holds an outbound entry of a bridge (R204): a read and an acknowledged write until it ends, a posted write until it is
sent (R404). -/
def apHolds (m : Msg) : Bool :=
  match m.why with
  | .apWrite _ _ _ ack => ack || decide ((txPkt m 0).st < 2)
  | .apRead _ _ _ _ _ => true
  | _ => false

/-- Outbound entries in use of a domain's bridge (R204); a request that was withdrawn holds none (R205). -/
def apOut (s : State) (h : Nat) : Nat :=
  (s.msgList.filter fun x => apOf x.2 == some h && !x.2.withdrawn && apHolds x.2).length

/-- The domain of this device that an aperture's request goes to (R203); none for another device. -/
def apTo (s : State) (m : Msg) : Option Nat :=
  if (apOf m).isSome && dstOf m == s.ownId then some (s.winHd (m.rwin % 65536)) else none

/-- Inbound response entries in use of a domain's bridge (R204): the local requests to it that have been sent and not answered. -/
def apIn (s : State) (h : Nat) : Nat :=
  (s.msgList.filter fun x => s.apTo x.2 == some h && decide (0 < x.2.next) && !x.2.withdrawn).length

/-- A local request that has not been sent waits while its target's bridge has all 256 inbound entries in use (R204). -/
def apFull (s : State) (m : Msg) : Bool :=
  match s.apTo m with
  | some h => m.next == 0 && decide (256 ≤ s.apIn h)
  | none => false

/-- The port by which an aperture's request left the part, whose timer it runs on (R193): of a local target the upstream port of its
domain, else the port of its path (R335; notes/assumptions/108.md). -/
def apLeft (s : State) (m : Msg) : Nat :=
  match s.apTo m with
  | some h => (s.dom h).upPort
  | none => ((s.pathEntry (dstOf m)).getD (2 + (txPkt m 0).path % 4) 0).toNat % 128

/-- An acknowledged write of the domain made before message number `lim` is outstanding. -/
def apAckOpen (s : State) (h lim : Nat) : Bool :=
  s.msgList.any fun x => match x.2.why with | .apWrite h' _ _ ack => h' == h && ack && decide (x.2.no < lim) | _ => false

/-- What an access of a range is made for. -/
def apWhy (s : State) (h : Nat) : ApReq → MsgFor
  | .wr r off _ _ => .apWrite h r off (s.apEnt h r).ack
  | .rd r off _ _ reqId tag => .apRead h r off reqId tag

/-- The slice an access of a range is charged to. -/
def apSlice (s : State) (h : Nat) : ApReq → Nat
  | .wr r _ _ _ => (s.apEnt h r).slice
  | .rd r _ _ _ _ _ => (s.apEnt h r).slice

/-- An access of a range goes ahead: a write, a read answered from the prefetch buffer, failed, or sent. One charged to a slice that is
not ACTIVE ends (R419). -/
def apGo (s : State) (h : Nat) (q : ApReq) : State :=
  match q with
  | .wr r off tc data =>
    let e := s.apEnt h r
    if s.slcState e.slice ≠ 1 then s.apEnd (s.apWhy h q) stSLICE_DISABLED []
    else
    let c0 := (off - e.start) / 4096
    let c1 := (off - e.start + data.length - 1) / 4096
    ((s.pfWrite h r c0).pfWrite h r c1).apStart e (.apWrite h r off e.ack) 1 off data.length tc data
  | .rd r off len tc reqId tag =>
    let e := s.apEnt h r
    let c := (off - e.start) / 4096
    let P := (s.reqVport h reqId).1
    if e.ack && s.wen.apFail.get (fun _ => false) h then
      (s.setWen fun w => { w with apFail := w.apFail.put (fun _ => false) h false }).emit (.completion P reqId tag .ca [])
    else if s.slcState e.slice ≠ 1 then s.apEnd (s.apWhy h q) stSLICE_DISABLED []
    else if len = 0 then s.emit (.completion P reqId tag .sc [])
    else
      let hit := s.wen.pf.find? fun x => x.h == h && x.range == r && x.chunk == c && x.data.isSome
        && decide (s.now ≤ x.at_ + 1000 * max 1 (s.get R.WEN_AP_CFG F.WEN_AP_CFG_PF_AGE))
        && decide ((off - e.start) % 4096 + len ≤ 4096)
      let s := match hit with
        | some x =>
          (s.setWen fun w => { w with pf := w.pf.map fun y =>
            if y.h = h ∧ y.range = r ∧ y.chunk = c then { y with used := true } else y }).emit
            (.completion P reqId tag .sc (((x.data.getD []).drop ((off - e.start) % 4096)).take len))
        | none => s.apStart e (.apRead h r off reqId tag) 3 off len tc []
      if e.pref then s.apPrefetch h r c tc else s

/-- No access of the domain can go ahead: its bridge has no outbound entry left, there is no message slot, or requests that it withdrew
are still to be reissued, whose order is kept (R204, R205). -/
def apBlocked (s : State) (h : Nat) : Bool :=
  decide (256 ≤ s.apOut h) || !s.slotLeft || s.msgList.any fun x => apOf x.2 == some h && x.2.withdrawn

/-- A write to an acknowledged range. -/
def apAcked (s : State) (h : Nat) : ApReq → Bool
  | .wr r _ _ _ => (s.apEnt h r).ack
  | .rd .. => false

/-- A read of an acknowledged range that writes to acknowledged ranges made before it hold (R405): those outstanding below number `lim`,
and those that wait before it. -/
def apAckHeld (s : State) (h lim : Nat) (before : List (Nat × ApReq)) : ApReq → Bool
  | .rd r _ _ _ _ _ => (s.apEnt h r).ack && (s.apAckOpen h lim || before.any fun x => s.apAcked h x.2)
  | .wr .. => false

/-- An access that arrives with none waiting must wait. -/
def apMustWait (s : State) (h : Nat) (q : ApReq) : Bool := s.apBlocked h || s.apAckHeld h s.wen.msgNo [] q

/-- The accesses that wait at a bridge, in order: those that can go ahead do, and a read that R405 holds keeps none behind it. -/
def apScan (h : Nat) : List (Nat × ApReq) → List (Nat × ApReq) → State → List (Nat × ApReq) × State
  | [], kept, s => (kept, s)
  | q :: t, kept, s =>
    if s.apBlocked h then (kept ++ q :: t, s)
    else if s.apAckHeld h q.1 kept q.2 then apScan h t (kept ++ [q]) s
    else apScan h t kept (s.apGo h q.2)

/-- The accesses a bridge holds go ahead as far as they can. -/
def apDrain (s : State) (h : Nat) : State :=
  match s.wen.apQ.get dNil h with
  | [] => s
  | l => if s.apBlocked h then s else let r := apScan h l [] s; r.2.setWen fun w => { w with apQ := w.apQ.put dNil h r.1 }

/-- An access of a range, behind those held before it; a read that R405 holds counts in ACK_WAIT. -/
def apSubmit (s : State) (h : Nat) (q : ApReq) : State :=
  let l := s.wen.apQ.get dNil h
  if l.isEmpty && !s.apMustWait h q then s.apGo h q
  else
    let s := if s.apAckHeld h s.wen.msgNo l q then s.inc (R.WEN_AP_CNT h) F.WEN_AP_CNT_ACK_WAIT 1 else s
    (s.setWen fun w => { w with apQ := w.apQ.put dNil h (l ++ [(w.msgNo, q)]) }).apDrain h

/-- The accesses of a slice that wait at a bridge end (R416 step 4). -/
def apStop (s : State) (h k : Nat) : State :=
  let l := s.wen.apQ.get dNil h
  let s := s.setWen fun w => { w with apQ := w.apQ.put dNil h (l.filter fun x => s.apSlice h x.2 != k) }
  forAll (l.filter fun x => s.apSlice h x.2 == k) (fun x s => s.apEnd (s.apWhy h x.2) stSLICE_DISABLED []) s

/-- An access that no range takes (R191, R192, R403): refused, counted at the port it came in by and logged in its virtual port. -/
def apRefuse (s : State) (h reqId : Nat) (tag : Option Nat) : State :=
  let v := s.reqVport h reqId
  let s := (s.urSent v.1).aerIn v.1 h v.2 1
  match tag with
  | some tag => s.emit (.completion v.1 reqId tag .ur [])
  | none => s

/-- A host write to an aperture BAR (R403). -/
def apWrite (s : State) (h : Nat) (a : ApWrite) : State :=
  if s.hdState h ≠ 2 then s
  else match s.apFind h a.bar a.off with
  | none => s.apRefuse h a.reqId none
  | some r =>
    let e := s.apEnt h r
    if e.start + e.size < a.off + a.data.length then s.apRefuse h a.reqId none
    else forAll (runsOf a.off a.data) (fun x s => s.apSubmit h (.wr r x.1 a.tc x.2)) s

/-- A host read of an aperture BAR (R403, R405, R406). -/
def apRead (s : State) (h : Nat) (a : ApRead) : State :=
  if s.hdState h ≠ 2 then s
  else match s.apFind h a.bar a.off with
  | none => s.apRefuse h a.reqId (some a.tag)
  | some r =>
    let e := s.apEnt h r
    if e.start + e.size < a.off + a.len then s.apRefuse h a.reqId (some a.tag)
    else s.apSubmit h (.rd r a.off a.len a.tc a.reqId a.tag)

/-! ### The end of a message -/

/-- Host reads outstanding whose work has been failed: what they bring is discarded (R416). -/
def dropReads (s : State) (p : HostRead → Bool) : State :=
  { s with doms := s.doms.mapAll dDom fun _ (d : Dom) =>
      { d with reads := d.reads.map fun (r : HostRead) => if p r && r.drop == 0 then { r with drop := 3 } else r } }

/-- The completion record of an element's message (R382). -/
def msgRec (m : Msg) (sq status info dev : Nat) : CqRec :=
  { bytes := recBytes m.opc status sq 0 m.wrId m.rwin dev info m.len, slice := some m.slice }

/-- An aperture's access ends while an FLR of its domain waits for it: an answer counts in FLR_DISC; a local end (device 255) brings
none. -/
def flrLate (s : State) (h dev : Nat) : State := if dev = 255 then s else s.inc (R.GLB_HD_CNT2 h) F.GLB_HD_CNT2_FLR_DISC 1

/-- A message ends with a status: its slot is free, reads made for it are dropped, packets at the shaper discarded, a record
is due (R380, R382, R383; of an aborted message in every case, R400, R401) unless `lost`, an aperture hears of it. The answer of an access that outlived an FLR of its domain is discarded
and counted (R201, R205). -/
def endMsg (s : State) (slot status : Nat) (loc : Bool) (dev path : Nat) (lost : Bool) : State :=
  match s.msg slot with
  | none => s
  | some m =>
    let s := s.setMsg slot none
    let s := (s.dropReads fun r => match r.pur with | .gather k _ => k == slot | _ => false).shpForget slot
    match m.why with
    | .wqe sq =>
      let s := s.useSub 0 m.slice 1
      if status = 0 && !m.sig && !m.aborting then s
      else if lost then s.inc (R.SLC_CNT_IRQ m.slice) F.SLC_CNT_IRQ_CPL_LOST 1
      else s.recPush m.cq (msgRec m sq status (path % 4 + 4 * b2n loc) (if status = 0 then 0 else dev))
    | .apWrite h _ _ _ => if m.flr then s.flrLate h dev else (s.apEnd m.why status (m.data.get dNil 0)).apDrain h
    | .apRead h _ _ _ _ => if m.flr then s.flrLate h dev else (s.apEnd m.why status (m.data.get dNil 0)).apDrain h
    | .prefetch _ _ _ => s.apEnd m.why status (m.data.get dNil 0)

/-- The path of a message's last try (R382). -/
def lastPath (s : State) (slot : Nat) : Nat := match s.msg slot with | some m => m.path | none => 0

/-! ### Gathering and sending -/

/-- An earlier message of the same send queue is outstanding (R380 FENCE). -/
def fenced (s : State) (m : Msg) : Bool :=
  m.fence && s.msgList.any (fun x => x.2.why == m.why && decide (x.2.no < m.no))

/-- The next local read of an outgoing message: the local window is checked again (R381), and the DMF must allow it
(R199). -/
def gather (s : State) (slot : Nat) : State :=
  match s.msg slot with
  | none => s
  | some m =>
    if m.reading || decide (dataChunks m ≤ m.got) || m.opc == 3 || s.fenced m then s
    else
      let w := m.lwin % 65536
      let c := s.winCheck w (m.lwin / 65536) none 3 m.loff m.len false true
      if c ≠ 0 then s.endMsg slot c true 255 m.path false
      else
        (s.setMsg slot (some { m with reading := true, unit := s.winUnit w })).hostRead (s.winHd w) (s.winBase w + m.loff + 4096 * m.got)
          (min 4096 (m.len - 4096 * m.got)) (s.winPasid w) (.gather slot m.got) (some m.slice) none (some w)

/-- The bytes of a local read arrive: the lane rule it was checked under is applied (R398), and the next read starts or MCRC is known (R374, R379). -/
def gathered (s : State) (slot : Nat) (data : List Byte) : State :=
  match s.msg slot with
  | none => s
  | some m =>
    let b := laneRule m.unit data.length data
    let m := { m with reading := false, data := m.data.put dNil m.got b, got := m.got + 1 }
    let m := if dataChunks m ≤ m.got then { m with mcrc := some (crc32c (wireAll m)) } else m
    (s.setMsg slot (some m)).gather slot

/-- A request packet of a message as it leaves on a path (R376 to R379). -/
def reqPacket (s : State) (slot : Nat) (m : Msg) (k path : Nat) (retx : Bool) : List Byte :=
  let c := k == cancelPkt
  let spec := match m.why with | .prefetch _ _ _ => true | _ => false
  let h := fabHdrNat {
    dst := dstOf m, src := s.ownId, opc := if c then 4 else m.opc, cls := 1, tc := m.tc, retx := retx, spec := spec && !c,
    slice := m.slice, path := path, msg := slot + m.inc * 65536, win := m.rwin % 65536 + m.rwin / 2 ^ 24 * 65536, key := m.rkey,
    woff := m.roff, pidx := if c then 0 else k, mlen := wireLen m - 1,
    mcrc := if m.opc = 3 ∨ c = true then 0 else m.mcrc.getD 0 }
  fabPacket h (if c then [] else wireChunk m k)

/-- Packet k of a message is offered to its shaper on the next path from `p` on. -/
def sendPkt (s : State) (slot k p : Nat) (retx : Bool) (x : TxPkt) : State :=
  match s.msg slot with
  | none => s
  | some m =>
    let r := s.choosePath (dstOf m) p
    let s := r.2.setMsg slot (some { setTxPkt m k { x with st := 1, path := r.1 } with path := r.1 })
    let b := s.reqPacket slot m k r.1 retx
    let s := if retx then s.count 33 2 r.1 1 else s
    s.shpOffer m.slice ⟨b, b.length - 36, some (slot, m.inc, k)⟩

/-- Packets of a message sent and not answered. -/
def unanswered (m : Msg) : Nat := (m.pk.filter fun e => decide (1 ≤ e.2.st ∧ e.2.st ≤ 3)).length

/-- The source sends the next packet of a message (R386, R419, R421). -/
def sendNext (s : State) (slot : Nat) : State :=
  match s.msg slot with
  | none => s
  | some m =>
    if m.aborting || m.withdrawn || s.apFull m || s.fenced m || decide (packetsOf m ≤ m.next) || decide (1024 ≤ unanswered m)
        || !(m.opc == 3 || m.mcrc.isSome) || !decide (s.slcState m.slice = 1 ∨ s.slcState m.slice = 2) then s.gather slot
    else
      let k := m.next
      let s := s.setMsg slot (some { m with next := k + 1 })
      let s := if k + 1 = packetsOf m then s.count 34 1 m.slice 1 else s
      (s.count 34 2 m.slice (wireChunk m k).length).sendPkt slot k (slot + k) false {}

/-! ### Elements (R380, R381) -/

/-- An element that ends before it takes a slot. -/
def wqeFail (s : State) (sq : Nat) (b : List Byte) (status : Nat) (loc : Bool) : State :=
  s.recPush (s.ctxGet 0 sq 14 2 % 32768)
    { bytes := recBytes (fieldAt b 0 1) status sq 0 (fieldAt b 8 8) (fieldAt b 32 4) 255 (4 * b2n loc) (fieldAt b 48 4),
      slice := some (s.ctxSlice 0 sq) }

/-- Whether an element breaks its layout (R380, R381). -/
def wqeBad (b : List Byte) : Bool :=
  let opc := fieldAt b 0 1
  let len := fieldAt b 48 4
  decide (opc = 0 ∨ 3 < opc) || decide (3 < fieldAt b 1 1) || decide (7 < fieldAt b 2 1) || decide (fieldAt b 3 1 ≠ 0)
    || decide (fieldAt b 19 1 ≠ 0) || decide (fieldAt b 20 4 ≠ 0) || decide (fieldAt b 30 2 ≠ 0) || decide (fieldAt b 46 2 ≠ 0)
    || decide (fieldAt b 52 12 ≠ 0) || decide (len = 0) || decide (2 ^ 30 < len + (if opc = 2 then 4 else 0))

/-- The engine may fetch an element of a send queue (R385, R419 to R421). -/
def canFetch (s : State) (sq : Nat) : Bool :=
  let sl := s.ctxSlice 0 sq
  let cq := s.ctxGet 0 sq 14 2 % 32768
  s.ctxEn 0 sq && decide (s.ctxGet 0 sq 16 2 ≠ s.ctxGet 0 sq 18 2) && decide (s.slcState sl = 1) && s.dmfOk (s.slcHd sl)
    && decide (s.useOf 0 sl < s.quotaOf 0 sl) && s.slotLeft
    && !(s.ctxEn 1 cq && !s.cqFits cq)

/-- The engine fetches the element at CI from its place in the ring: it fails, or takes a message slot. -/
def wqeFetch (s : State) (sq : Nat) (b : List Byte) : State :=
  if !s.canFetch sq then s
  else
    let ci := s.ctxGet 0 sq 18 2
    let s := s.emit (.fetched (s.slcHd (s.ctxSlice 0 sq)) (s.ctxGet 0 sq 0 8 + ci % 2 ^ (s.ctxGet 0 sq 8 1 % 16) * 64) 64)
    let s := s.ctxSet 0 sq 18 2 ((ci + 1) % 65536)
    let opc := fieldAt b 0 1
    let w := fieldAt b 16 2
    let lwin := fieldAt b 16 3
    let pdom := s.ctxGet 0 sq 12 2 % 4096
    if wqeBad b then s.wqeFail sq b stBAD_WQE false
    else if s.win w R.WEN_WIN_PROT F.WEN_WIN_PROT_PDOM ≠ pdom then s.wqeFail sq b stPROT_DOMAIN false
    else
      let c := s.winCheck w (fieldAt b 18 1) none (if opc = 3 then 1 else 3) (fieldAt b 24 6) (fieldAt b 48 4) false true
      if c ≠ 0 then s.wqeFail sq b c true
      else if !s.reachable (fieldAt b 34 1) then s.wqeFail sq b stUNREACHABLE false
      else
        let k := s.freeSlot
        (s.newMsg {
          inc := 0, why := .wqe sq, opc := opc, sig := bit (fieldAt b 1 1) 0, fence := bit (fieldAt b 1 1) 1,
          tc := fieldAt b 2 1, imm := fieldAt b 4 4, wrId := fieldAt b 8 8, lwin := lwin, loff := fieldAt b 24 6,
          rwin := fieldAt b 32 4, rkey := fieldAt b 36 4, roff := fieldAt b 40 6, len := fieldAt b 48 4,
          slice := s.ctxSlice 0 sq, cq := s.ctxGet 0 sq 14 2 % 32768, pdom := pdom, no := 0 }).gather k

/-! ### Answers (R387) -/

/-- A packet whose header disagrees with itself, or whose CLASS does not match (R377). -/
def badHeader (k : FabPkt) : Bool :=
  let v := k.hdr.toNat
  let h := fabHdrOf v
  let n := k.payload.length
  let wire := h.mlen + 1
  decide (h.cls ≠ [0, 1, 1, 1, 1, 2, 2, 2].getD h.opc 0) || decide (bits v 42 6 ≠ 0)
    || (decide (5 ≤ h.opc) && decide (h.key / 1024 ≠ 0))
    || (decide (h.opc = 1 ∨ h.opc = 2) && (decide (wire ≤ 4096 * h.pidx) || decide (n ≠ min 4096 (wire - 4096 * h.pidx))))
    || (decide (h.opc = 3) && (decide (wire ≤ 4096 * h.pidx) || decide (n ≠ 0)))
    || (decide (h.opc = 4) && decide (n ≠ 0))

/-- The bytes of a packet as a link carries them. -/
def pktBytes (k : FabPkt) : List Byte := leBytes 32 k.hdr.toNat ++ k.payload ++ leBytes 4 k.crc.toNat

/-- The end-to-end check holds (R379). -/
def pktCrcOk (k : FabPkt) : Bool := decide (crc32c (leBytes 32 k.hdr.toNat ++ k.payload) = k.crc.toNat)

/-- The packet as it stands at the window-engine port, when it does: its number in the sett, no longer waiting there. -/
def takeIn (s : State) (k : FabPkt) : Option Nat × State :=
  match s.wen.inq.find? (fun e => e.2 == pktBytes k) with
  | none => (none, s)
  | some e => (some e.1, s.setWen fun w => { w with inq := w.inq.filter fun x => x.1 != e.1 })

/-- The cells of an arrived packet are free. -/
def freeIn (s : State) (pid : Option Nat) : State := match pid with | some p => s.freePkt p | none => s

/-- An arrived packet that is whole and well made is handled; one whose check fails is rejected (R25), a bad header
counted (R377). In the safe state the engine accepts nothing (R472). -/
def engineIn (s : State) (k : FabPkt) (f : FabHdr → Option Nat → State → State) : State :=
  if s.mode = 7 then s
  else
    let r := s.takeIn k
    if !pktCrcOk k then r.2.freeIn r.1
    else if badHeader k then (r.2.inc R.WEN_CNT1 F.WEN_CNT1_BAD_HDR 1).freeIn r.1
    else f (fabHdrOf k.hdr.toNat) r.1 r.2

/-- The message an answer is for, with its slot. -/
def answered (s : State) (h : FabHdr) : Option (Nat × Msg) :=
  match s.msg (h.msg % 65536) with
  | some m => if m.inc = h.msg / 65536 then some (h.msg % 65536, m) else none
  | none => none

/-- Packet k of a message is answered. -/
def markAnswered (s : State) (slot k : Nat) : State :=
  match s.msg slot with
  | some m => s.setMsg slot (some (setTxPkt m k { txPkt m k with st := 4, naks := 0 }))
  | none => s

/-- An ACK (R387, R400): DONE with status 0 completes a WRITE. -/
def onAck (s : State) (h : FabHdr) : State :=
  match s.answered h with
  | none => s
  | some (slot, m) =>
    let s := (s.pathAnswered h.src h.path h.ece).markAnswered slot h.pidx
    if bit h.key 8 && decide (h.key % 256 = 0) && decide (m.opc ≠ 3) then s.endMsg slot 0 false 0 h.path false else s

/-- A NAK is the CANCEL's (R401): a CANCEL draws no POLICED, carries PIDX 0, and its answer stands on the path it was sent by; a data packet
of an aborted message is not sent again (R400). DEDUCED: which packet a NAK answers is read from these facts (notes/assumptions/133.md). -/
def forCancel (m : Msg) (h : FabHdr) (st : Nat) : Bool :=
  m.aborting && st != stPOLICED && h.pidx == 0 && ((txPkt m 0).st != 2 || h.path == m.cancel.path)

/-- A NAK (R383, R387, R400): a final status ends the message; BUSY and POLICED are retried, and final after 64 in a row. -/
def onNak (s : State) (h : FabHdr) : State :=
  match s.answered h with
  | none => s
  | some (slot, m) =>
    let s := s.pathAnswered h.src h.path h.ece
    let st := h.key % 256
    let k := if forCancel m h st then cancelPkt else h.pidx
    if st = 0 ∨ (m.aborting = true ∧ k ≠ cancelPkt ∧ (st = stBUSY ∨ st = stPOLICED)) then s
    else if st = stBUSY ∨ st = stPOLICED then
      let x := txPkt m k
      if 64 ≤ x.naks + 1 then s.endMsg slot st false h.src h.path false
      else s.setMsg slot (some (setTxPkt m k { x with st := 3, naks := x.naks + 1 }))
    else s.endMsg slot st false h.src h.path false

/-- A READ_DATA chunk (R387; ECE counts in an ACK or a NAK alone): with a matching MCRC it is written to local memory, checked again at that instant (R381), or
kept for an aperture; the last one completes the READ. -/
def onReadData (s : State) (h : FabHdr) (payload : List Byte) : State :=
  match s.answered h with
  | none => s
  | some (slot, m) =>
    let s := s.pathAnswered h.src h.path false
    if m.opc ≠ 3 ∨ packetsOf m ≤ h.pidx ∨ payload.length ≠ min 4096 (m.len - 4096 * h.pidx) ∨ crc32c payload ≠ h.mcrc
        ∨ (txPkt m h.pidx).st = 4 then s
    else
      let fin := fun (s : State) =>
        let s := s.markAnswered slot h.pidx
        match s.msg slot with
        | some m' => if (m'.pk.filter fun e => decide (e.2.st = 4)).length = packetsOf m then s.endMsg slot 0 false 0 h.path false else s
        | none => s
      match m.why with
      | .wqe _ =>
        let w := m.lwin % 65536
        let c := s.winCheck w (m.lwin / 65536) none 1 m.loff m.len false true
        if c ≠ 0 then s.endMsg slot c true 255 h.path false
        else fin (s.emit (.hostWrite (s.winHd w) (s.winBase w + m.loff + 4096 * h.pidx)
          (laneRule (s.winUnit w) payload.length payload) (s.winPasid w)))
      | _ => fin (s.setMsg slot (some { m with data := m.data.put dNil h.pidx payload }))

/-! ### Timers (R387 to R389) and aborts (R400) -/

/-- A packet unanswered for RTO: the packet itself, or packet 0 of a WRITE whose packets are all answered without DONE
(R389). -/
def rtoExpired (s : State) (slot k : Nat) : State :=
  match s.msg slot with
  | none => s
  | some m =>
    let k := if m.aborting then cancelPkt else k
    let x := txPkt m k
    let waits := decide (k = 0 ∧ m.opc ≠ 3 ∧ m.next = packetsOf m ∧ unanswered m = 0 ∧ x.st = 4)
    if m.withdrawn || !(decide (x.st = 2) || waits) then s
    else
      let s := s.pathTimeout (dstOf m) x.path
      if max 1 (s.get R.WEN_RM_CFG F.WEN_RM_CFG_RETRY) ≤ x.tries then
        s.endMsg slot (if m.aborting then stABORTED else stRETRY_EXCEEDED) false 255 x.path false
      else s.sendPkt slot k (x.path + 1) true { x with tries := x.tries + 1 }

/-- A back-off ends: the packet is sent again (R387). -/
def backoffOver (s : State) (slot k : Nat) : State :=
  match s.msg slot with
  | none => s
  | some m =>
    let k := if m.aborting then cancelPkt else k
    let x := txPkt m k
    if x.st = 3 ∧ m.withdrawn = false then s.sendPkt slot k (x.path + 1) true x else s

/-- A write of WEN_ABORT (R400). -/
def abortCmd (m : Nat) (v : Word) (s : State) : State :=
  let s := s.store m R.WEN_ABORT v
  if !won v F.WEN_ABORT_GO then s
  else
    let id := (s.peek m R.WEN_ABORT_ID_LO).toNat + (s.peek m R.WEN_ABORT_ID_HI).toNat * 2 ^ 32
    let sq := wfld v F.WEN_ABORT_SQ
    let res := fun (r : Nat) (s : State) => s.set (ownReg m R.WEN_ABORT_STAT) F.WEN_ABORT_STAT_RESULT r
    match s.msgList.find? (fun x => x.2.why == .wqe sq && decide (x.2.wrId = id)) with
    | none => res 2 s
    | some (slot, x) =>
      let s := res 1 s
      if x.opc = 3 then s.endMsg slot stABORTED false 255 x.path false
      else if x.aborting then s
      else ((s.setMsg slot (some { x with aborting := true })).shpForget slot).sendPkt slot cancelPkt slot false {}

/-! ### Yield of aperture bridges (R205) -/

/-- A request of bridge `a` to domain `b` on this device that has not started a host access there: no write of it has an inbound entry
and no read of it has been accepted. -/
def yields (s : State) (a b : Nat) (slot : Nat) (m : Msg) : Bool :=
  let id := slot + m.inc * 65536
  apOf m == some a && s.apTo m == some b && !m.withdrawn
    && !s.wen.inb.any (fun e => e.src == s.ownId && e.id == id)
    && !s.wen.seen.any (fun e => e.1 == s.ownId && e.2.1 == id)

/-- Bridge `a` withdraws its requests to domain `b`, which stand as not yet sent, while requests of `b` wait for `a` in turn. -/
def apYield (s : State) (a b : Nat) : State :=
  let l := s.msgList.filter fun x => s.yields a b x.1 x.2
  if l.isEmpty || !s.msgList.any (fun x => s.yields b a x.1 x.2) then s
  else
    let s := forAll l (fun x s =>
      (s.setMsg x.1 (some { x.2 with withdrawn := true, next := 0, pk := [] })).shpForget x.1) s
    s.inc (R.GLB_HD_CNT2 a) F.GLB_HD_CNT2_YIELDS 1

/-- A message in its place among messages in the order they were made. -/
def inOrder (x : Nat × Msg) : List (Nat × Msg) → List (Nat × Msg)
  | [] => [x]
  | y :: t => if x.2.no ≤ y.2.no then x :: y :: t else y :: inOrder x t

/-- The withdrawn requests of bridge `a` to domain `b` are reissued in their original order, once the requests of `b` that wait for `a`
have been served, each as an outbound entry of `a` is free (R204); accesses of `a` that wait follow them. -/
def apReissue (s : State) (a b : Nat) : State :=
  if s.msgList.any fun x => s.yields b a x.1 x.2 then s
  else
    let l := s.msgList.filter fun x => x.2.withdrawn && apOf x.2 == some a && s.apTo x.2 == some b
    (forAll (l.foldr inOrder []) (fun x s =>
      if 256 ≤ s.apOut a then s else (s.setMsg x.1 (some { x.2 with withdrawn := false })).sendNext x.1) s).apDrain a

end State

/-! ### The commands -/

/-- WQE_FETCH (R381). -/
def execWqeFetch (sq : Nat) (bytes : List Byte) (s : State) : Res' := runLive (.wqeFetch sq bytes) s fun s => s.wqeFetch sq bytes

/-- SHAPER_RELEASE (R429). -/
def execShaperRelease (sl : Nat) (s : State) : Res' := runLive (.shaperRelease sl) s fun s => s.shpRelease sl

/-- REQUEST_PACKET_SEND (R386). -/
def execRequestPacketSend (slot : Nat) (s : State) : Res' := runLive (.requestPacketSend slot) s fun s => s.sendNext slot

/-- ACK (R387). -/
def execRmAck (pkt : FabPkt) (s : State) : Res' := runLive (.rmAck pkt) s fun s =>
  s.engineIn pkt fun h pid s => (s.freeIn pid).onAck h

/-- NAK (R387). -/
def execRmNak (pkt : FabPkt) (s : State) : Res' := runLive (.rmNak pkt) s fun s =>
  s.engineIn pkt fun h pid s => (s.freeIn pid).onNak h

/-- READ_DATA (R387). -/
def execRmReadData (pkt : FabPkt) (s : State) : Res' := runLive (.rmReadData pkt) s fun s =>
  s.engineIn pkt fun h pid s => (s.freeIn pid).onReadData h pkt.payload

/-- RETRANSMIT_TIMEOUT (R388, R389). -/
def execRetransmitTimeout (slot k : Nat) (s : State) : Res' := runLive (.retransmitTimeout slot k) s fun s => s.rtoExpired slot k

/-- BACKOFF_EXPIRY (R387). -/
def execBackoffExpiry (slot k : Nat) (s : State) : Res' := runLive (.backoffExpiry slot k) s fun s => s.backoffOver slot k

/-- PATH_HOLD_EXPIRY (R388): an excluded path is restored. -/
def execPathHoldExpiry (dst path : Nat) (s : State) : Res' := runLive (.pathHoldExpiry dst path) s fun s =>
  s.setWen fun w => { w with excl := w.excl.upd dNil dst (·.filter (· != path)) }

/-- CQ_RECORD_WRITE (R385). -/
def execCqRecordWrite (cq : Nat) (s : State) : Res' := runLive (.cqRecordWrite cq) s fun s => s.recNext cq

/-- MESSAGE_ABORT (R400). -/
def execMessageAbort (m : Nat) (v : Word) (s : State) : Res' :=
  run (.messageAbort m v) s fun s => s.cmdWrite m R.WEN_ABORT v (State.abortCmd m v)

/-- APERTURE_WRITE (R403). -/
def execApertureWrite (h : Nat) (a : ApWrite) (s : State) : Res' := runLive (.apertureWrite h a) s fun s => s.apWrite h a

/-- APERTURE_READ (R403). -/
def execApertureRead (h : Nat) (a : ApRead) (s : State) : Res' := runLive (.apertureRead h a) s fun s => s.apRead h a

/-- APERTURE_READ_RELEASE (R405): the accesses held go ahead as far as they can. -/
def execApertureReadRelease (h : Nat) (s : State) : Res' := runLive (.apertureReadRelease h) s fun s => s.apDrain h

/-- PREFETCH_EXPIRY (R406). -/
def execPrefetchExpiry (h range chunk : Nat) (s : State) : Res' := runLive (.prefetchExpiry h range chunk) s fun s =>
  s.pfExpire h range chunk

/-- APERTURE_YIELD (R205). -/
def execApertureYield (a b : Nat) (s : State) : Res' := runLive (.apertureYield a b) s fun s => s.apYield a b

/-- APERTURE_REISSUE (R205). -/
def execApertureReissue (a b : Nat) (s : State) : Res' := runLive (.apertureReissue a b) s fun s => s.apReissue a b

end Sys2Proof.Machine
end

