-- ==== Sys2Proof/Machine/Target.lean ====
section
/-! DEFINITION. The target side of remote memory (R373, R377, R390 to R395, R401), windows and their revocation (R372, R396,
R397), queue and aperture contexts (R407), doorbells (R181, R423, R424). From 11_remote_memory.md and 12_slices_qos.md. -/

namespace Sys2Proof.Machine

namespace State

/-! ### Answers -/

/-- An answer to a request packet (R376). READ_DATA passes the slice's shaper, ACK and NAK do not (R429). -/
def reply (s : State) (h : FabHdr) (opc status : Nat) (done wide : Bool) (slice : Option Nat) (payload : List Byte) : State :=
  let s :=
    if opc = 6 then
      let s := s.count 33 3 status 1
      if status = stBUSY then s.inc R.WEN_CNT1 F.WEN_CNT1_BUSY_NAK 1
      else if status = stPOLICED then s.inc R.WEN_CNT1 F.WEN_CNT1_POL_NAK 1 else s
    else s
  let b := fabPacket (fabHdrNat {
    dst := h.src, src := s.ownId, opc := opc, cls := 2, tc := h.tc, ece := h.cm, slice := h.slice, path := h.path, msg := h.msg,
    win := h.win, key := status + 256 * b2n done + 512 * b2n wide, woff := h.woff, pidx := h.pidx, mlen := h.mlen,
    mcrc := if opc = 7 then crc32c payload else 0 }) payload
  match slice with
  | some sl => if opc = 7 then s.shpOffer sl ⟨b, payload.length, none⟩ else s.ownPacket 129 25 h.tc sl 0 0 b
  | none => s.ownPacket 129 25 h.tc 0xFFFF 0 0 b

def ack (s : State) (h : FabHdr) (done : Bool) (slice : Option Nat) : State := s.reply h 5 0 done false slice []
def nak (s : State) (h : FabHdr) (status : Nat) (slice : Option Nat) : State :=
  s.reply h 6 status false (decide (status = stCHECK_FAILED)) slice []

/-! ### Inbound entries (R390 to R394) -/

def inbGet (s : State) (src id : Nat) : Option Inb := s.wen.inb.find? fun e => e.src == src && e.id == id
def inbDrop (s : State) (src id : Nat) : State :=
  s.setWen fun w => { w with inb := w.inb.filter fun e => !(e.src == src && e.id == id) }
def inbPut (s : State) (e : Inb) : State := (s.inbDrop e.src e.id).setWen fun w => { w with inb := w.inb ++ [e] }

/-- An open entry leaves the open state: 1 DONE, 2 ENDED with a status; its bytes are forgotten and the quota has it back. -/
def inbClose (s : State) (e : Inb) (st status : Nat) : State :=
  if e.st ≠ 0 then s else (s.inbPut { e with st := st, status := status, data := [] }).useSub 1 e.slice 1

/-- A message all of whose packets are written completes (R391): the check, the NOTIFY record, DONE; or draws BUSY while its
record does not fit (R385). -/
def inbComplete (s : State) (e : Inb) (h : FabHdr) : State :=
  let wire := (upTo ((e.wire + 4095) / 4096)).flatMap (e.data.get dNil)
  if crc32c wire ≠ e.mcrc then
    ((s.inbClose e 2 stCHECK_FAILED).raise 0xB0 0x20 (some e.slice) (some e.woff) e.win).nak h stCHECK_FAILED (some e.slice)
  else
    let fin := fun (s : State) => ((s.inbClose e 1 0).count 34 3 e.slice 1).ack h true (some e.slice)
    if e.opc = 2 then
      let cq := s.get (R.SLC_NCQ e.slice) F.SLC_NCQ_NCQ
      if s.on (R.SLC_NCQ e.slice) F.SLC_NCQ_EN && (s.wen.held.get dNil cq).isEmpty && s.cqFits cq
          && s.dmfOk (s.slcHd (s.ctxSlice 1 cq)) then
        let n := e.wire - 4
        fin (s.recWrite cq (recBytes 8 0 e.rslice (fieldAt wire n 4) 0 (s.winHandle e.win) e.src 0 n))
      else s.nak h stBUSY (some e.slice)
    else fin s

/-- A WRITE or WRITE_NOTIFY packet (R373, R390, R392). -/
def onWrite (s : State) (h : FabHdr) (payload : List Byte) (pid : Option Nat) : State :=
  let w := h.win % 65536
  let old := s.inbGet h.src h.msg
  let stop := fun (s : State) => s.freeIn pid
  match old with
  | some ⟨_, _, 1, sl, _, _, _, _, _, _, _, _, _⟩ => stop (s.ack h true (some sl))
  | some ⟨_, _, 2, sl, _, _, _, _, _, _, _, _, st⟩ => stop (s.nak h st (some sl))
  | _ =>
    let wire := h.mlen + 1
    let len := if h.opc = 2 then wire - 4 else wire
    let c := s.winCheck w (h.win / 65536) (some h.key) h.opc h.woff len false old.isSome
    let sl := s.winSlice w
    let no := fun (c : Nat) (s : State) =>
      let s := match old with | some e => if c = stBUSY ∨ c = stPOLICED then s else s.inbClose e 2 c | none => s
      stop (s.nak h c sl)
    if c ≠ 0 then no c s
    else
      let k := sl.getD 0
      match s.police k payload.length with
      | (false, s) => no stPOLICED s
      | (true, s) =>
        let n := cellsOf (payload.length + 36)
        match old with
        | some e =>
          if e.got.contains h.pidx then
            stop (if e.got.length = (e.wire + 4095) / 4096 then s.inbComplete e h else s.ack h false (some k))
          else if s.quotaOf 2 k < s.useOf 2 k + n then no stBUSY s
          else
            let i := s.wen.nextId
            let dup := s.wen.wrs.any fun x => bits x.hdr 48 24 == h.msg && bits x.hdr 8 8 == h.src && bits x.hdr 176 18 == h.pidx
            let d := if dup then [] else laneRule (s.winUnit w) payload.length (payload.take (len - 4096 * h.pidx))
            (s.useAdd 2 k n).setWen fun x => { x with nextId := i + 1, wrs := x.wrs ++
              [⟨i, fabHdrNat h, k, w, s.winHd w, s.winBase w + h.woff + 4096 * h.pidx, d, payload, s.winPasid w, pid⟩] }
        | none =>
          if 65536 ≤ s.wen.inb.length ∨ s.quotaOf 1 k ≤ s.useOf 1 k ∨ s.quotaOf 2 k < s.useOf 2 k + n then no stBUSY s
          else
            let i := s.wen.nextId
            let e : Inb := { src := h.src, id := h.msg, st := 0, slice := k, win := w, opc := h.opc, wire := wire, woff := h.woff,
                             mcrc := h.mcrc, rslice := h.slice }
            let d := laneRule (s.winUnit w) payload.length (payload.take (len - 4096 * h.pidx))
            (((s.inbPut e).useAdd 1 k 1).useAdd 2 k n).setWen fun x => { x with nextId := i + 1, wrs := x.wrs ++
              [⟨i, fabHdrNat h, k, w, s.winHd w, s.winBase w + h.woff + 4096 * h.pidx, d, payload, s.winPasid w, pid⟩] }

/-- The host writes of an accepted packet are issued (R390, R399): ACK, or the message completes. -/
def writeIssued (s : State) (id : Nat) : State :=
  match s.wen.wrs.find? (fun x => x.id == id) with
  | none => s
  | some x =>
    let h := fabHdrOf x.hdr
    let s := (s.setWen fun w => { w with wrs := w.wrs.filter fun y => y.id != id }).useSub 2 x.slice (cellsOf (x.wire.length + 36))
    let s := s.freeIn x.pid
    if !s.dmfOk x.hd then
      let s := match s.inbGet h.src h.msg with | some e => s.inbClose e 2 stHOST_ACCESS_DISABLED | none => s
      s.nak h stHOST_ACCESS_DISABLED (some x.slice)
    else
      let s := if x.bytes.isEmpty then s else (s.emit (.hostWrite x.hd x.addr x.bytes x.pasid)).count 34 4 x.slice x.bytes.length
      match s.inbGet h.src h.msg with
      | none => s.ack h false (some x.slice)
      | some e =>
        if e.st = 1 then s.ack h true (some x.slice)
        else if e.st = 2 then s.nak h e.status (some x.slice)
        else
          let e := if e.got.contains h.pidx then e else { e with got := e.got ++ [h.pidx], data := e.data.put dNil h.pidx x.wire }
          let s := s.inbPut e
          if e.got.length = (e.wire + 4095) / 4096 then s.inbComplete e h else s.ack h false (some x.slice)

/-- The slice of this device's aperture access that a READ serves (R416); none for an element or another device. -/
def apCharge (s : State) (h : FabHdr) : Option Nat :=
  if h.src = s.ownId then (match s.answered h with | some (_, m) => if (apOf m).isSome then some m.slice else none | none => none) else none

/-- A READ packet (R395): checked against the whole message, its chunk read from host memory. A retransmission of a packet
seen before is the duplicate that counts. -/
def onRead (s : State) (h : FabHdr) (pid : Option Nat) : State :=
  let s := s.freeIn pid
  let w := h.win % 65536
  let len := h.mlen + 1
  let c := s.winCheck w (h.win / 65536) (some h.key) 3 h.woff len h.spec false
  let sl := s.winSlice w
  if c ≠ 0 then s.nak h c sl
  else
    let k := sl.getD 0
    let n := min 4096 (len - 4096 * h.pidx)
    match s.police k n with
    | (false, s) => s.nak h stPOLICED sl
    | (true, s) =>
      let key := (h.src, h.msg, h.pidx)
      let s := if h.retx && s.wen.seen.contains key && decide (s.win w R.WEN_WIN_CTL F.WEN_WIN_CTL_PF = 0)
        then s.inc R.WEN_CNT0 F.WEN_CNT0_DUP_SE 1 else s
      let i := s.wen.nextId
      (s.setWen fun x => { x with
        nextId := i + 1, seen := if x.seen.contains key then x.seen else x.seen ++ [key]
        rds := x.rds ++ [⟨i, fabHdrNat h, k, w, s.winUnit w⟩] }).hostRead (s.winHd w) (s.winBase w + h.woff + 4096 * h.pidx) n
          (s.winPasid w) (.inbound i) (some k) (s.apCharge h) (some w)

/-- The host read of an inbound READ ends (R395, R383): READ_DATA, or HOST_ERROR. -/
def readServed (s : State) (id : Nat) (st : CplStatus) (data : List Byte) : State :=
  match s.wen.rds.find? (fun x => x.id == id) with
  | none => s
  | some x =>
    let s := s.setWen fun w => { w with rds := w.rds.filter fun y => y.id != id }
    let h := fabHdrOf x.hdr
    if st = .sc then s.reply h 7 0 false false (some x.slice) (laneRule x.unit data.length data)
    else s.nak h stHOST_ERROR (some x.slice)

/-- A CANCEL (R401): only the entry counts. -/
def onCancel (s : State) (h : FabHdr) (pid : Option Nat) : State :=
  let s := s.freeIn pid
  match s.inbGet h.src h.msg with
  | some e =>
    if e.st = 1 then s.ack h true (some e.slice)
    else (s.inbClose e 2 stABORTED).nak h stABORTED (some e.slice)
  | none =>
    let sl := s.winSlice (h.win % 65536)
    if 65536 ≤ s.wen.inb.length then s.nak h stBUSY sl
    else (s.inbPut { src := h.src, id := h.msg, st := 2, slice := sl.getD 0xFFFF, win := h.win % 65536, opc := 1, wire := h.mlen + 1,
                     woff := h.woff, mcrc := 0, rslice := h.slice, status := stABORTED }).nak h stABORTED sl

/-! ### Windows (R372, R396, R397) -/

/-- A revoke starts: REVOKING, behind what was checked before. -/
def revokeStart (s : State) (w cq : Nat) (sl : Option Nat) : State :=
  ((s.setWin w R.WEN_WIN_CTL F.WEN_WIN_CTL_STATE 2).setWin w R.WEN_WIN_CMD F.WEN_WIN_CMD_BUSY 1).setWen fun x =>
    { x with revoking := x.revoking ++ [(w, cq, sl)] }

/-- A write of WEN_WIN_CMD for the window selected on a path. -/
def winCmd (m : Nat) (v : Word) (s : State) : State :=
  let w := s.get (ownReg m R.WEN_WIN_SEL) F.WEN_WIN_SEL_IDX
  let s := s.store m R.WEN_WIN_CMD v
  let res := fun (r : Nat) (s : State) => s.setWin w R.WEN_WIN_CMD F.WEN_WIN_CMD_RESULT r
  let op := wfld v F.WEN_WIN_CMD_OP
  if op = 1 then
    (if s.winState w = 0 then
       res 0 ((s.setWin w R.WEN_WIN_PROT F.WEN_WIN_PROT_GEN ((s.win w R.WEN_WIN_PROT F.WEN_WIN_PROT_GEN + 1) % 256)).setWin w
         R.WEN_WIN_CTL F.WEN_WIN_CTL_STATE 1)
     else res 1 s)
  else if op = 2 then
    (if s.winState w ≠ 1 then res 1 s
     else if 256 ≤ s.wen.revoking.length then res 2 s
     else (res 0 s).revokeStart w (wfld v F.WEN_WIN_CMD_CQ) none)
  else s

/-- An access checked against a window before its revoke has not yet ended (R396 step 3): a host write to be issued, a host read that has
not completed, whatever has become of the message it was for. -/
def winBusy (s : State) (w : Nat) : Bool :=
  s.wen.wrs.any (fun x => x.win == w) || s.wen.rds.any (fun x => x.win == w)
    || s.msgList.any (fun x => x.2.reading && x.2.lwin % 65536 == w)
    || s.doms.any (fun e => e.2.reads.any fun r => r.win == some w)

/-- The drain marker passes (R396 steps 4 and 5). -/
def revokeDone (s : State) (w : Nat) : State :=
  match s.wen.revoking.find? (fun x => x.1 == w) with
  | none => s
  | some (_, cq, _) =>
    if s.winBusy w then s
    else
      let s := (s.setWin w R.WEN_WIN_CTL F.WEN_WIN_CTL_STATE 0).setWin w R.WEN_WIN_CMD F.WEN_WIN_CMD_BUSY 0
      let s := s.setWen fun x => { x with revoking := x.revoking.filter fun y => y.1 != w }
      let s := forAll (s.wen.inb.filter fun e => e.st == 0 && e.win == w) (fun e s => s.inbClose e 2 stWINDOW_CLOSED) s
      if cq ≠ 0x7FFF ∧ s.ctxEn 1 cq = true then s.recPush cq { bytes := recBytes 9 0 0 0 0 (s.winHandle w) 0 0 0, slice := none } else s

/-- A slice-reset revoke that waited for a place starts (R397). -/
def revokeNext (s : State) : State :=
  match s.wen.revWait with
  | [] => s
  | (w, sl) :: rest =>
    if 256 ≤ s.wen.revoking.length then s
    else
      let s := s.setWen fun x => { x with revWait := rest }
      if s.winState w = 1 then s.revokeStart w 0x7FFF (some sl) else s

/-! ### Contexts (R407) -/

/-- A commit of the staged record. -/
def ctxCommit (m ty idx : Nat) (s : State) : State :=
  let b := (upTo 8).flatMap fun k => leBytes 4 (s.rd (ownReg m (R.WEN_CTX_DATA k))).toNat
  let ref := fun (r : Nat) (s : State) => s.set (ownReg m R.WEN_CTX_SEL) F.WEN_CTX_SEL_REF r
  let put := fun (b : List Byte) (s : State) => s.setWen fun w => { w with ctx := w.ctx.put dNil (ty * 65536 + idx) b }
  if ty = 3 ∨ (ty < 2 ∧ 32768 ≤ idx) ∨ (ty = 2 ∧ 4096 ≤ idx) then ref 1 s
  else if ty = 2 then ref 0 (put b s)
  else if s.ctxEn ty idx then
    ref 0 (s.ctxSet ty idx 8 1 (s.ctxGet ty idx 8 1 % 128 + fieldAt b 8 1 / 128 * 128))
  else
    let log := if ty = 0 then fieldAt b 8 1 % 16 else fieldAt b 8 1 % 32
    if log < (if ty = 0 then 6 else 4) ∨ (if ty = 0 then 15 else 16) < log then ref 1 s
    else
      let at_ := if ty = 0 then 16 else 12
      let s := put (b.take at_ ++ [0, 0, 0, 0] ++ b.drop (at_ + 4)) s
      ref 0 (if ty = 1 ∧ bit (fieldAt b 8 1) 7 = true then s.setWen fun w => { w with pass := w.pass.put (fun _ => false) idx true } else s)

/-- A write of WEN_CTX_SEL. -/
def ctxCmd (m : Nat) (v : Word) (s : State) : State :=
  let s := s.store m R.WEN_CTX_SEL v
  let ty := wfld v F.WEN_CTX_SEL_TYPE
  let idx := wfld v F.WEN_CTX_SEL_IDX
  if won v F.WEN_CTX_SEL_GO then s.ctxCommit m ty idx
  else if won v F.WEN_CTX_SEL_READ then
    forAll (upTo 8) (fun k s => s.wr (ownReg m (R.WEN_CTX_DATA k)) (BitVec.ofNat 32 (s.ctxGet ty idx (4 * k) 4))) s
  else s

/-! ### Doorbells (R181, R201, R419, R423, R424) -/

/-- A doorbell write to page `page` by the host of a domain; `cq` says which of the two doorbells, none for an offset, size or
alignment that is neither. -/
def doorbell (s : State) (h page : Nat) (cq : Option Bool) (v : Word) : State :=
  if s.doorsShut = true ∨ s.hdState h = 0 ∨ s.hdState h = 1 then s
  else
  let s := s.wakeIsland 28
  let st := s.slcState page
  let bad := s.inc (R.SLC_CNT_DB page) F.SLC_CNT_DB_DB_BAD 1
  if st = 0 ∨ s.slcHd page ≠ h then s.inc (R.GLB_HD_STAT h) F.GLB_HD_STAT_DB_FOREIGN 1
  else if s.hdState h = 3 then s
  else match cq with
  | none => bad
  | some c =>
    if 4 ≤ st then s.inc (R.SLC_CNT_DB page) F.SLC_CNT_DB_DB_OFF 1
    else
      let q := bits v.toNat 0 15
      let i := bits v.toNat 16 16
      let ty := b2n c
      if s.ctxSlice ty q ≠ page ∨ s.ctxEn ty q = false then bad
      else if c then
        (if (s.ctxGet 1 q 12 2 + 65536 - i) % 65536 ≤ s.cqCap q then s.ctxSet 1 q 14 2 i else bad)
      else if (i + 65536 - s.ctxGet 0 q 18 2) % 65536 ≤ 2 ^ (s.ctxGet 0 q 8 1 % 16) then s.ctxSet 0 q 16 2 i
      else bad

end State

/-! ### The commands -/

/-- WINDOW_OPEN (R372). -/
def execWindowOpen (m : Nat) (v : Word) (s : State) : Res' :=
  run (.windowOpen m v) s fun s => s.cmdWrite m R.WEN_WIN_CMD v (State.winCmd m v)

/-- WINDOW_REVOKE (R396). -/
def execWindowRevoke (m : Nat) (v : Word) (s : State) : Res' :=
  run (.windowRevoke m v) s fun s => s.cmdWrite m R.WEN_WIN_CMD v (State.winCmd m v)

/-- REVOKE_SLOT_START (R397). -/
def execRevokeSlotStart (s : State) : Res' := runLive .revokeSlotStart s fun s => s.revokeNext

/-- REVOKE_DRAIN_DONE (R396). -/
def execRevokeDrainDone (w : Nat) (s : State) : Res' := runLive (.revokeDrainDone w) s fun s => s.revokeDone w

/-- WINDOW_FENCE (R399): the read returns 0 once no write checked before it waits to be issued, and is held until then. -/
def execWindowFence (m : Nat) (s : State) : Res' :=
  run (.windowFence m) s fun s => s.checked (.word m false R.WEN_FENCE 0) fun s => s.fenceWord m R.WEN_FENCE

/-- SQ_DOORBELL (R423, R424). -/
def execSqDoorbell (h page : Nat) (v : Word) (s : State) : Res' :=
  run (.sqDoorbell h page v) s fun s => s.doorbell h page (some false) v

/-- CQ_DOORBELL (R423, R424). -/
def execCqDoorbell (h page : Nat) (v : Word) (s : State) : Res' :=
  run (.cqDoorbell h page v) s fun s => s.doorbell h page (some true) v

/-- WRITE (R390). -/
def execRmWrite (pkt : FabPkt) (s : State) : Res' := runLive (.rmWrite pkt) s fun s =>
  s.engineIn pkt fun h pid s => s.onWrite h pkt.payload pid

/-- WRITE_NOTIFY (R390, R391). -/
def execRmWriteNotify (pkt : FabPkt) (s : State) : Res' := runLive (.rmWriteNotify pkt) s fun s =>
  s.engineIn pkt fun h pid s => s.onWrite h pkt.payload pid

/-- READ (R395). -/
def execRmRead (pkt : FabPkt) (s : State) : Res' := runLive (.rmRead pkt) s fun s =>
  s.engineIn pkt fun h pid s => s.onRead h pid

/-- CANCEL (R401). -/
def execRmCancel (pkt : FabPkt) (s : State) : Res' := runLive (.rmCancel pkt) s fun s =>
  s.engineIn pkt fun h pid s => s.onCancel h pid

/-- HOST_WRITE_ISSUED (R390). -/
def execHostWriteIssued (id : Nat) (s : State) : Res' := runLive (.hostWriteIssued id) s fun s => s.writeIssued id

/-- RETAIN_EXPIRY (R392): a DONE or ENDED entry is released. -/
def execRetainExpiry (src msgId : Nat) (s : State) : Res' := runLive (.retainExpiry src msgId) s fun s =>
  match s.inbGet src msgId with
  | some e => if e.st = 0 then s else s.inbDrop src msgId
  | none => s

/-- INBOUND_IDLE_TIMEOUT (R394): an open entry is released and counted. -/
def execInboundIdleTimeout (src msgId : Nat) (s : State) : Res' := runLive (.inboundIdleTimeout src msgId) s fun s =>
  match s.inbGet src msgId with
  | some e =>
    if e.st = 0 then ((s.inbDrop src msgId).useSub 1 e.slice 1).inc R.WEN_CNT0 F.WEN_CNT0_IDLE_FREE 1 else s
  | none => s

/-- CONTEXT_COMMIT (R407). -/
def execContextCommit (m : Nat) (v : Word) (s : State) : Res' :=
  run (.contextCommit m v) s fun s => s.cmdWrite m R.WEN_CTX_SEL v (State.ctxCmd m v)

/-- CONTEXT_READ (R407). -/
def execContextRead (m : Nat) (v : Word) (s : State) : Res' :=
  run (.contextRead m v) s fun s => s.cmdWrite m R.WEN_CTX_SEL v (State.ctxCmd m v)

end Sys2Proof.Machine
end

