-- ==== Sys2Proof/Machine/Slices.lean ====
section
/-! DEFINITION. Slices: their commands and states (R410 to R418), interrupt entries (R425 to R428), commits of shapers and
policers (R431). From 12_slices_qos.md. -/

namespace Sys2Proof.Machine

namespace State

/-! ### Transitions -/

def slcSet (s : State) (k : Nat) (f : Fld) (v : Nat) : State := s.set (R.SLC_STATE k) f v

/-- The SLICE event of a transition that no command made (R585). -/
def slcEvent (s : State) (k : Nat) : State :=
  s.hostEvent (s.slcHd k) 0x04 [] s.now (leBytes 2 k ++ leBytes 1 (s.slcState k) ++ leBytes 1 (s.get (R.SLC_STATE k) F.SLC_STATE_CAUSE))

/-- The open windows of a slice (R409), lowest first. -/
def slcWindows (s : State) (k : Nat) : List Nat :=
  (s.regs.filterMap fun e =>
    if 64 * csrSpan ≤ e.1 ∧ e.1 % csrSpan = R.WEN_WIN_CTL ∧ fldOf e.2 F.WEN_WIN_CTL_STATE = 1 then some (e.1 / csrSpan - 64) else none).filter
    fun w => s.winSlice w == some k

/-- A slice enters RESETTING (R417 steps 1 to 6). The interrupt writes of entries that have fired are issued before it. -/
def slcReset (s : State) (k cause : Nat) : State :=
  let s := (((s.slcSet k F.SLC_STATE_STATE 6).slcSet k F.SLC_STATE_BUSY 1).inc (R.SLC_STATE k) F.SLC_STATE_RESETS 1).slcSet k
    F.SLC_STATE_CAUSE cause
  let s := forAll (upTo 4) (fun i s => s.irqIssue k i) s
  let s := forAll (s.slcWindows k) (fun w s =>
    if s.wen.revoking.length < 256 then s.revokeStart w 0x7FFF (some k)
    else s.setWen fun x => { x with revWait := x.revWait ++ [(w, k)] }) s
  let s := s.setWen fun x => { x with
    ctx := x.ctx.mapAll dNil fun a b =>
      if a < 131072 ∧ fieldAt b 9 2 % 4096 = k then b.take 8 ++ leBytes 1 (fieldAt b 8 1 % 128) ++ b.drop 9 else b
    inb := x.inb.filter fun e => !(e.slice == k && e.st != 0) }
  let s := s.resetFields (fun a => decide (R.SLC_CMD k ≤ a) && decide (a < R.SLC_CMD k + 0x100)) sliceKinds
  let full := fun (b : Bucket) => { b with tok := Int.ofNat (mantExp b.burst * 8000), last := s.now }
  ((s.setShaper k (full (s.shaper k))).setPolicer k (full (s.policer k))).showTokens k

/-- A slice enters STOPPING (R416 steps 1 to 4); `lost` when no record can be written (R418). An aperture access that an FLR waits for
goes on (R205). -/
def slcStop (s : State) (k cause : Nat) (lost : Bool) : State :=
  let s := ((s.slcSet k F.SLC_STATE_STATE 4).slcSet k F.SLC_STATE_BUSY 1).slcSet k F.SLC_STATE_CAUSE cause
  let s := s.setWen fun w => { w with shq := w.shq.put dNil k [] }
  let s := forAll (s.msgList.filter fun x => x.2.slice == k && !x.2.flr) (fun x s => s.endMsg x.1 stSLICE_DISABLED false 255 x.2.path lost) s
  let s := forAll (s.wen.apQ.map (·.1)) (fun h s => s.apStop h k) s
  let s := forAll (s.wen.inb.filter fun e => e.slice == k && e.st == 0) (fun e s => s.inbClose e 2 stSLICE_DISABLED) s
  let s := forAll (s.wen.wrs.filter fun x => x.slice == k) (fun x s =>
    (s.useSub 2 k (cellsOf (x.wire.length + 36))).freeIn x.pid) s
  let s := s.setWen fun w => { w with wrs := w.wrs.filter fun x => x.slice != k, rds := w.rds.filter fun x => x.slice != k }
  s.dropReads fun r => r.slice == some k

/-- Records of a slice that wait for their CQs are counted as lost. -/
def recsLost (s : State) (k : Nat) (p : State → Nat → Bool) : State :=
  forAll (s.wen.held.map (·.1)) (fun cq s =>
    if p s cq then
      let n := ((s.wen.held.get dNil cq).filter fun r => r.slice == some k).length
      (s.setWen fun w => { w with held := w.held.upd dNil cq fun l => l.filter fun r => r.slice != some k }).inc (R.SLC_CNT_IRQ k)
        F.SLC_CNT_IRQ_CPL_LOST n
    else s) s

/-- The containment of a slice (R412). -/
def slcContain (s : State) (k : Nat) : State :=
  let st := s.slcState k
  if st = 1 ∨ st = 2 then ((s.slcStop k 2 false).setSlc k fun x => { x with contained := true }).slcEvent k
  else if st = 3 then ((s.slcSet k F.SLC_STATE_STATE 5).slcSet k F.SLC_STATE_BUSY 0).slcSet k F.SLC_STATE_CAUSE 2
  else if st = 4 ∨ st = 6 then (s.setSlc k fun x => { x with contained := true }).slcSet k F.SLC_STATE_CAUSE 2
  else if st = 5 then s.slcSet k F.SLC_STATE_CAUSE 2
  else s

/-- A domain reset of R418 on one slice, with the cause it records (1, or 2 for the containments of R459); a containment that came
before keeps its own. -/
def slcDomainReset (s : State) (k cause : Nat) : State :=
  let st := s.slcState k
  if st = 1 ∨ st = 2 then (s.slcStop k cause true).setSlc k fun x => { x with reset := true }
  else if st = 3 ∨ st = 5 then (s.slcReset k cause).slcEvent k
  else
    let why := fun (s : State) => if (s.slc k).contained then s else s.slcSet k F.SLC_STATE_CAUSE cause
    if st = 4 then (why (s.setSlc k fun x => { x with reset := true })).recsLost k fun _ _ => true
    else if st = 6 then why s
    else s

/-- Every slice of a domain that is not FREE (R418). -/
def slcsReset (s : State) (h cause : Nat) : State :=
  forAll (s.liveSlices.filter fun k => s.slcHd k == h) (fun k s => s.slcDomainReset k cause) s

/-- QUIESCING ends at the first instant with nothing in flight (R413). -/
def slcQuiesced (s : State) (k : Nat) : State :=
  if s.slcState k = 2 ∧ s.useOf 0 k = 0 ∧ (s.wen.inb.any fun e => e.slice == k && e.st == 0) = false
      ∧ (s.msgList.any fun x => x.2.slice == k && (x.2.withdrawn || apHolds x.2)) = false then s.slcSet k F.SLC_STATE_STATE 3
  else s

/-- STOPPING completes once every record is written or lost and no host read is charged to the slice (R411, R416). -/
def slcStopped (s : State) (k : Nat) : State :=
  if s.slcState k ≠ 4 then s
  else if s.doms.any (fun e => e.2.reads.any fun r => r.slice == some k || r.also == some k) then s
  else
    let s := s.recsLost k fun s cq => !(s.cqFits cq && s.dmfOk (s.slcHd (s.ctxSlice 1 cq)))
    if s.wen.held.any (fun e => e.2.any fun r => r.slice == some k) then s
    else
      let x := s.slc k
      if x.contained || (!x.reset && decide (x.op ≠ 5)) then
        ((s.slcSet k F.SLC_STATE_STATE 5).slcSet k F.SLC_STATE_BUSY 0).setSlc k fun _ => {}
      else
        let s := s.slcReset k (s.get (R.SLC_STATE k) F.SLC_STATE_CAUSE)
        if x.reset then s.slcEvent k else s

/-- Registers of a slice's entry return to their reset values, but for those `keep` names. -/
def slcClear (s : State) (lo hi : Nat) (keep : Nat → Bool) : State :=
  s.resetFields (fun a => decide (lo ≤ a) && decide (a < hi) && !keep a) warmKinds

/-- RESETTING completes once its revokes have (R411, R412, R417). -/
def slcResetDone (s : State) (k : Nat) : State :=
  if s.slcState k ≠ 6 then s
  else if s.wen.revoking.any (fun x => x.2.2 == some k) || s.wen.revWait.any (fun x => x.2 == k) then s
  else
    let x := s.slc k
    let s := s.setSlc k fun _ => {}
    let s := if x.op = 6 then (s.wr (R.SLC_ID k) x.arg).slcClear (R.SLC_IRQ_ADDR_LO k 0) (R.SLC_CNT_DB k) fun _ => false else s
    if x.contained then (s.slcSet k F.SLC_STATE_STATE 5).slcSet k F.SLC_STATE_BUSY 0
    else if x.op = 8 then
      let lost := s.get (R.SLC_CNT_IRQ k) F.SLC_CNT_IRQ_CPL_LOST
      (s.slcClear (R.SLC_CMD k) (R.SLC_CMD k + 0x100) fun _ => false).set (R.SLC_CNT_IRQ k) F.SLC_CNT_IRQ_CPL_LOST lost
    else (s.slcSet k F.SLC_STATE_STATE 3).slcSet k F.SLC_STATE_BUSY 0

/-! ### Commands (R414, R415) -/

/-- Whether a master may issue a command (R415). -/
def slcMay (s : State) (m k op : Nat) : Bool :=
  if m < 4 ∨ m = 10 then true
  else decide (16 ≤ m) && decide (m < 32) && decide (2 ≤ op ∧ op ≤ 6) && decide (s.slcHd k = m - 16)

/-- Whether the state allows a command (R411). -/
def slcAllows (st op : Nat) (force : Bool) : Bool :=
  match op with
  | 1 => st == 0
  | 2 => st == 1
  | 3 => st == 3
  | 4 => st == 3 || (force && (st == 1 || st == 2))
  | 5 => st == 3 || st == 5 || (force && (st == 1 || st == 2))
  | 6 => st == 3 || st == 5
  | 7 => st != 0
  | 8 => st == 3 || st == 5
  | _ => false

/-- Whether the identity in SLC_ARG can be taken (R414, ERR 4): no other slice holds it, or takes it by a REASSIGN in progress. -/
def slcArgOk (s : State) (k : Nat) : Bool :=
  let w := s.rd (R.SLC_ARG k)
  let hd := fldOf w F.SLC_ARG_HD
  let same := fun (i : Word) => decide (fldOf i F.SLC_ID_HD = hd) && decide (fldOf i F.SLC_ID_PASID_EN = fldOf w F.SLC_ARG_PASID_EN)
    && (decide (fldOf w F.SLC_ARG_PASID_EN = 0) || decide (fldOf i F.SLC_ID_PASID = fldOf w F.SLC_ARG_PASID))
  (s.dom hd).on
    && !(s.liveSlices.any fun j => j != k && (same (s.rd (R.SLC_ID j)) || ((s.slc j).op == 6 && same (s.slc j).arg)))

/-- The three quota registers take effect together (R421, R422). -/
def slcQuotas (s : State) (k : Nat) : State :=
  let q := fun (a lo hi : Nat) => clampTo lo hi (s.get a F.SLC_Q_SRC_QUOTA)
  let a := q (R.SLC_Q_SRC k) 1 65536
  let b := q (R.SLC_Q_INB k) 0 65536
  let c := q (R.SLC_Q_CELL k) 17 524288
  s.setWen fun w => { w with quota := ((w.quota.put dZero (k * 4) a).put dZero (k * 4 + 1) b).put dZero (k * 4 + 2) c }

/-- A command written to SLC_CMD: the checks of R414 in their order, then its transition. A slice whose domain is LATCHED stays contained
until CLEAR (R467, R473): CREATE leaves it DISABLED (notes/assumptions/128.md). -/
def slcCmd (m k op : Nat) (force : Bool) (s : State) : State :=
  let err := fun (e : Nat) => s.slcSet k F.SLC_STATE_ERR e
  let st := s.slcState k
  if op = 0 then s
  else if 8 < op then err 5
  else if s.on (R.SLC_STATE k) F.SLC_STATE_BUSY then err 2
  else if !s.slcMay m k op then err 3
  else if !slcAllows st op force then err 1
  else if (op = 1 ∨ op = 6) ∧ s.slcArgOk k = false then err 4
  else
    let s := err 0
    let go := fun (s : State) => s.setSlc k fun _ => { op := op, arg := s.rd (R.SLC_ARG k) }
    match op with
    | 1 =>
      let s := (s.wr (R.SLC_ID k) (s.rd (R.SLC_ARG k))).slcQuotas k
      if s.latched 1 k then (s.slcSet k F.SLC_STATE_STATE 5).slcSet k F.SLC_STATE_CAUSE 2 else s.slcSet k F.SLC_STATE_STATE 1
    | 2 => s.slcSet k F.SLC_STATE_STATE 2
    | 3 => s.slcSet k F.SLC_STATE_STATE 1
    | 4 => if st = 3 then s.slcSet k F.SLC_STATE_STATE 5 else (go s).slcStop k 0 false
    | 5 => if st = 3 ∨ st = 5 then (go s).slcReset k 0 else (go s).slcStop k 0 false
    | 7 => s.slcQuotas k
    | _ => (go s).slcReset k 0

/-- The RESET of the owl at a slice's release (R459), from the states that R411 allows: it ends QUIESCED with CAUSE 2. -/
def slcOwlReset (s : State) (k : Nat) : State :=
  if s.slcState k = 5 ∨ s.slcState k = 3 then (s.setSlc k fun _ => { op := 5 }).slcReset k 2 else s

/-- The word of a slice command. -/
def slcWord (op : Nat) (force : Bool) : Word := BitVec.ofNat 32 (op + 16 * b2n force)

/-- A slice command as it is written on a path. -/
def slcWrite (s : State) (m k op : Nat) (force : Bool) : State :=
  s.cmdWrite m (R.SLC_CMD k) (slcWord op force) (slcCmd m k op force)

/-! ### Interrupt entries, shapers, policers -/

/-- A write of an interrupt entry's control (R426). -/
def irqCtl (m k i : Nat) (v : Word) (s : State) : State := (s.store m (R.SLC_IRQ_CTL k i) v).irqFlush k i

/-- Every pending entry of a domain's slices, when host access returns (R427). -/
def irqsResume (s : State) (h : Nat) : State :=
  forAll (s.liveSlices.filter fun k => s.slcHd k == h) (fun k s => forAll (upTo 4) (fun i s => s.irqFlush k i) s) s

/-- A bucket from staged registers (R431). -/
def staged (s : State) (rate cfg : Nat) : Bucket :=
  let burst := s.get cfg F.QOS_SHP_CFG_BURST
  { rate := s.get rate F.QOS_SHP_RATE_RATE, ovh := s.get rate F.QOS_SHP_RATE_OVH, burst := burst, en := s.on cfg F.QOS_SHP_CFG_EN,
    tok := if s.on cfg F.QOS_SHP_CFG_FILL then Int.ofNat (mantExp burst * 8000) else 0, last := s.now }

/-- A write of QOS_SHP_CFG. -/
def shpCommit (m k : Nat) (v : Word) (s : State) : State :=
  let s := s.store m (R.QOS_SHP_CFG k) v
  if won v F.QOS_SHP_CFG_GO then (s.setShaper k (s.staged (R.QOS_SHP_RATE k) (R.QOS_SHP_CFG k))).showTokens k else s

/-- A write of QOS_POL_CFG. -/
def polCommit (m k : Nat) (v : Word) (s : State) : State :=
  let s := s.store m (R.QOS_POL_CFG k) v
  if won v F.QOS_POL_CFG_GO then (s.setPolicer k (s.staged (R.QOS_POL_RATE k) (R.QOS_POL_CFG k))).showTokens k else s

end State

/-! ### The commands -/

/-- SLICE_CREATE (R411). -/
def execSliceCreate (m sl : Nat) (s : State) : Res' := run (.sliceCreate m sl) s fun s => s.slcWrite m sl 1 false
/-- SLICE_QUIESCE (R411). -/
def execSliceQuiesce (m sl : Nat) (s : State) : Res' := run (.sliceQuiesce m sl) s fun s => s.slcWrite m sl 2 false
/-- SLICE_RESUME (R411). -/
def execSliceResume (m sl : Nat) (s : State) : Res' := run (.sliceResume m sl) s fun s => s.slcWrite m sl 3 false
/-- SLICE_DISABLE (R411). -/
def execSliceDisable (m sl : Nat) (force : Bool) (s : State) : Res' :=
  run (.sliceDisable m sl force) s fun s => s.slcWrite m sl 4 force
/-- SLICE_RESET (R411). -/
def execSliceReset (m sl : Nat) (force : Bool) (s : State) : Res' :=
  run (.sliceReset m sl force) s fun s => s.slcWrite m sl 5 force
/-- SLICE_REASSIGN (R417). -/
def execSliceReassign (m sl : Nat) (s : State) : Res' := run (.sliceReassign m sl) s fun s => s.slcWrite m sl 6 false
/-- SLICE_RESIZE (R422). -/
def execSliceResize (m sl : Nat) (s : State) : Res' := run (.sliceResize m sl) s fun s => s.slcWrite m sl 7 false
/-- SLICE_DESTROY (R417). -/
def execSliceDestroy (m sl : Nat) (s : State) : Res' := run (.sliceDestroy m sl) s fun s => s.slcWrite m sl 8 false
/-- SLICE_QUIESCED (R413). -/
def execSliceQuiesced (sl : Nat) (s : State) : Res' := run (.sliceQuiesced sl) s fun s => s.slcQuiesced sl
/-- SLICE_STOPPING_DONE (R416). -/
def execSliceStoppingDone (sl : Nat) (s : State) : Res' := run (.sliceStoppingDone sl) s fun s => s.slcStopped sl
/-- SLICE_RESET_DONE (R417). -/
def execSliceResetDone (sl : Nat) (s : State) : Res' := run (.sliceResetDone sl) s fun s => s.slcResetDone sl
/-- IRQ_WRITE (R425). -/
def execIrqWrite (sl i : Nat) (s : State) : Res' := runLive (.irqWrite sl i) s fun s => s.irqIssue sl i
/-- IRQ_UNMASK (R426). -/
def execIrqUnmask (m sl i : Nat) (v : Word) (s : State) : Res' :=
  run (.irqUnmask m sl i v) s fun s => s.cmdWrite m (R.SLC_IRQ_CTL sl i) v (State.irqCtl m sl i v)
/-- SHAPER_COMMIT (R431). -/
def execShaperCommit (m sl : Nat) (v : Word) (s : State) : Res' :=
  run (.shaperCommit m sl v) s fun s => s.cmdWrite m (R.QOS_SHP_CFG sl) v (State.shpCommit m sl v)
/-- POLICER_COMMIT (R431). -/
def execPolicerCommit (m sl : Nat) (v : Word) (s : State) : Res' :=
  run (.policerCommit m sl v) s fun s => s.cmdWrite m (R.QOS_POL_CFG sl) v (State.polCommit m sl v)

end Sys2Proof.Machine
end

