-- ==== Sys2Proof/Machine/Pcie.lean ====
section
/-! DEFINITION. PCI Express ports and the hierarchy of host domains (05_pcie_host_domains.md; the bring-up of R93 to R97,
03_lanes.md): roles, resets, domain enable, TLP receipt, tracked requests, DPC, FLR of the DMF. -/

namespace Sys2Proof.Machine

/-- The base class of a TLP (R238). -/
def tlpClass (t : Tlp) (up : Bool) : Nat :=
  match t.kind with
  | .mrd => if up then 0 else 2
  | .mwr => if up then 1 else 3
  | .cfgRd | .cfgWr => 4
  | .cpl => 5
  | .msg => 6
  | .ioRd | .ioWr => 7
  | .atomic => 8
  | .mrdLk => 9
  | .ats | .atsInv | .atsCpl => 10
  | .vdm => 11

namespace State

def statA (P : Nat) : Nat := R.GRP_PCIE_STAT (P / 8) (P % 8)
def cnt2A (P : Nat) : Nat := R.GRP_PCIE_CNT2 (P / 8) (P % 8)

/-- The domain an enabled GLB_HD_CFG makes a port upstream of (R168). -/
def upOf (s : State) (P : Nat) : Option Nat := (upTo 16).find? fun h => (s.dom h).on && (s.dom h).upPort == P

/-! ### Tracked requests (R193 to R195) -/

/-- A completion synthesised for a tracked request. -/
def synth (s : State) (P : Nat) (x : Tracked) (st : CplStatus) : State :=
  (s.emit (.completion x.port x.reqId x.reqTag st [])).inc (cnt2A P) F.GRP_PCIE_CNT2_CTO_SYN 1

/-- Every request tracked on a port that goes down or enters DPC is answered at once (R195). -/
def synthAll (s : State) (P : Nat) : State :=
  let l := (s.port P).tracked
  let s := s.setPort P fun p => { p with tracked := [] }
  forAll l (fun x s => s.synth P x (s.dpcStatus x.domain x.vport)) s

/-- The aperture read of a tracked request, by the port it left through and its tag (R193): the oldest when two domains' requests meet
there with one tag (notes/assumptions/108.md). -/
def apTracked (s : State) (P tag : Nat) : Option Nat :=
  (((s.msgList.filter fun x => match x.2.why with
    | .apRead _ _ _ _ t => t == tag && s.apLeft x.2 == P
    | _ => false).foldr inOrder []).head?).map (·.1)

/-- A request with a proxy tag still waits in an egress queue of its port. -/
def tagWaits (s : State) (P tag : Nat) : Bool := (upTo 8).any fun t => (s.queue (P * 8 + t)).any fun e => e.ptag == some tag

/-- A tracked request's timer expires (R193). -/
def trackTimeout (s : State) (P tag : Nat) : State :=
  match (s.port P).tracked.find? (fun x => x.tag == tag) with
  | some x =>
    if s.tagWaits P tag then s
    else (s.setPort P fun p => { p with tracked := p.tracked.filter fun y => y.tag != tag }).synth P x .ca
  | none =>
    match s.apTracked P tag with
    | some slot => (s.endMsg slot stABORTED true 255 (s.lastPath slot) true).inc (cnt2A P) F.GRP_PCIE_CNT2_CTO_SYN 1
    | none => s

/-! ### DPC containment (R197, R198) -/

/-- DPC Trigger Enable of a port's virtual downstream port: bits 1:0 of DPC Control, 0 disabled, 1 uncorrectable and fatal,
2 non-fatal as well. -/
def dpcEnable (s : State) (P : Nat) : Nat := (s.cfgWord (s.roleHd P) (2 + s.roleVdev P) .dpcControl).toNat % 4

/-- The virtual ports by which guests see the VFs of a port. -/
def guestPorts (l : List VfEnt) (P : Nat) : List (Nat × Nat) := ((l.filter fun e => e.pport == P).map fun e => (e.ghd, e.gvport)).eraseDups

/-- The virtual ports that show a physical port: its own, and each synthetic port that carries one of its VFs. -/
def guests (s : State) (P : Nat) : List (Nat × Nat) := if s.role P = 3 then guestPorts s.vfMap P else []
def shows (s : State) (P : Nat) : List (Nat × Nat) := (s.roleHd P, s.roleVdev P) :: s.guests P

/-- Virtual ports show DPC triggered with the reason of their physical port (R198). -/
def dpcShow (s : State) (P : Nat) (l : List (Nat × Nat)) : State :=
  forAll l (fun x s =>
    (s.setCfg x.1 (2 + x.2) .dpcStatus (BitVec.ofNat 32 (1 + (s.port P).dpcReason))).emit (.aer x.1 P 7)) s

/-- A virtual port no longer holds a physical port in containment; the last one releases it (R198). -/
def dpcLet (s : State) (P : Nat) (x : Nat × Nat) : State :=
  let s := s.setPort P fun p => { p with dpcHold := p.dpcHold.filter (· != x) }
  if (s.port P).dpcHold.isEmpty then
    (s.set (statA P) F.GRP_PCIE_STAT_DPC 0).setPort P fun p => { p with dpcReason := 0 }
  else s

/-! ### The VF map as it stands (R184, R189, R198, R207) -/

/-- The valid entries ignored because a physical port of their guest domain uses their GVPORT (R207). -/
def vfIgnored (s : State) : List VfEnt := (vfAll s.tblw.master).filter fun e => (s.portOfVdev e.ghd e.gvport).isSome

/-- What changes when entries of the VF map come into force, leave it or come to be ignored since the state `s0`: presence in the
guest domains (R189), the containments the entries' synthetic ports take part in (R198), the count of invalid entries (R207). -/
def vfMoved (s0 s : State) : State :=
  let old := s0.vfMap
  let new := s.vfMap
  let same := fun (a b : VfEnt) => a.off == b.off && a.ghd == b.ghd && a.gvport == b.gvport
  let s := forAll (old.filter fun e => !new.any (same e)) (fun e s => s.emit (.presence e.ghd e.gvport false)) s
  let s := forAll (new.filter fun e => !old.any (same e)) (fun e s => s.emit (.presence e.ghd e.gvport true)) s
  let s := forAll ((upTo 128).filter fun P => !(s.port P).dpcHold.isEmpty) (fun P s =>
    let own := (s.roleHd P, s.roleVdev P)
    let was := s0.guests P
    let now := s.guests P
    let come := now.filter fun x => !was.contains x && !(s.port P).dpcHold.contains x
    let gone := was.filter fun x => !now.contains x && x != own
    let s := if come.isEmpty then s else (s.setPort P fun p => { p with dpcHold := p.dpcHold ++ come }).dpcShow P come
    forAll gone (fun x s => if (s.port P).dpcHold.contains x then s.dpcLet P x else s) s) s
  let n := (s.vfIgnored.filter fun e => !s0.vfIgnored.contains e).length
  { s with tblw := { s.tblw with invalid := s.tblw.invalid + n } }

/-! ### Roles and port resets (R168 to R172, R207) -/

/-- What a port reset takes down (R75, R195): the link, the packets queued, the registers with its scope, those of the link block of its
index among them (R167), the flow control of both directions. -/
def portDown (s : State) (P : Nat) : State :=
  let g := P / 8
  let wasUp := s.portUp P
  let lanes := s.portLanes P
  let lo := R.GRP_LINK_CTL g (P % 8)
  let s := s.synthAll P
  let s := if wasUp then (s.linkStateMoved P).emit (.linkDown P) else s
  let s := (s.abortIncomplete P).flushPort P
  let s := s.resetFields (fun a => decide (a = statA P) || (decide (lo ≤ a) && decide (a < lo + 0x40))
    || lanes.any fun n => decide (a = R.GRP_LANE_CTL g n) || decide (a = R.GRP_LANE_ERR g n)) portKinds
  let s := s.setSett fun t => { t with pkts := t.pkts.mapAll dNone fun _ x => x.map fun k => if k.port = P then { k with fc := false } else k }
  let s := s.setPort P fun p => { p with hdrCr := [], dataCr := [], rxHdr := [], rxData := [], bypass := none }
  if (s.port P).dpcHold.isEmpty then s else s.set (statA P) F.GRP_PCIE_STAT_DPC 1

/-- A port is held in electrical idle because another port has its VDEV (R207); its link goes down (R195). -/
def holdIdle (s : State) (P : Nat) : State := (s.portDown P).set (statA P) F.GRP_PCIE_STAT_CFG_ERR 1

/-- The role a port takes (R168, R172, R207), with IN_RES as it is sampled (R217). -/
def roleIn (s : State) (P : Nat) : State :=
  let a := statA P
  let put := fun (s : State) (role hd vdev : Nat) =>
    ((s.set a F.GRP_PCIE_STAT_ROLE role).set a F.GRP_PCIE_STAT_HD_ACT hd).set a F.GRP_PCIE_STAT_VDEV_ACT vdev
  let s := s.setSett fun t => { t with inRes := t.inRes.put (fun _ => 256) P (s.get (R.SETT_PCFG P) F.SETT_PCFG_IN_RES) }
  let s := s.set a F.GRP_PCIE_STAT_CFG_ERR 0
  match s.upOf P with
  | some h => put s 1 h 0
  | none =>
    let c := R.GRP_PCIE_CFG (P / 8) (P % 8)
    let h := s.get c F.GRP_PCIE_CFG_HD
    let v := s.get c F.GRP_PCIE_CFG_VDEV
    if !(s.dom h).on then put s 0 0 0
    else
      let same := fun Q => Q != P && s.isPcie Q && decide (2 ≤ s.role Q) && s.roleHd Q == h && s.roleVdev Q == v
      if (upTo P).any same then s.holdIdle P
      else put (forAll ((upTo 128).filter same) (fun Q s => s.holdIdle Q) s) (if s.on c F.GRP_PCIE_CFG_SHARED then 3 else 2) h v

/-- What the hosts see when a downstream port's place changes (R172). -/
def presenceMoved (s : State) (r0 h0 v0 P : Nat) : State :=
  let r := s.role P
  if 2 ≤ r0 ∧ 2 ≤ r ∧ s.roleHd P = h0 ∧ s.roleVdev P = v0 then s
  else
    let s := if 2 ≤ r0 then s.emit (.presence h0 v0 false) else s
    if 2 ≤ r then s.emit (.presence (s.roleHd P) (s.roleVdev P) true) else s

/-- A port takes its role, with what the hosts see of it since the state `s0`. -/
def seat (s0 s : State) (P : Nat) : State :=
  vfMoved s0 ((s.roleIn P).presenceMoved (s0.role P) (s0.roleHd P) (s0.roleVdev P) P)

def takeRole (s : State) (P : Nat) : State := seat s s P

/-- A port reset of a PCI Express port (R75, R168, R195): link down, queues empty, its role taken anew. -/
def pcieReset (s : State) (P : Nat) : State := if s.isPcie P then seat s (s.portDown P) P else s

/-! ### Function Level Reset of the DMF (R201, R202) -/

/-- Steps 1 and 2; while an FLR runs a further reset acts on the slices alone (R418). The aperture accesses of the domain that are outstanding are among what step 3 waits for (R205). -/
def flrStart (s : State) (h cause : Nat) : State :=
  if s.hdState h = 0 then s
  else if s.hdState h = 3 then s.slcsReset h cause
  else
    let s := s.setWen fun w => { w with
      msgs := w.msgs.mapAll dNone fun _ x => x.map fun m => if apOf m = some h then { m with flr := true } else m
      apQ := w.apQ.put dNil h [] }
    let s := ((s.set (R.GLB_HD_STAT h) F.GLB_HD_STAT_STATE 3).slcsReset h cause).flashDrop h
    s.setDom h fun d => { d with reads := d.reads.map fun (r : HostRead) => { r with drop := 2 } }

/-- The registers of a domain with FLR fields: its status, its rings, its aperture log, its slices' interrupt entries. -/
def flrAddr (s : State) (h a : Nat) : Bool :=
  decide (a = R.GLB_HD_STAT h) || (decide (R.MGT_RING_CTL h ≤ a) && decide (a < R.MGT_RING_CTL h + 0x40))
    || (decide (R.WEN_AP_ERR h ≤ a) && decide (a < R.WEN_AP_ERR h + 0x10))
    || (blockBit a == some 13 && s.sliceOfDomain h ((a - 0x500000) / 256))

/-- What the end of the wait restores (R201 step 4): the event queue, the rings, the DMF's configuration space, its DOE mailbox and its
MSI-X table; a command in progress loses its response. -/
def flrRestore (s : State) (h : Nat) : State :=
  let s := s.resetFields (s.flrAddr h) fun k => decide (k = .flr)
  let s := s.setDom h fun d => { d with
    evq := [], evLost := false, evSeq := 0, msix := [], doeW := [], doeR := [], cfg := d.cfg.drop (fun k => k / 128 == 1)
    appSz := d.appRst, apnSz := d.apnRst }
  s.quietCmd h

/-- An FLR waits for host reads of the DMF and for aperture accesses of the domain (R201 step 3, R205). -/
def flrWaits (s : State) (h : Nat) : Bool := !(s.dom h).reads.isEmpty || s.msgList.any fun x => x.2.flr && apOf x.2 == some h

/-- The FLR's wait ends: every read and access has ended, or the limit has passed (R201 steps 3 and 4); what is still outstanding then
is forgotten. -/
def flrEnd (s : State) (h : Nat) (limit : Bool) : State :=
  if s.hdState h = 3 ∧ (limit = true ∨ s.flrWaits h = false) then
    let w := s.flrWaits h
    let s := s.setWen fun w => { w with msgs := w.msgs.mapAll dNone fun _ x => x.filter fun m => !(m.flr && apOf m == some h) }
    let s := (s.flrRestore h).set (R.GLB_HD_STAT h) F.GLB_HD_STAT_FLR_CTO (b2n (limit && w))
    let st := if !(s.dom h).on then 0 else if s.portUp (s.dom h).upPort && s.role (s.dom h).upPort == 1 then 2 else 1
    s.set (R.GLB_HD_STAT h) F.GLB_HD_STAT_STATE st
  else s

/-! ### Resets from a host (R179) -/

/-- A VF gets an FLR. -/
def vfFlrs (s : State) (l : List VfEnt) : State := forAll l (fun e s => s.emit (.vfFlr e.pport e.prid)) s

/-- Hot reset or link down on a domain's upstream port: dedicated ports, forwarded VFs, DMF, configuration space. -/
def hostReset (s : State) (h cause : Nat) : State :=
  let s := forAll ((upTo 128).filter fun P => s.isPcie P && s.role P == 2 && s.roleHd P == h)
    (fun P s => (s.emit (.hotReset P)).pcieReset P) s
  let s := (s.vfFlrs (s.vfMap.filter fun e => e.ghd == h)).flrStart h cause
  s.setDom h fun d => { d with cfg := [], doeW := [], doeR := [], downDue := false }

/-- A port's link goes down: a port reset, and for an upstream port its domain's reset (R179). -/
def linkGone (s : State) (P cause : Nat) : State :=
  let wasUp := s.portUp P
  let r := s.role P
  let h := s.roleHd P
  let s := s.pcieReset P
  if r = 1 ∧ wasUp = true then
    let s := if s.hdState h = 2 then s.set (R.GLB_HD_STAT h) F.GLB_HD_STAT_STATE 1 else s
    s.hostReset h cause
  else s

/-- A group reset takes a port's link down (R75): a port reset. What R179 does to the domain of an upstream port is the step
UPSTREAM_RESET (R15; notes/assumptions/98.md). -/
def groupDown (s : State) (P : Nat) : State :=
  let due := s.portUp P && s.role P == 1
  let h := s.roleHd P
  let s := s.pcieReset P
  if due then
    (if s.hdState h = 2 then s.set (R.GLB_HD_STAT h) F.GLB_HD_STAT_STATE 1 else s).setDom h fun d => { d with downDue := true }
  else s

/-- Hot reset or link down seen on a domain's upstream port. -/
def upReset (s : State) (h : Nat) (down : Bool) : State :=
  let P := (s.dom h).upPort
  if !(s.dom h).on then s
  else if down then (if (s.dom h).downDue && !s.portUp P then s.hostReset h 1 else s.linkGone P 1)
  else if s.role P = 1 ∧ s.portUp P = true then
    let s := s.pcieReset P
    let s := if s.hdState h = 2 then s.set (R.GLB_HD_STAT h) F.GLB_HD_STAT_STATE 1 else s
    s.hostReset h 1
  else s

/-- Secondary Bus Reset on a virtual downstream port. -/
def busReset (s : State) (h vdev : Nat) : State :=
  if !(s.dom h).on then s
  else
    match s.portOfVdev h vdev with
    | some P => if s.role P = 2 then (s.emit (.hotReset P)).pcieReset P else s
    | none => s.vfFlrs (s.vfsBehind h vdev)

/-! ### Bring-up (R90, R93, R94) -/

/-- The highest rate of a PCI Express port (R90); 32 GT/s in Recovery (R50, R83). -/
def pcieTop (s : State) (P : Nat) : Nat :=
  let ls := s.portLanes P
  let mr := fldOf (s.layout P) F.GRP_PORT_CFG_MAXRATE
  (upTo 7).foldl (fun acc r => if ls.all (fun n => s.laneAllows (P / 8) n r) && decide (r ≤ mr) && (s.mode != 1 || decide (r ≤ 4)) then r
    else acc) 0

/-- The credits that a port advertises (R217): of posted, non-posted and completion budgets of IN_RES; the caps are those of the standard's
flow-control scaling by 16 (notes/assumptions/27.md). -/
def fcAdvertised (s : State) (P : Nat) : List (Nat × Nat) :=
  let n := clampTo 16 8192 (s.sett.inRes.get (fun _ => 256) P)
  [n / 2, n / 4, n / 4].map fun b => (min 2032 (b / 4), min 32752 (16 * (b - 2 * (b / 4))))

/-- Whether a port may train: R56, R57, R63, R75, R172, R178, R198, R207, R459, R467, R471, R473. A port without a role, or one that an enabled
domain names, takes its role as training starts (notes/assumptions/29.md). -/
def mayTrain (s : State) (P : Nat) : Bool :=
  let m := s.mode
  s.isPcie P && s.pdOn (10 + P / 8) && m != 0 && m != 7 && !(s.transiting && s.boot.target == 6) && !(s.port P).disabled && !bit (s.get R.GLB_GRP_RESET F.GLB_GRP_RESET_GRP) (P / 8)
    && !s.on (statA P) F.GRP_PCIE_STAT_DPC && s.role P != 0
    && !(s.role P == 2 && bit (s.cfgWord (s.roleHd P) (2 + s.roleVdev P) .linkControl).toNat 4)
    && (s.dom (s.roleHd P)).on && (m != 6 || (s.role P == 1 && s.roleHd P == 0))
    && !(s.role P == 1 && (s.contained 2 P || s.contained 4 (s.roleHd P))) && !s.contained 3 (P / 8) && !s.latched 2 P

/-- The highest rate up to `r` that each of a link's lanes allows (R89); 2.5 GT/s always does. -/
def rateFor (s : State) (g first n r : Nat) : Nat :=
  (upTo (r + 1)).foldl (fun acc x => if (upTo n).all fun i => s.laneAllows g (first + i) x then x else acc) 0

/-- A lane of a PCI Express port that trains: it loads its entry as it comes up or changes its rate, and keeps the partner's setting
otherwise (R92, R95). -/
def pcieLane (s : State) (g n rate pos : Nat) (inv wasUp : Bool) : State :=
  let c := R.GRP_LANE_CTL g n
  let s := if wasUp && s.on c F.GRP_LANE_CTL_ALIGNED && s.get c F.GRP_LANE_CTL_RATE == rate then s.set c F.GRP_LANE_CTL_POS pos
    else s.loadLane g n rate pos
  (((s.set c F.GRP_LANE_CTL_POL (b2n inv)).set c F.GRP_LANE_CTL_LOCK 1).set c F.GRP_LANE_CTL_ALIGNED 1).setLane
    g n fun L => { L with aligning := false }

/-- A link layer that comes up advertises its credits (R217). -/
def fcStart (s : State) (P : Nat) : State :=
  let l := s.fcAdvertised P
  let s := s.setPort P fun p => { p with
    rxHdr := [(0, (l.getD 0 (0, 0)).1), (1, (l.getD 1 (0, 0)).1), (2, (l.getD 2 (0, 0)).1)]
    rxData := [(0, (l.getD 0 (0, 0)).2), (1, (l.getD 1 (0, 0)).2), (2, (l.getD 2 (0, 0)).2)] }
  s.emit (.fcCredits P l)

/-- What a port's training reached: the lanes it uses run at the rate they all allow (R89, R90); a partner's equalisation bypass is
accepted when every lane has an entry at its rate (R98). -/
def pcieTrain (s : State) (P : Nat) (t : PcieTrain) : State :=
  if !s.isPcie P then s
  else if !t.up then s.linkGone P 1
  else
    let wasUp := s.portUp P
    let s := if !wasUp && (s.role P == 0 || (s.upOf P).isSome) then s.takeRole P else s
    if !s.mayTrain P then s
    else
      let a := statA P
      let g := P / 8
      let w := min t.width (fldOf (s.layout P) F.GRP_PORT_CFG_WIDTH)
      let n := 2 ^ w
      let first := fldOf (s.layout P) F.GRP_PORT_CFG_FIRST
      let rate := s.rateFor g first n (min t.rate (s.pcieTop P))
      let s := s.setPort P fun p => { p with bypass := t.bypass.filter fun r => (s.portLanes P).all fun n => (s.eqEntry g n r).isSome }
      let s := (s.nightFail 1).wakeIsland (8 + g)
      let s := forAll (upTo n) (fun i s =>
        s.pcieLane g (first + i) rate (if t.reversed then n - 1 - i else i) (bit t.inverted i) wasUp) s
      let s := (((s.set a F.GRP_PCIE_STAT_UP 1).set a F.GRP_PCIE_STAT_RATE rate).set a F.GRP_PCIE_STAT_WIDTH w).set a
        F.GRP_PCIE_STAT_FLIT (b2n (decide (5 ≤ rate) || t.flit))
      let s := s.setSett fun x => { x with shut := x.shut.filter (· != P) }
      let s := if wasUp then s else (s.linkStateMoved P).fcStart P
      if s.role P = 1 ∧ s.hdState (s.roleHd P) = 1 then s.set (R.GLB_HD_STAT (s.roleHd P)) F.GLB_HD_STAT_STATE 2 else s

/-- Errors of a PCI Express lane (R99): LCV, and the lane's bit of the port's Lane Error Status register. -/
def pcieLaneErrors (s : State) (P n lcv : Nat) : State :=
  let s := s.inc (R.GRP_LANE_ERR (P / 8) n) F.GRP_LANE_ERR_LCV lcv
  let fn := if s.role P = 1 then 0 else 2 + s.roleVdev P
  let k := s.get (R.GRP_LANE_CTL (P / 8) n) F.GRP_LANE_CTL_POS
  if lcv = 0 ∨ s.role P = 0 then s
  else s.setCfg (s.roleHd P) fn .laneError (s.cfgWord (s.roleHd P) fn .laneError ||| BitVec.ofNat 32 (2 ^ k))

/-! ### Commands of a port and of a domain (R170 to R172, R206) -/

/-- The registers of a PCI Express port answer only while MODE as last written is 0 (R206). -/
def pcieRegsShown (s : State) (g p : Nat) : Bool := !s.on (R.GRP_PORT_CFG g p) F.GRP_PORT_CFG_MODE

/-- A write of PCIE_CMD. -/
def pcieCmd (g p : Nat) (v : Word) (s : State) : State :=
  let P := g * 8 + p
  if !s.pcieRegsShown g p then s
  else match wfld v F.GRP_PCIE_CMD_OP with
    | 1 => if s.portUp P then s.linkGone P 1 else s.pcieReset P
    | 2 => (s.linkGone P 1).setPort P fun x => { x with disabled := true }
    | 3 => s.setPort P fun x => { x with disabled := false }
    | _ => s

/-- The master writes one command. -/
def pcieOp (s : State) (m g p op : Nat) : State :=
  let w := BitVec.ofNat 32 op
  s.cmdWrite m (R.GRP_PCIE_CMD g p) w (pcieCmd g p w)

/-- A port is enabled in PCI Express mode: under the sampled layout, in Boot under the layout as written
(notes/assumptions/30.md). -/
def pcieEnabled (s : State) (P : Nat) : Bool :=
  if s.mode = 0 then
    s.on (R.GRP_PORT_CFG (P / 8) (P % 8)) F.GRP_PORT_CFG_EN && !s.on (R.GRP_PORT_CFG (P / 8) (P % 8)) F.GRP_PORT_CFG_MODE
  else s.isPcie P

/-- A write of GLB_HD_CFG (R170, R171). The downstream ports of a domain that is disabled, shared ones too, go to electrical idle without a
role (R172). In Recovery and, but for H00, in Maintenance a write that is not refused changes the register
alone: H00 is the only domain there (R50, R170). -/
def hdCfg (m h : Nat) (v : Word) (s : State) : State :=
  let a := R.GLB_HD_CFG h
  let was := s.on a F.GLB_HD_CFG_EN
  let en := won v F.GLB_HD_CFG_EN
  let up := wfld v F.GLB_HD_CFG_UP_PORT
  if en && !was then
    if !s.pcieEnabled up || (upTo 16).any (fun k => k != h && (s.dom k).on && (s.dom k).upPort == up)
        || (s.mode == 2 && h != 0) then
      ((s.store m a v).set a F.GLB_HD_CFG_EN 0).set (R.GLB_HD_STAT h) F.GLB_HD_STAT_EN_ERR 1
    else if s.mode = 1 ∨ (s.mode = 6 ∧ h ≠ 0) then (s.store m a v).set (R.GLB_HD_STAT h) F.GLB_HD_STAT_EN_ERR 0
    else
      let ap := clampTo 30 46 (wfld v F.GLB_HD_CFG_APP_SZ)
      let an := clampTo 20 36 (wfld v F.GLB_HD_CFG_APN_SZ)
      let s := (s.store m a v).set (R.GLB_HD_STAT h) F.GLB_HD_STAT_EN_ERR 0
      let s := s.setDom h fun d => { d with on := true, upPort := up, appSz := ap, apnSz := an, appRst := ap, apnRst := an }
      if s.hdState h = 0 then s.set (R.GLB_HD_STAT h) F.GLB_HD_STAT_STATE 1 else s
  else if was && !en && s.mode != 1 && (s.dom h).on then
    let P := (s.dom h).upPort
    let held := s.role P == 1 && s.roleHd P == h
    let shared := (upTo 128).filter fun Q => s.isPcie Q && s.role Q == 3 && s.roleHd Q == h
    let s := (s.store m a v).setDom h fun d => { d with on := false }
    let s := forAll shared (fun Q s => s.pcieReset Q) s
    if held && s.portUp P then s.linkGone P 1
    else if held then (s.hostReset h 1).pcieReset P
    else s.hostReset h 1
  else s.store m a v

/-! ### Receipt of a TLP (R175, R191, R192, R238, R244, R245) -/

/-- The virtual port whose Bus Master Enable holds a request from below back (R191): the one it comes in by, or the domain's upstream
port. -/
def busBlock (s : State) (P : Nat) (t : Tlp) : Option (Nat × Nat) :=
  let v := s.virtOf P t.reqId
  if !bit (s.cfgWord v.1 v.2 .command).toNat 2 then some v
  else if !bit (s.cfgWord v.1 0 .command).toNat 2 then some (v.1, 0)
  else none

/-- A refused TLP never enters the switch (R191, R192): logged in the virtual port `v`. -/
def refuseTlp (s : State) (P : Nat) (t : Tlp) (v : Nat × Nat) : State :=
  let s := (s.urSent P).aerIn P v.1 v.2 1
  if nonPostedKind t.kind then s.complete P t .ur [] else s

/-- A completion that ends nothing (R192). -/
def unexpected (s : State) (P : Nat) : State :=
  (s.inc (R.GRP_PCIE_CNT (P / 8) (P % 8)) F.GRP_PCIE_CNT_UNEXP_CPL 1).aerAt P 2

/-- A TLP at H00's upstream port in Recovery and in Maintenance, where no den forwards (R51, R57): configuration requests come as their own
commands, a memory request to the DMF is delivered to it (R329), an AtomicOp to it is refused there, every other request matches no
route (R191), and a completion that ends no read of the DMF is unexpected (R192). -/
def tlpUnrouted (s : State) (P : Nat) (t : Tlp) : State :=
  let h := s.roleHd P
  let hit := (s.inDmf h (tlpAddr t.flit t.bytes)).isSome
  match t.kind with
  | .cfgRd | .cfgWr => s
  | .cpl | .atsCpl => s.unexpected P
  | .mrd | .mwr =>
    if hit then (s.emit (.toDmf h t.bytes)).setSett fun x => { x with dmfIn := x.dmfIn ++ [(h, t)] } else s.refuseTlp P t (h, 0)
  | .atomic => s.refuseTlp P t (h, b2n hit)
  | .msg => if msgCode t.flit t.bytes = 0 then s else s.refuseTlp P t (h, 0)
  | _ => s.refuseTlp P t (h, 0)

/-- A TLP takes the credit it needs of what its port has granted (R217); a partner that sends without credit breaks the standard. -/
def fcTake (s : State) (P : Nat) (t : Tlp) : State :=
  s.setPort P fun p => { p with
    rxHdr := p.rxHdr.upd dZero (fcType t) (· - 1), rxData := p.rxData.upd dZero (fcType t) (· - fcData t) }

/-- A TLP enters the switch, with the credit it holds until it leaves its ingress account (R221, R241) and the metadata of R245. Its domain and
its slice are those of the domain it belongs to, for the traffic of a forwarded VF the guest's (R327, R408; notes/assumptions/127.md). -/
def tlpArrive (s : State) (P : Nat) (t : Tlp) : State :=
  let up := s.role P == 1
  let alt := bit (s.get (R.DEN_PORT_CLS (P / 8)) F.DEN_PORT_CLS_ALT) (P % 8)
  let k : Pkt := {
    port := P, den := P / 8, cls := tlpClass t up + (if alt then 32 else 0), bytes := t.bytes, tc := t.tc
    m5 := b2n t.flit + 2 * b2n t.poisoned + 4 * b2n t.pasid.isSome + 8 * b2n up + 16 * b2n t.ide + 32 * b2n t.digest
    slice := (s.selectSlice (s.virtOf P (sender t)).1 t.pasid).getD 0xFFFF, arr := s.now, tlp := some t, units := 0, ucls := 0
    cells := [], left := 0, refs := 0, spoor := false, bad := t.nullified, fc := true }
  (s.fcTake P t).arrive { k with m5 := k.m5 + 256 * s.fromDomain k t }

/-- A PTM Request from below (R173): a downstream port with PTM Enable, bit 0 of PTM Control, answers with the timebase; without it the
request is unsupported (notes/assumptions/27.md). -/
def ptmIn (s : State) (P : Nat) (t : Tlp) : State :=
  let v := (s.roleHd P, 2 + s.roleVdev P)
  if bit (s.cfgWord v.1 v.2 .ptmControl).toNat 0 then s.emit (.ptm P s.now) else s.refuseTlp P t v

/-- A TLP that passed the link check. One that arrives nullified is written and found bad at its end (R229). -/
def tlpIn (s : State) (P : Nat) (t : Tlp) : State :=
  if !(s.portUp P && s.isPcie P && s.role P != 0) || s.sett.shut.contains P then s
  else if !s.forwarding then (if s.role P = 1 ∧ t.nullified = false then s.tlpUnrouted P t else s)
  else if t.nullified then s.tlpArrive P t
  else
    let g := P / 8
    let p := P % 8
    let s := (s.count g 1 p 1).count g 3 p t.bytes.length
    let req := [TlpKind.mrd, .mwr, .mrdLk, .ioRd, .ioWr, .atomic, .ats].contains t.kind
    if t.kind = .msg ∧ msgCode t.flit t.bytes = 0 then s
    else if t.kind = .msg ∧ msgCode t.flit t.bytes = 0x52 ∧ s.role P ≠ 1 then s.ptmIn P t
    else if t.kind = .cpl && (s.proxyOf P t.reqId).isSome && !(s.proxyTags P).contains t.tag then s.unexpected P
    else match (if s.role P != 1 && req then s.busBlock P t else none) with
      | some v => s.refuseTlp P t v
      | none => s.tlpArrive P t

/-! ### DPC (R196 to R198) -/

/-- The trigger reason as DPC Status codes it: bits 2:1 the reason, 6:5 its extension (1 software trigger). -/
def dpcReason : DpcCause → Nat
  | .linkError => 0
  | .errNonfatal => 2
  | .errFatal => 4
  | .software => 6 + 32
  | .containment => 6 + 32

/-- An error event of a port: a link error is logged in the virtual port that reports it (R196), and DPC is triggered on a downstream
port whose DPC Trigger Enable allows (R197). -/
def dpcGo (s : State) (P : Nat) (c : DpcCause) : State :=
  let s := if c = .linkError ∧ s.isPcie P = true then s.aerAt P 5 else s
  let en := s.dpcEnable P
  let ok := match c with | .errNonfatal => en == 2 | _ => en == 1 || en == 2
  if !(s.isPcie P && decide (2 ≤ s.role P)) || !ok || s.on (statA P) F.GRP_PCIE_STAT_DPC then s
  else
    let l := s.shows P
    let s := (s.setPort P fun p => { p with dpcHold := l, dpcReason := dpcReason c }).dpcShow P l
    s.pcieReset P

/-- Software clears DPC Trigger Status of a virtual port: the physical port is released once every virtual port has. -/
def dpcClear (s : State) (h v : Nat) : State :=
  let s := s.setCfg h (2 + v) .dpcStatus (s.cfgWord h (2 + v) .dpcStatus &&& ~~~1)
  forAll ((upTo 128).filter fun P => (s.port P).dpcHold.contains (h, v)) (fun P s => s.dpcLet P (h, v)) s

end State

/-! ### The commands -/

/-- LANE_ERROR_WINDOW (R99, R108, R116, R117): the errors of the window that no flit and no training record carried count first; SWAP_REQ
shows the last window once the current one ends. -/
def execLaneErrorWindow (g : Nat) (n : LaneWindow) (s : State) : Res' :=
  runLive (.laneErrorWindow g n) s fun s =>
    let lcv := n.lcv
    let pse := n.pse
    let n := n.lane
    let s := match s.linkOf g n, s.pciePortOf g n with
      | some p, _ => s.linkErrors g p n lcv pse
      | none, some p => s.pcieLaneErrors (g * 8 + p) n lcv
      | none, none => s
    let c := (s.lane g n).crossed
    let s := s.setLane g n fun L => { L with winHard := 0, winPse := 0, crossed := false }
    if c then s else s.set (R.GRP_LANE_ERR g n) F.GRP_LANE_ERR_SWAP_REQ 0

/-- PCIE_LINK_TRAIN (R93). -/
def execPcieLinkTrain (port : Nat) (t : PcieTrain) (s : State) : Res' := run (.pcieLinkTrain port t) s fun s => s.pcieTrain port t

/-- HOST_DOMAIN_ENABLE (R170, R171). -/
def execHostDomainEnable (m h : Nat) (v : Word) (s : State) : Res' :=
  run (.hostDomainEnable m h v) s fun s => s.cmdWrite m (R.GLB_HD_CFG h) v (State.hdCfg m h v)

/-- HOST_DOMAIN_DISABLE (R171): the same register, written with EN = 0. -/
def execHostDomainDisable (m h : Nat) (v : Word) (s : State) : Res' :=
  run (.hostDomainDisable m h v) s fun s => s.cmdWrite m (R.GLB_HD_CFG h) v (State.hdCfg m h v)

/-- UPSTREAM_RESET (R179). -/
def execUpstreamReset (h : Nat) (linkDown : Bool) (s : State) : Res' :=
  run (.upstreamReset h linkDown) s fun s => s.upReset h linkDown

/-- SECONDARY_BUS_RESET (R179). -/
def execSecondaryBusReset (h vdev : Nat) (s : State) : Res' := run (.secondaryBusReset h vdev) s fun s => s.busReset h vdev

/-- PORT_RESET (R168). -/
def execPortReset (m g p : Nat) (s : State) : Res' := run (.portReset m g p) s fun s => s.pcieOp m g p 1

/-- PCIE_PORT_DISABLE (R172). -/
def execPciePortDisable (m g p : Nat) (s : State) : Res' := run (.pciePortDisable m g p) s fun s => s.pcieOp m g p 2

/-- PCIE_PORT_ENABLE (R172). -/
def execPciePortEnable (m g p : Nat) (s : State) : Res' := run (.pciePortEnable m g p) s fun s => s.pcieOp m g p 3

/-- TRACKED_TIMEOUT (R193). -/
def execTrackedTimeout (port tag : Nat) (s : State) : Res' := runLive (.trackedTimeout port tag) s fun s => s.trackTimeout port tag

/-- DPC_TRIGGER (R197). -/
def execDpcTrigger (port : Nat) (cause : DpcCause) (s : State) : Res' := run (.dpcTrigger port cause) s fun s => s.dpcGo port cause

/-- DPC_RELEASE (R198). -/
def execDpcRelease (h vdev : Nat) (s : State) : Res' := run (.dpcRelease h vdev) s fun s => s.dpcClear h vdev

/-- DMF_FLR (R201). -/
def execDmfFlr (h : Nat) (s : State) : Res' := run (.dmfFlr h) s fun s => s.flrStart h 1

/-- FLR_COMPLETE (R201). -/
def execFlrComplete (h : Nat) (limit : Bool) (s : State) : Res' := run (.flrComplete h limit) s fun s => s.flrEnd h limit

/-- FLOW_CONTROL_UPDATE (R225): credits of a type, 0 posted, 1 non-posted, 2 completion. -/
def execFlowControlUpdate (port cls hdrCr dataCr : Nat) (s : State) : Res' :=
  runOk (okFlowControlUpdate port cls) s fun s =>
    s.setPort port fun p => { p with hdrCr := p.hdrCr.upd dZero cls (· + hdrCr), dataCr := p.dataCr.upd dZero cls (· + dataCr) }

/-- INJECTED_PACKET (R238, R334): class 24 through the control port; the metadata of R245 mark it injected. -/
def execInjectedPacket (den : Nat) (bytes : List Byte) (s : State) : Res' :=
  runOk (okInjectedPacket den) s fun s =>
    if s.forwarding then
      s.arrive {
        port := 128, den := den, cls := 24, bytes := bytes, tc := (bytes.getD 1 0).toNat % 8, m5 := 128, slice := 0xFFFF
        arr := s.now, tlp := none, units := 0, ucls := 0, cells := [], left := 0, refs := 0, spoor := false, bad := false }
    else s

end Sys2Proof.Machine
end

