-- ==== Sys2Proof/Machine/Slots.lean ====
section
/-! DEFINITION. Slot controllers (R476 to R502, 15_slot_power.md): requests, ramp, feeds, trips, presence, PERST_N, and what
Slot Control and Slot Status of the bound port show. That a timer has run is the command's own; the levels a command reports
are checked. -/

namespace Sys2Proof.Machine

/-- A feed's number in SLOT_STAT.FEED and in DETAIL: 1 A, 2 B. -/
def feedNo : Feed → Nat
  | .a => 1
  | .b => 2

/-- The outputs of a slot controller (R476). -/
structure SlotPins where
  gateA : Bool
  gateB : Bool
  perst : Bool
  pwrbrk : Bool
  deriving DecidableEq, Repr

namespace State

def sst (s : State) (sc : Nat) (f : Fld) : Nat := s.get (R.SLOT_STAT sc) f
def setSst (s : State) (sc : Nat) (f : Fld) (v : Nat) : State := s.set (R.SLOT_STAT sc) f v
def slotState (s : State) (sc : Nat) : Nat := s.sst sc F.SLOT_STAT_STATE

/-- BIND_ERR follows the binding (R478). -/
def slotBindErr (s : State) (sc : Nat) : State :=
  s.setSst sc F.SLOT_STAT_BIND_ERR (b2n ((s.slot sc).bind.isSome && (s.slotPort sc).isNone))

/-- The binding is sampled (R477). -/
def slotSample (s : State) (sc : Nat) : State :=
  (s.setSlot sc fun x => { x with
    bind := if s.on (R.SLOT_BIND sc) F.SLOT_BIND_EN then some (s.get (R.SLOT_BIND sc) F.SLOT_BIND_PORT) else none }).slotBindErr sc

/-- A write of SLOT_BIND. -/
def slotBindWrite (m sc : Nat) (v : Word) (s : State) : State :=
  let s := s.store m (R.SLOT_BIND sc) v
  if s.slotState sc = 0 then s.slotSample sc else s

/-- A feed is good. -/
def feedOk (s : State) (sc f : Nat) : Bool := s.on (R.SLOT_STAT sc) (if f = 1 then F.SLOT_STAT_A_GOOD else F.SLOT_STAT_B_GOOD)

/-- The preferred feed (R486). -/
def feedPri (s : State) (sc : Nat) : Nat := if s.on (R.SLOT_CFG sc) F.SLOT_CFG_PRI then 2 else 1

/-- Whether a feed has been lost and not come back (R485). -/
def feedGone (s : State) (sc f : Nat) : Bool := if f = 1 then (s.slot sc).lostA else (s.slot sc).lostB
def setGone (s : State) (sc f : Nat) (b : Bool) : State := s.setSlot sc fun x => if f = 1 then { x with lostA := b } else { x with lostB := b }

/-- A feed change starts (R487): PWRBRK_N asserted, the outgoing gate off. -/
def slotSwitch (s : State) (sc : Nat) : State :=
  let cur := s.sst sc F.SLOT_STAT_FEED
  (((s.setSst sc F.SLOT_STAT_STATE 5).setSst sc F.SLOT_STAT_PWRBRK 1).setSst sc F.SLOT_STAT_FEED 0).setSlot sc fun x =>
    { x with target := 3 - cur, inOn := false, brkHold := false, slowA := false, slowB := false }

/-- A slot that is ON changes feeds: with its active feed lost and the other good (R483), or with REVERT back to the preferred feed when
that is good (R486). -/
def slotRevert (s : State) (sc : Nat) : State :=
  let pri := s.feedPri sc
  let act := s.sst sc F.SLOT_STAT_FEED
  if s.slotState sc = 4 ∧ (s.slot sc).turnOff = false ∧ ((s.feedGone sc act && s.feedOk sc (3 - act)) = true ∨
      s.on (R.SLOT_CFG sc) F.SLOT_CFG_REVERT = true ∧ s.feedOk sc pri = true ∧ act = 3 - pri) then s.slotSwitch sc
  else s

/-- A write of SLOT_CFG: a feed that is not enabled is never good (R485); the feed that is then preferred may be reverted to. -/
def slotCfgWrite (m sc : Nat) (v : Word) (s : State) : State :=
  let s := s.store m (R.SLOT_CFG sc) v
  let s := if s.on (R.SLOT_CFG sc) F.SLOT_CFG_FEED_A_EN then s else s.setSst sc F.SLOT_STAT_A_GOOD 0
  (if s.on (R.SLOT_CFG sc) F.SLOT_CFG_FEED_B_EN then s else s.setSst sc F.SLOT_STAT_B_GOOD 0).slotRevert sc

/-! ### The bound port's hot-plug registers (R497, R498); places of the standard (notes/assumptions/27.md) -/

/-- Bits of Slot Status set in the bound port: 1 Power Fault Detected, 3 Presence Detect Changed, 4 Command Completed. -/
def slotStatusSet (s : State) (sc b : Nat) : State :=
  match s.slotPort sc with
  | some P => s.slotStatusPut (s.roleHd P) (s.roleVdev P) b
  | none => s

/-- Power Controller Control, bit 10 of Slot Control. -/
def slotPcc (s : State) (sc : Nat) (off : Bool) : State :=
  match s.slotPort sc with
  | some P =>
    let w := s.cfgWord (s.roleHd P) (2 + s.roleVdev P) .slotControl
    s.setCfg (s.roleHd P) (2 + s.roleVdev P) .slotControl (if off then w ||| 0x400 else w &&& ~~~0x400)
  | none => s

/-- A host request reaches ON, OFF or HOLD: Command Completed (R498). -/
def slotDone (s : State) (sc : Nat) : State :=
  if (s.slot sc).hostReq then (s.slotStatusSet sc 4).setSlot sc fun x => { x with hostReq := false } else s

/-- The slot reaches ON: that completes a power-on request, and not a power-off request whose turn-off is under way. -/
def slotIsOn (s : State) (sc : Nat) : State := if (s.slot sc).turnOff then s else s.slotDone sc

/-! ### States (R480 to R484) -/

/-- The slot waits in HOLD. -/
def slotHold (s : State) (sc : Nat) : State :=
  ((((s.nightFail 3).setSst sc F.SLOT_STAT_STATE 1).setSst sc F.SLOT_STAT_HELD 1)).slotDone sc

/-- The conditions of R482 that the state shows: MIN_OFF is a time. -/
def rampOk (s : State) (sc : Nat) : Bool :=
  s.sst sc F.SLOT_STAT_PRSNT == 1 && !s.contained 5 sc && (s.feedOk sc 1 || s.feedOk sc 2) && decide (2 ≤ s.mode) && decide (s.mode ≤ 6)
    && (s.slotPort sc).isSome

/-- RAMP starts (R483, R486): the preferred feed becomes active when it is good, the other one otherwise. -/
def rampGo (s : State) (sc : Nat) : State :=
  let pri := s.feedPri sc
  (((s.nightFail 3).setSst sc F.SLOT_STAT_STATE 2).setSst sc F.SLOT_STAT_HELD 0).setSst sc F.SLOT_STAT_FEED (if s.feedOk sc pri then pri else 3 - pri)

/-- A power-on request of a slot that is OFF (R482): it goes to RAMP when every condition holds, and waits in HOLD until then. DESIGN
CHOICE: no command says that MIN_OFF has passed before the request, so with the other conditions met that is a free value
(notes/assumptions/129.md). -/
def slotStart (s : State) (sc : Nat) : State :=
  if s.rampOk sc then (if s.freeBelow 2 = 1 then s.used.rampGo sc else s.used.slotHold sc) else s.slotHold sc

/-- The slot is OFF: the binding is sampled, PWRBRK_N is released (notes/assumptions/31.md), a waiting request starts. -/
def slotOff (s : State) (sc : Nat) : State :=
  let want := (s.slot sc).want
  let s := (((s.setSst sc F.SLOT_STAT_STATE 0).setSst sc F.SLOT_STAT_HELD 0).setSst sc F.SLOT_STAT_PWRBRK 0).setSlot sc fun x =>
    { x with want := false }
  let s := (s.slotSample sc).slotDone sc
  if want && (s.slotPort sc).isSome then s.slotStart sc else s

/-- The gates turn off and the slot drains (R484): PERST_N asserted, Power Controller Control off. No request made before this entry is
left: power returns with a new one. -/
def slotDrain (s : State) (sc : Nat) : State :=
  let s := ((((s.setSst sc F.SLOT_STAT_PERST 1).setSst sc F.SLOT_STAT_FEED 0).setSst sc F.SLOT_STAT_PG 0).setSst sc
    F.SLOT_STAT_HELD 0).setSst sc F.SLOT_STAT_STATE 6
  (s.setSlot sc fun x => { x with turnOff := false, want := false, slowA := false, slowB := false, inOn := false, brkHold := false }).slotPcc
    sc true

/-- RAMP, QUAL, ON or SWITCH: a gate is driven or a change is under way. -/
def slotLive (s : State) (sc : Nat) : Bool := decide (2 ≤ s.slotState sc ∧ s.slotState sc ≤ 5)

/-- A requested turn-off starts with PERST_N (R484). -/
def slotTurnOff (s : State) (sc : Nat) : State :=
  (s.setSst sc F.SLOT_STAT_PERST 1).setSlot sc fun x => { x with turnOff := true, want := false }

/-- A power-on or power-off request (R481, R482). A controller whose domain is off takes none (R503). A power-on request in the 100 µs
before a requested turn-off turns the gates off is one of before that entry to DRAIN (R484): nothing is left of it. -/
def slotReq (s : State) (sc : Nat) (on : Bool) : State :=
  let st := s.slotState sc
  if !s.pdOn 4 then s
  else if on then
    if (s.slotPort sc).isNone then s
    else if st = 0 then s.slotStart sc
    else if st = 6 then s.setSlot sc fun x => { x with want := true }
    else if (s.slot sc).turnOff then s
    else if st = 1 ∨ st = 4 then s.slotDone sc
    else s
  else if st = 1 then s.slotOff sc
  else if st = 6 then s.setSlot sc fun x => { x with want := false }
  else if st = 0 then s.slotDone sc
  else s.slotTurnOff sc

/-- The host writes Power Controller Control (R498). -/
def slotHostReq (s : State) (sc : Nat) (off : Bool) : State :=
  if (s.slotPort sc).isNone then s
  else ((s.slotPcc sc off).setSlot sc fun x => { x with hostReq := true }).slotReq sc (!off)

/-- A write of SLOT_CMD. -/
def slotCmd (sc : Nat) (v : Word) (s : State) : State :=
  match wfld v F.SLOT_CMD_OP with
  | 1 => s.slotReq sc true
  | 2 => s.slotReq sc false
  | _ => s

/-- A trip (R488 to R492): the slot drains, the fault is reported. -/
def slotTrip (s : State) (sc cause feed : Nat) : State :=
  let s := (s.slotDrain sc).setSst sc F.SLOT_STAT_TRIP cause
  let s := s.slotStatusSet sc 1
  let s := if cause ≤ 2 then s.inc (R.SLOT_CNT sc) F.SLOT_CNT_TRIPS 1
           else if cause = 5 then s else s.inc (R.SLOT_CNT sc) F.SLOT_CNT_PG_FAIL 1
  s.raise (0xD0 + sc) (if cause ≤ 2 then 0x40 else 0x42) none none (feed + 16 * cause)

/-- A held power-on request goes to RAMP (R482). -/
def slotRamp (s : State) (sc : Nat) : State := if s.slotState sc = 1 ∧ s.rampOk sc = true then s.rampGo sc else s

/-- A rail measurement (SLOT_MEAS_S). -/
def slotVsl (s : State) (sc v : Nat) : State := s.set (R.SLOT_MEAS_S sc) F.SLOT_MEAS_S_VSL v
def pgTh (s : State) (sc : Nat) : Nat := s.get (R.SLOT_VLIM2 sc) F.SLOT_VLIM2_PG_TH

/-- VSL reaches PG_TH in RAMP (R483). -/
def slotPgLevel (s : State) (sc v : Nat) : State :=
  let s := s.slotVsl sc v
  if s.slotState sc = 2 ∧ s.pgTh sc ≤ v then s.setSst sc F.SLOT_STAT_STATE 3 else s

/-- Power-good is qualified (R490). -/
def slotQualified (s : State) (sc v : Nat) : State :=
  let s := s.slotVsl sc v
  if s.slotState sc = 3 ∧ s.pgTh sc ≤ v ∧ (s.slot sc).slowA = false ∧ (s.slot sc).slowB = false then
    (((s.setSst sc F.SLOT_STAT_STATE 4).setSst sc F.SLOT_STAT_PG 1).slotIsOn sc).slotRevert sc
  else s

/-- PERST_N is released while the bound port is out of reset (R493). -/
def perstGo (s : State) (sc : Nat) : State :=
  match s.slotPort sc with
  | some P =>
    if s.slotState sc = 4 ∧ (s.slot sc).turnOff = false ∧ 2 ≤ s.mode ∧ s.mode ≤ 6
        ∧ bit (s.get R.GLB_GRP_RESET F.GLB_GRP_RESET_GRP) (P / 8) = false ∧ s.contained 3 (P / 8) = false then
      s.setSst sc F.SLOT_STAT_PERST 0
    else s
  | none => s

/-! ### Feeds (R485 to R487) -/

/-- A feed's measured voltage. -/
def feedVolt (s : State) (sc : Nat) (f : Feed) (v : Nat) : State :=
  match f with
  | .a => s.set (R.SLOT_MEAS_A sc) F.SLOT_MEAS_A_VOLT v
  | .b => s.set (R.SLOT_MEAS_B sc) F.SLOT_MEAS_B_VOLT v

def feedShunt (s : State) (sc f v : Nat) : State :=
  if f = 1 then s.set (R.SLOT_MEAS_A sc) F.SLOT_MEAS_A_SHUNT v else s.set (R.SLOT_MEAS_B sc) F.SLOT_MEAS_B_SHUNT v

def inBand (s : State) (sc v : Nat) : Bool :=
  decide (s.get (R.SLOT_VLIM sc) F.SLOT_VLIM_FEED_UV ≤ v) && decide (v ≤ s.get (R.SLOT_VLIM sc) F.SLOT_VLIM_FEED_OV)

def feedEn (s : State) (sc f : Nat) : Bool := s.on (R.SLOT_CFG sc) (if f = 1 then F.SLOT_CFG_FEED_A_EN else F.SLOT_CFG_FEED_B_EN)
def setGood (s : State) (sc f v : Nat) : State := s.setSst sc (if f = 1 then F.SLOT_STAT_A_GOOD else F.SLOT_STAT_B_GOOD) v

/-- A feed is back within its band; when it is enabled it becomes good, and with REVERT the slot goes back to the preferred one (R485,
R486). -/
def feedGoodNow (s : State) (sc : Nat) (f : Feed) (v : Nat) : State :=
  let s := s.feedVolt sc f v
  let n := feedNo f
  if !s.inBand sc v then s
  else
    let s := s.setGone sc n false
    if s.feedEn sc n then (s.setGood sc n 1).slotRevert sc else s

/-- The feed a slot runs on: the incoming one of a change (R487). -/
def feedUsed (s : State) (sc : Nat) : Nat := if s.slotState sc = 5 then (s.slot sc).target else s.sst sc F.SLOT_STAT_FEED

/-- A feed is lost (R485, R487, R491): one that was good, or the one a slot runs on although its enable has been cleared. With no feed
left the slot trips, and so it does when the incoming feed of a change is lost. -/
def feedLostNow (s : State) (sc : Nat) (f : Feed) (v : Nat) : State :=
  let s := s.feedVolt sc f v
  let n := feedNo f
  if s.inBand sc v || !(s.feedOk sc n || (s.slotLive sc && s.feedUsed sc == n && !s.feedGone sc n)) then s
  else
    let s := ((s.setGood sc n 0).setGone sc n true).raise (0xD0 + sc) 0x41 none none n
    if !s.slotLive sc then s
    else if s.feedGone sc (s.feedUsed sc) && (s.slotState sc == 5 || !s.feedOk sc (3 - s.feedUsed sc)) then s.slotTrip sc 5 3
    else s.slotRevert sc

/-- The outgoing feed's shunt has fallen below 0.5 mV after BBM: the incoming gate turns on. -/
def slotBbm (s : State) (sc sh : Nat) : State :=
  if s.slotState sc = 5 ∧ (s.slot sc).inOn = false ∧ sh < 5 then
    ((s.feedShunt sc (3 - (s.slot sc).target) sh).setSst sc F.SLOT_STAT_FEED (s.slot sc).target).setSlot sc fun x => { x with inOn := true }
  else s

/-- VSL reaches PG_TH on the new feed. -/
def slotSwitched (s : State) (sc v : Nat) : State :=
  let s := s.slotVsl sc v
  if s.slotState sc = 5 ∧ (s.slot sc).inOn = true ∧ s.pgTh sc ≤ v then
    ((((s.setSst sc F.SLOT_STAT_STATE 4).inc (R.SLOT_CNT sc) F.SLOT_CNT_SWITCHES 1).setSlot sc fun x =>
      { x with inOn := false, brkHold := true }).slotIsOn sc).slotRevert sc
  else s

/-- It does not within 100 µs (R491 cause 6). -/
def slotSwitchTo (s : State) (sc v : Nat) : State :=
  let s := s.slotVsl sc v
  if s.slotState sc = 5 ∧ (s.slot sc).inOn = true ∧ v < s.pgTh sc then s.slotTrip sc 6 (s.slot sc).target else s

/-! ### Pad hold (R517, R518) -/

/-- The pads of a slot are held: group 2 those of SC00 to SC07, group 3 those of SC08 to SC15. -/
def padHeld (s : State) (sc : Nat) : Bool := bit (s.get R.PWR_PAD_HOLD F.PWR_PAD_HOLD_HELD) (2 + sc / 8)

/-- The levels at a slot's outputs: what its controller drives, or the levels latched when the pads were: every slot is OFF then, so
the gates are off, PERST_N is asserted and PWRBRK_N is not (R512, R518; notes/assumptions/31.md). -/
def slotPins (s : State) (sc : Nat) : SlotPins :=
  if s.padHeld sc then { gateA := false, gateB := false, perst := true, pwrbrk := false }
  else
    let live := s.slotLive sc
    { gateA := live && s.sst sc F.SLOT_STAT_FEED == 1, gateB := live && s.sst sc F.SLOT_STAT_FEED == 2
      perst := s.sst sc F.SLOT_STAT_PERST == 1, pwrbrk := s.sst sc F.SLOT_STAT_PWRBRK == 1 }

/-- SLOT_STAT as it reads: PERST and PWRBRK are the levels at the outputs. -/
def slotStatWord (s : State) (sc : Nat) (w : Word) : Word :=
  setFld (setFld w F.SLOT_STAT_PERST (b2n (s.slotPins sc).perst)) F.SLOT_STAT_PWRBRK (b2n (s.slotPins sc).pwrbrk)

/-! ### Trips (R488 to R491) -/

/-- Whether a feed's gate is driven. -/
def gateOn (s : State) (sc f : Nat) : Bool := if f = 1 then (s.slotPins sc).gateA else (s.slotPins sc).gateB

def slowTh (s : State) (sc : Nat) : Nat := clampTo 1 500 (s.get (R.SLOT_ILIM sc) F.SLOT_ILIM_SLOW_TH)
def setSlow (s : State) (sc f : Nat) (b : Bool) : State := s.setSlot sc fun x => if f = 1 then { x with slowA := b } else { x with slowB := b }

def slowStart (s : State) (sc f sh : Nat) : State :=
  let s := s.feedShunt sc f sh
  if s.gateOn sc f && decide (s.slowTh sc < sh) then s.setSlow sc f true else s

def slowStop (s : State) (sc f sh : Nat) : State :=
  let s := s.feedShunt sc f sh
  if sh ≤ s.slowTh sc then s.setSlow sc f false else s

def slowTripNow (s : State) (sc f : Nat) : State :=
  if (if f = 1 then (s.slot sc).slowA else (s.slot sc).slowB) then s.slotTrip sc 2 f else s

/-! ### Presence (R494 to R496) -/

/-- A change of debounced presence is reported. -/
def presenceMove (s : State) (sc p : Nat) : State :=
  let s := ((s.setSst sc F.SLOT_STAT_PRSNT p).inc (R.SLOT_STAT sc) F.SLOT_STAT_PDC_CNT 1).slotStatusSet sc 3
  let body := leBytes 1 sc ++ leBytes 1 p ++ leBytes 1 (s.slotState sc)
  let s := match s.slotPort sc with
    | some P => s.hostEvent (s.roleHd P) 0x02 [] s.now (body ++ leBytes 1 (s.sst sc F.SLOT_STAT_TRIP))
    | none => s
  s.fabEvent 0x08 body

def occupied (s : State) (sc : Nat) : State :=
  let s := s.wakeIsland 31
  if s.sst sc F.SLOT_STAT_PRSNT = 1 then s
  else
    let s := s.presenceMove sc 1
    if s.on (R.SLOT_CFG sc) F.SLOT_CFG_AUTO_ON then s.slotReq sc true else s

def emptied (s : State) (sc : Nat) : State :=
  let s := s.wakeIsland 31
  if s.sst sc F.SLOT_STAT_PRSNT = 0 then s
  else
    let was := s.slotState sc
    let P := s.slotPort sc
    let s := if s.slotLive sc then s.slotDrain sc else s
    let s := s.presenceMove sc 0
    let s := if was = 1 then s.slotOff sc else s
    if was = 0 ∨ was = 6 then s
    else match P with | some P => s.linkGone P 1 | none => s

/-! ### Resets and the safe state (R75, R471, R493) -/

/-- A warm reset keeps slot power and asserts PERST_N; a slot that is OFF samples the binding that the reset has set back (R477). -/
def slotsWarm (s : State) : State := forAll (upTo 16) (fun sc s =>
  let s := s.setSst sc F.SLOT_STAT_PERST 1
  if s.slotState sc = 0 then s.slotSample sc else s) s

/-- The safe state asserts PERST_N; with SLOT_OFF it removes slot power, PWRBRK_N first. -/
def slotsSafe (s : State) : State :=
  let off := s.on R.FLT_SAFE F.FLT_SAFE_SLOT_OFF
  forAll (upTo 16) (fun sc s =>
    let s := s.setSst sc F.SLOT_STAT_PERST 1
    if off then
      (if s.slotLive sc then (s.setSst sc F.SLOT_STAT_PWRBRK 1).slotTurnOff sc
       else if s.slotState sc = 1 then s.slotOff sc else s)
    else s) s

/-- The containment action of a slot (R459): both feeds off. -/
def slotContain (s : State) (sc : Nat) : State := if s.slotLive sc then s.slotDrain sc else s

end State

/-! ### The commands -/

/-- A command of a slot controller: nothing happens in one whose domain is off (R503). -/
def atSlot (c : Instr) (s : State) (f : State → State) : Res' := run c s fun s => doIf (s.pdOn 4) f s

/-- SLOT_POWER_CONTROL_WRITE (R481, R498). -/
def execSlotPowerControlWrite (sc : Nat) (off : Bool) (s : State) : Res' :=
  run (.slotPowerControlWrite sc off) s fun s => s.slotHostReq sc off

/-- SLOT_ON (R481). -/
def execSlotOn (m sc : Nat) (s : State) : Res' :=
  run (.slotOn m sc) s fun s => s.cmdWrite m (R.SLOT_CMD sc) 1 (State.slotCmd sc 1)

/-- SLOT_OFF (R481). -/
def execSlotOff (m sc : Nat) (s : State) : Res' :=
  run (.slotOff m sc) s fun s => s.cmdWrite m (R.SLOT_CMD sc) 2 (State.slotCmd sc 2)

/-- PRESENCE_OCCUPIED (R494, R496). -/
def execPresenceOccupied (sc : Nat) (s : State) : Res' := atSlot (.presenceOccupied sc) s fun s => s.occupied sc

/-- PRESENCE_EMPTY (R495, R496). -/
def execPresenceEmpty (sc : Nat) (s : State) : Res' := atSlot (.presenceEmpty sc) s fun s => s.emptied sc

/-- SLOT_RAMP_START (R482, R483, R486). -/
def execSlotRampStart (sc : Nat) (s : State) : Res' := atSlot (.slotRampStart sc) s fun s => s.slotRamp sc

/-- SLOT_PG_LEVEL (R483). -/
def execSlotPgLevel (sc vsl : Nat) (s : State) : Res' := atSlot (.slotPgLevel sc vsl) s fun s => s.slotPgLevel sc vsl

/-- SLOT_PG_QUALIFIED (R490). -/
def execSlotPgQualified (sc vsl : Nat) (s : State) : Res' := atSlot (.slotPgQualified sc vsl) s fun s => s.slotQualified sc vsl

/-- PERST_RELEASE (R493). -/
def execPerstRelease (sc : Nat) (s : State) : Res' := atSlot (.perstRelease sc) s fun s => s.perstGo sc

/-- FEED_GOOD (R485, R486). -/
def execFeedGood (sc : Nat) (f : Feed) (volt : Nat) (s : State) : Res' := atSlot (.feedGood sc f volt) s fun s => s.feedGoodNow sc f volt

/-- FEED_LOST (R485, R487). -/
def execFeedLost (sc : Nat) (f : Feed) (volt : Nat) (s : State) : Res' := atSlot (.feedLost sc f volt) s fun s => s.feedLostNow sc f volt

/-- SWITCH_BBM_END (R487). -/
def execSwitchBbmEnd (sc shunt : Nat) (s : State) : Res' := atSlot (.switchBbmEnd sc shunt) s fun s => s.slotBbm sc shunt

/-- SWITCH_COMPLETE (R487). -/
def execSwitchComplete (sc vsl : Nat) (s : State) : Res' := atSlot (.switchComplete sc vsl) s fun s => s.slotSwitched sc vsl

/-- SWITCH_TIMEOUT (R491). -/
def execSwitchTimeout (sc vsl : Nat) (s : State) : Res' := atSlot (.switchTimeout sc vsl) s fun s => s.slotSwitchTo sc vsl

/-- PWRBRK_RELEASE (R487). -/
def execPwrbrkRelease (sc : Nat) (s : State) : Res' := atSlot (.pwrbrkRelease sc) s fun s =>
  if s.slotState sc = 4 ∧ (s.slot sc).brkHold = true then
    (s.setSst sc F.SLOT_STAT_PWRBRK 0).setSlot sc fun x => { x with brkHold := false }
  else s

/-- FAST_TRIP (R488). -/
def execFastTrip (sc : Nat) (f : Feed) (s : State) : Res' := atSlot (.fastTrip sc f) s fun s =>
  if s.gateOn sc (feedNo f) then s.slotTrip sc 1 (feedNo f) else s

/-- SLOW_TRIP_TIMER_START (R489). -/
def execSlowTripTimerStart (sc : Nat) (f : Feed) (shunt : Nat) (s : State) : Res' :=
  atSlot (.slowTripTimerStart sc f shunt) s fun s => s.slowStart sc (feedNo f) shunt

/-- SLOW_TRIP_TIMER_STOP (R489). -/
def execSlowTripTimerStop (sc : Nat) (f : Feed) (shunt : Nat) (s : State) : Res' :=
  atSlot (.slowTripTimerStop sc f shunt) s fun s => s.slowStop sc (feedNo f) shunt

/-- SLOW_TRIP (R489). -/
def execSlowTrip (sc : Nat) (f : Feed) (s : State) : Res' := atSlot (.slowTrip sc f) s fun s => s.slowTripNow sc (feedNo f)

/-- RAMP_TIMEOUT (R491 cause 3). -/
def execRampTimeout (sc : Nat) (s : State) : Res' := atSlot (.rampTimeout sc) s fun s =>
  if s.slotState sc = 2 then s.slotTrip sc 3 (s.sst sc F.SLOT_STAT_FEED) else s

/-- PG_LOST (R491 cause 4). -/
def execPgLost (sc vsl : Nat) (s : State) : Res' := atSlot (.pgLost sc vsl) s fun s =>
  let s := s.slotVsl sc vsl
  if s.slotState sc = 4 ∧ vsl < s.pgTh sc then s.slotTrip sc 4 (s.sst sc F.SLOT_STAT_FEED) else s

/-- TURN_OFF_WAIT_END (R484). -/
def execTurnOffWaitEnd (sc : Nat) (s : State) : Res' := atSlot (.turnOffWaitEnd sc) s fun s =>
  if (s.slot sc).turnOff then (s.setSst sc F.SLOT_STAT_PWRBRK 1).slotDrain sc else s

/-- DRAIN_END (R483). -/
def execDrainEnd (sc vsl : Nat) (s : State) : Res' := atSlot (.drainEnd sc vsl) s fun s =>
  let s := s.slotVsl sc vsl
  if s.slotState sc = 6 ∧ vsl < s.get (R.SLOT_VLIM2 sc) F.SLOT_VLIM2_OFF_TH then s.slotOff sc else s

/-- DRAIN_TIMEOUT (R483). -/
def execDrainTimeout (sc : Nat) (s : State) : Res' := atSlot (.drainTimeout sc) s fun s =>
  if s.slotState sc = 6 then (s.inc (R.SLOT_CNT sc) F.SLOT_CNT_DRAIN_TO 1).slotOff sc else s

end Sys2Proof.Machine
end

