-- ==== Sys2Proof/Machine/TblW.lean ====
section
/-! DEFINITION. The table writer (R253 to R270, 07_forwarding_model.md): entry writes with the rows they load, program loads
and switches, the fence, repair after an ECC error; and the meter and counter registers (R307, R311, R322). -/

namespace Sys2Proof.Machine

/-- Whether a table descriptor is refused (R254). -/
def descBad (d : TDesc) : Bool :=
  let size :=
    if d.ty = 2 then (if 16 < d.count then 0x200000 else 2 ^ d.count * 128) else d.count * d.esize
  if 5 ≤ d.ty then true
  else if d.ty = 0 then false
  else ((d.ty == 2 || d.ty == 3) && d.esize != 32) || (d.ty == 4 && d.esize != 64)
    || decide (d.base < 1024) || decide (0x200000 < d.base + size)
    || (d.ty == 4 && decide (4096 < d.seed % 4096 + d.count))

/-- The descriptors that a write of `[off, off + len)` touches. -/
def descsIn (off len : Nat) : List Nat :=
  (upTo 64).filter (fun n => decide (16 * n < off + len) && decide (off < 16 * n + 16))

namespace Den

/-- The match row of a ternary entry (R257): value in bytes 8–27, mask in bytes 28–47. -/
def rowOf (D : Den) (off : Nat) : TernRow := ⟨leNat (D.tblBytes (off + 8) 20), leNat (D.tblBytes (off + 28) 20)⟩

/-- Rows ROW_BASE to ROW_BASE + COUNT − 1 loaded from the entries a descriptor names. -/
def loadRows (D : Den) (d : TDesc) : Den :=
  { D with rows := (upTo d.count).foldl (fun t i => t.put dRow (d.seed % 4096 + i) (D.rowOf (d.base + 64 * i))) D.rows }

/-- Bytes of table memory rewritten: damaged words they cover are written over (R259). -/
def rewrite (D : Den) (off : Nat) (bs : List Byte) : Den :=
  let clean := fun (l : List Nat) => l.filter (fun w => !(decide (off ≤ w) && decide (w + 8 ≤ off + bs.length)))
  { D with tbl := putBytes zeroByte D.tbl off bs, badTab := clean D.badTab, sglTab := clean D.sglTab }

/-- An entry write applied in a den (R257, R262): descriptors written with TYPE 4 load their rows first; a write inside
entry i of a ternary descriptor in force loads its row. -/
def write (D : Den) (off : Nat) (bs : List Byte) : Den :=
  let new := D.rewrite off bs
  let D' := (descsIn off bs.length).foldl (fun acc n =>
    let d := new.tdesc n
    if d.ty = 4 then acc.loadRows d else acc) new
  (upTo 64).foldl (fun acc n =>
    let d := D.tdesc n
    if d.ty = 4 ∧ d.base ≤ off ∧ off < d.base + 64 * d.count then
      let i := (off - d.base) / 64
      { acc with rows := acc.rows.put dRow (d.seed % 4096 + i) (new.rowOf (d.base + 64 * i)) }
    else acc) D'

end Den

namespace State

/-- Whether a den's quad is powered (R503). -/
def denOn (s : State) (d : Nat) : Bool := s.pdOn (26 + d / 4)

/-- The den loads its program from the shadow and its tables, with their ternary rows, from the master (R75, R261, R269). -/
def reloadDen (s : State) (d : Nat) : State :=
  s.setDen d fun D =>
    let D : Den := { D with
      prog := (s.tblw.shadow.filter (fun e => e.1 / 16384 == d)).map (fun e => (e.1 % 16384, e.2))
      tbl := s.tblw.master, rows := [], badProg := [], badTab := [], sglProg := [], sglTab := [] }
    (upTo 64).foldl (fun acc n => if (acc.tdesc n).ty = 4 then acc.loadRows (acc.tdesc n) else acc) D

/-- TBL_WR_STAT and TBL_PSTAT follow the queue: commands queued, one in progress, a load or switch in progress. -/
def refreshTbl (s : State) : State :=
  let q := s.tblw.q
  let prog := q.any (fun c => match c with | .entry .. => false | _ => true)
  ((s.set R.TBL_WR_STAT F.TBL_WR_STAT_QDEPTH q.length).set R.TBL_WR_STAT F.TBL_WR_STAT_BUSY (b2n !q.isEmpty)).set
    R.TBL_PSTAT F.TBL_PSTAT_BUSY (b2n prog)

/-- A command joins the writer's queue of 64, or is refused with ERR 1 (R260). -/
def tblQueue (s : State) (c : TblCmd) : State :=
  if 64 ≤ s.tblw.q.length then s.set R.TBL_WR_STAT F.TBL_WR_STAT_ERR 1
  else ({ s with tblw := { s.tblw with q := s.tblw.q ++ [c] } }.refreshTbl.nightFail 5).wakeIsland 34

/-- A write of the device's own joins the queue whatever waits there: a guest's BAR write is never lost (R186). -/
def entryOwn (s : State) (off : Nat) (bs : List Byte) : State :=
  (({ s with tblw := { s.tblw with q := s.tblw.q ++ [TblCmd.entry off bs none], acc := s.tblw.acc + 1 } }).refreshTbl).wakeIsland 34

/-- The master as it will stand once the queued entry writes are done. -/
def futureMaster (s : State) : Tab Byte :=
  s.tblw.q.foldl (fun t c => match c with | .entry off bs _ => putBytes zeroByte t off bs | _ => t) s.tblw.master

/-- An entry write is queued or refused (R254, R260, R261). -/
def entryWrite (s : State) (off : Nat) (bs : List Byte) (ans : Option (Nat × List Byte)) : State :=
  if off % bs.length ≠ 0 then s.set R.TBL_WR_STAT F.TBL_WR_STAT_ERR 3
  else
    let t := putBytes zeroByte s.futureMaster off bs
    if (descsIn off bs.length).any (fun n => descBad (tdescOf (bytesAt zeroByte t (16 * n) 16))) then
      s.set R.TBL_WR_STAT F.TBL_WR_STAT_ERR 2
    else
      let n := s.tblw.q.length
      let s := s.tblQueue (.entry off bs ans)
      if s.tblw.q.length = n then s else { s with tblw := { s.tblw with acc := s.tblw.acc + 1 } }

/-- A write of TBL_WR_CMD. -/
def tblWrCmd (m : Nat) (v : Word) (s : State) : State :=
  let s := s.store m R.TBL_WR_CMD v
  if won v F.TBL_WR_CMD_GO then
    let len := 8 * 2 ^ wfld v F.TBL_WR_CMD_LEN
    let bs := ((upTo 16).flatMap (fun k => leBytes 4 (s.rd (R.TBL_WR_DATA k)).toNat)).take len
    s.entryWrite (s.get R.TBL_WR_ADDR F.TBL_WR_ADDR_OFFSET * 8) bs none
  else s

/-- A write of TBL_PLOAD_CMD (R266): a load beyond the memory is refused at once; the overlap with an active region is
judged when the writer comes to the load. -/
def tblPloadCmd (m : Nat) (v : Word) (s : State) : State :=
  let s := s.store m R.TBL_PLOAD_CMD v
  if won v F.TBL_PLOAD_CMD_GO then
    let dst := s.get R.TBL_PLOAD_DST F.TBL_PLOAD_DST_DST
    let n := s.get R.TBL_PLOAD_DST F.TBL_PLOAD_DST_COUNT_M1 + 1
    if 16384 < dst + n then s.set R.TBL_PSTAT F.TBL_PSTAT_REFUSED 1
    else s.tblQueue (.load (s.get R.TBL_PLOAD_SRC F.TBL_PLOAD_SRC_SRC * 8) dst n (wfld v F.TBL_PLOAD_CMD_DENS))
  else s

/-- A write of TBL_PSWITCH (R267). -/
def tblPswitch (m : Nat) (v : Word) (s : State) : State :=
  let s := s.store m R.TBL_PSWITCH v
  if won v F.TBL_PSWITCH_GO then s.tblQueue (.switch (wfld v F.TBL_PSWITCH_DENS)) else s

/-- The head command is finished; the response that follows a fabric TABLE_WRITE waits for the fence (R351). -/
def tblPop (s : State) : State :=
  let ans := match s.tblw.q with
    | .entry _ _ (some a) :: _ => [(a.1, a.2, (upTo 16).foldl (fun t d => t.put dZero d (s.den d).fenceAt) [])]
    | _ => []
  { s with tblw := { s.tblw with q := s.tblw.q.drop 1, stage := 0, answers := s.tblw.answers ++ ans } }.refreshTbl

def tblStage (s : State) (k : Nat) : State := { s with tblw := { s.tblw with stage := k } }

/-- The next named den from `k` on. -/
def nextDen (dens : Nat) : Nat → Nat → Option Nat
  | 0, _ => none
  | n + 1, k => if 16 ≤ k then none else if bit dens k then some k else nextDen dens n (k + 1)

/-- Whether a load overlaps the region of the active set of a den (R266). -/
def loadOverlaps (s : State) (dst n d : Nat) : Bool :=
  let r := R.DEN_REGION d (s.get (R.DEN_PROG_CTL d) F.DEN_PROG_CTL_SEL)
  decide (dst ≤ s.get r F.DEN_REGION_HI) && decide (s.get r F.DEN_REGION_LO < dst + n)

/-- The instructions a load copies: words of control memory (R266), which the writer reads as master 6 (R432). -/
def loadWords (s : State) (src n : Nat) : State × List DWord :=
  let (s, bs) := cmemReads 6 (chunksOf src (8 * n)) s
  (s, (upTo n).map fun i => BitVec.ofNat 64 (fieldAt bs (8 * i) 8))

/-- Instructions stored from an index on in a table of instructions. -/
def putWords (t : Tab DWord) (a : Nat) (ws : List DWord) : Tab DWord :=
  t.takeWhile (fun e => decide (e.1 < a)) ++ Tab.lay dInstr a ws (t.dropWhile fun e => decide (e.1 < a))

/-- A switch moves to the next named den that is powered and flips its SEL, or ends (R267). Stage 2k + 1 waits for den k. -/
def switchFrom (s : State) (dens : Nat) : Nat → Nat → State
  | 0, _ => s.tblPop
  | n + 1, k =>
    match nextDen dens 16 k with
    | none => s.tblPop
    | some d =>
      if s.denOn d then
        let a := R.DEN_PROG_CTL d
        let s := s.wakeIsland (24 + d / 4)
        let s := s.set a F.DEN_PROG_CTL_SEL (1 - s.get a F.DEN_PROG_CTL_SEL)
        ((s.refreshProg d).set R.TBL_PSTAT F.TBL_PSTAT_CUR_DEN d).tblStage (2 * d + 1)
      else switchFrom s dens n (d + 1)

/-- The entry write at the head of the queue has taken effect in den d: fence reads that wait for it also wait for the jobs
dispatched there before (R264). -/
def fenceMark (s : State) (d : Nat) : State :=
  let no := s.tblw.acc + 1 - s.entriesLeft
  { s with tblw := { s.tblw with fences := s.tblw.fences.map fun x =>
      if no ≤ x.acc then { x with marks := x.marks.put dZero d (s.den d).disp } else x } }

/-- The writer's next step (R261, R266, R267). -/
def tblStep (s : State) : State :=
  match s.tblw.q with
  | [] => s
  | .entry off bs _ :: _ =>
    let k := s.tblw.stage
    if k = 0 then
      { s with tblw := { s.tblw with master := putBytes zeroByte s.tblw.master off bs, stage := 1 } }
    else
      let d := k - 1
      let s := if s.denOn d then ((s.wakeIsland (24 + d / 4)).setDen d fun D => { (D.write off bs) with fenceAt := D.disp }).fenceMark d
        else s
      if d < 15 then s.tblStage (k + 1) else s.tblPop
  | .load src dst n dens :: _ =>
    let k := s.tblw.stage
    if k = 0 ∧ ((upTo 16).any fun d => bit dens d && s.loadOverlaps dst n d) then
      s.tblPop.set R.TBL_PSTAT F.TBL_PSTAT_REFUSED 1
    else
      match nextDen dens 16 k with
      | none => s.tblPop
      | some d =>
        let (s, ws) := s.loadWords src n
        let s := { s with tblw := { s.tblw with shadow := putWords s.tblw.shadow (16384 * d + dst) ws } }
        let s := if s.denOn d then (s.wakeIsland (24 + d / 4)).setDen d fun D => { D with
            prog := putWords D.prog dst ws
            badProg := D.badProg.filter (fun i => !(decide (dst ≤ i) && decide (i < dst + n)))
            sglProg := D.sglProg.filter (fun i => !(decide (dst ≤ i) && decide (i < dst + n))) } else s
        let s := s.set R.TBL_PSTAT F.TBL_PSTAT_CUR_DEN d
        if (nextDen dens 16 (d + 1)).isSome then s.tblStage (d + 1) else s.tblPop
  | .switch dens :: _ => if s.tblw.stage % 2 = 0 then s.switchFrom dens 16 (s.tblw.stage / 2) else s

/-- A den the switch waits for has drained: on to the next (R267). -/
def tblDrained (s : State) (d : Nat) : State :=
  match s.tblw.q with
  | .switch dens :: _ =>
    if s.tblw.stage = 2 * d + 1 ∧ s.on (R.DEN_PROG_STAT d) F.DEN_PROG_STAT_DRAINED = true then
      (if (nextDen dens 16 (d + 1)).isSome then s.tblStage (2 * (d + 1)) else s.tblPop)
    else s
  | _ => s

/-- Meters and counters (R307, R311, R321, R322). -/
def mtrIdx (m d : Nat) (v : Word) (s : State) : State :=
  let s := s.store m (R.DEN_MTR_IDX d) v
  let i := wfld v F.DEN_MTR_IDX_IDX
  if won v F.DEN_MTR_IDX_GO then
    let cbs := s.get (R.DEN_MTR_BURST d) F.DEN_MTR_BURST_CBS
    let pbs := s.get (R.DEN_MTR_BURST d) F.DEN_MTR_BURST_PBS
    let k : Meter := {
      unl := won v F.DEN_MTR_IDX_UNL, cir := s.get (R.DEN_MTR_RATE d) F.DEN_MTR_RATE_CIR,
      pir := s.get (R.DEN_MTR_RATE d) F.DEN_MTR_RATE_PIR, cbs := cbs, pbs := pbs, last := s.now,
      tc := mantExp cbs * 8000, tp := mantExp pbs * 8000 }
    s.setDen d fun D => { D with meters := D.meters.put dMeter i k }
  else if won v F.DEN_MTR_IDX_READ then
    let k := (s.den d).meters.get dMeter i
    ((((s.set (R.DEN_MTR_IDX d) F.DEN_MTR_IDX_UNL (b2n k.unl)).set (R.DEN_MTR_RATE d) F.DEN_MTR_RATE_CIR k.cir).set
      (R.DEN_MTR_RATE d) F.DEN_MTR_RATE_PIR k.pir).set (R.DEN_MTR_BURST d) F.DEN_MTR_BURST_CBS k.cbs).set
      (R.DEN_MTR_BURST d) F.DEN_MTR_BURST_PBS k.pbs
  else s

def ctrIdx (m d : Nat) (v : Word) (s : State) : State :=
  let s := s.store m (R.DEN_CTR_IDX d) v
  if won v F.DEN_CTR_IDX_SNAP then
    let i := wfld v F.DEN_CTR_IDX_IDX
    let c := (s.den d).ctrs.get dPair i
    let w := fun n => BitVec.ofNat 32 n
    let s := (((s.wr (R.DEN_CTR_PKT_LO d) (w c.1)).wr (R.DEN_CTR_PKT_HI d) (w (c.1 / 2 ^ 32))).wr (R.DEN_CTR_BYT_LO d) (w c.2)).wr
      (R.DEN_CTR_BYT_HI d) (w (c.2 / 2 ^ 32))
    if won v F.DEN_CTR_IDX_CLR then s.setDen d fun D => { D with ctrs := D.ctrs.put dPair i (0, 0) } else s
  else s

/-- A write of DENdd_PROG_CTL (R268). -/
def progCtl (m d : Nat) (v : Word) (s : State) : State := (s.store m (R.DEN_PROG_CTL d) v).refreshProg d

end State

open State

/-- TABLE_ENTRY_WRITE (R260). -/
def execTableEntryWrite (m : Nat) (v : Word) (s : State) : Res' :=
  run (.tableEntryWrite m v) s fun s => s.cmdWrite m R.TBL_WR_CMD v (tblWrCmd m v)

/-- TABLE_FENCE (R264): the read returns 0 once the fence is met, and is held until then. -/
def execTableFence (m : Nat) (s : State) : Res' :=
  run (.tableFence m) s fun s => s.checked (.word m false R.TBL_FENCE 0) fun s => s.fenceWord m R.TBL_FENCE

/-- PROGRAM_LOAD (R266). -/
def execProgramLoad (m : Nat) (v : Word) (s : State) : Res' :=
  run (.programLoad m v) s fun s => s.cmdWrite m R.TBL_PLOAD_CMD v (tblPloadCmd m v)

/-- PROGRAM_SWITCH (R267). -/
def execProgramSwitch (m : Nat) (v : Word) (s : State) : Res' :=
  run (.programSwitch m v) s fun s => s.cmdWrite m R.TBL_PSWITCH v (tblPswitch m v)

/-- DEN_DRAINED (R267). -/
def execDenDrained (d : Nat) (s : State) : Res' := run (.denDrained d) s fun s => s.tblDrained d

/-- PROG_SEL_WRITE (R268). -/
def execProgSelWrite (m d : Nat) (v : Word) (s : State) : Res' :=
  run (.progSelWrite m d v) s fun s => s.cmdWrite m (R.DEN_PROG_CTL d) v (progCtl m d v)

/-- METER_COMMIT (R307). -/
def execMeterCommit (m d : Nat) (v : Word) (s : State) : Res' :=
  run (.meterCommit m d v) s fun s => s.cmdWrite m (R.DEN_MTR_IDX d) v (mtrIdx m d v)

/-- METER_READ (R322). -/
def execMeterRead (m d : Nat) (v : Word) (s : State) : Res' :=
  run (.meterRead m d v) s fun s => s.cmdWrite m (R.DEN_MTR_IDX d) v (mtrIdx m d v)

/-- COUNTER_SNAP (R311). -/
def execCounterSnap (m d : Nat) (v : Word) (s : State) : Res' :=
  run (.counterSnap m d v) s fun s => s.cmdWrite m (R.DEN_CTR_IDX d) v (ctrIdx m d v)

/-- ECC_REPAIR (R259): the damaged instruction is rewritten from the shadow, the damaged 8 B word of an entry from the
master. -/
def execEccRepair (d : Nat) (loc : EccLoc) (s : State) : Res' :=
  run (.eccRepair d loc) s fun s =>
    match loc with
    | .prog i => s.setDen d fun D => { D with
        prog := D.prog.put dInstr i (s.tblw.shadow.get dInstr (16384 * d + i))
        badProg := D.badProg.filter (· != i), sglProg := D.sglProg.filter (· != i) }
    | .table off =>
      let w := off / 8 * 8
      s.setDen d fun D => D.rewrite w (bytesAt zeroByte s.tblw.master w 8)

end Sys2Proof.Machine
end

