-- ==== Sys2Proof/Machine/Groups.lean ====
section
/-! DEFINITION. The reset of a port group and its release (R75, R76, 02_modes_and_boot.md; R79 to R84, 03_lanes.md). -/

namespace Sys2Proof.Machine

/-- A meter keeps its configuration with full buckets (R305). -/
def meterFull (now : Nat) (k : Meter) : Meter := { k with tc := mantExp k.cbs * 8000, tp := mantExp k.pbs * 8000, last := now }

namespace State

/-- The ports of a group. -/
def groupPorts (g : Nat) : List Nat := (upTo 8).map (g * 8 + ·)

/-- A fabric link is taken down by a reset: its port reset, DOWN, a LINK_DOWN event when it was up (R364). -/
def fabricDown (s : State) (P cause : Nat) : State :=
  let g := P / 8
  let p := P % 8
  if !s.isFabric P then s
  else
    let st := s.linkState g p
    let s := if st = 4 then s.abandonSwap g p else s
    let s := (s.linkPortReset g p).linkSet g p F.GRP_LINK_STAT_STATE 0
    if st = 3 ∨ st = 4 then (s.fabEvent 0x02 (leBytes 1 P ++ leBytes 1 cause)).emit (.linkDown P) else s

/-- The den of a group: jobs, header queues and counters go, meters refill, program and tables are reloaded. -/
def denReset (s : State) (d : Nat) : State :=
  (s.setDen d fun D => { D with
    prio := [], norm := [], spill := [], spillP := [], cyc := [], jobs := [], rel := [], ctrs := [], post := [], used := [], waitq := [],
    meters := D.meters.map fun e => (e.1, meterFull s.now e.2), spoorCnt := 0, spoorSeq := 0, spoorLost := false }).reloadDen d

/-- A group enters reset (R75): links down, queues of its ports emptied, its den and its counters reset. The reset itself restores no
slice field and no FLR field (R15). DEDUCED: where it takes down the link of an upstream port, what R179 does to the domain is the step
UPSTREAM_RESET (notes/assumptions/98.md). -/
def groupReset (s : State) (g : Nat) : State :=
  let ps := groupPorts g
  let s := forAll ps (fun P s => if s.isPcie P then s.groupDown P else s.fabricDown P 0) s
  let s := (s.dropArrivals g)
  let s := forAll ps (fun P s => s.flushPort P) s
  let s := s.setSett fun t => { t with shut := t.shut.filter (fun P => !ps.contains P) ++ ps.filter s.portEn }
  let s := forAll (upTo 17) (fun n s => s.laneDown g n) s
  let lo := 0x100000 + g * 0x10000
  let dlo := 0x300000 + g * 0x10000
  let s := s.resetFields (fun a => (decide (lo ≤ a) && decide (a < lo + 0x10000)) || (decide (dlo ≤ a) && decide (a < dlo + 0x10000)))
    groupKinds
  let s := { s with tel := { s.tel with
    ctr := s.tel.ctr.drop (fun k => k / 64 == g || k / 64 == 16 + g), cleared := s.tel.cleared ++ [g, 16 + g] } }
  s.denReset g

/-- The lock of a group's PLL as PWR_CLK_STAT reports it: locked when the group leaves reset, not while its domain is off
(R509, R511; notes/assumptions/35.md). -/
def grpLock (s : State) (g : Nat) (b : Bool) : State :=
  let w := s.get R.PWR_CLK_STAT F.PWR_CLK_STAT_GRP_LOCK
  s.set R.PWR_CLK_STAT F.PWR_CLK_STAT_GRP_LOCK (if bit w g = b then w else if b then w + 2 ^ g else w - 2 ^ g)

/-- The lanes of a group that no enabled port of a valid layout holds, and the spare (R79, R82). -/
def idleLanes (s : State) (g : Nat) : List Nat :=
  (upTo 17).filter fun n => !(groupPorts g).any fun P => s.portEn P && (s.portLanes P).contains n

/-- The ports of a powered group start under its sampled layout: lanes of no port are powered down, fabric links start bring-up at W1
where the mode runs them, PCI Express ports take their roles. -/
def groupStart (s : State) (g : Nat) : State :=
  let s := forAll (s.idleLanes g) (fun n s => s.laneDown g n) s
  forAll (groupPorts g) (fun P s =>
    if s.isFabric P then (if s.linkState g (P % 8) = 0 then s.startTraining g (P % 8) else s)
    else if s.isPcie P then s.takeRole P
    else s) s

/-- A group leaves reset (R76, R80): its layout is sampled. Without an enabled port its domain is switched off (R83, R503); with one the
ports start, once the domain is on (R504). -/
def groupRelease (s : State) (g : Nat) : State :=
  let s := s.sampleLayout g
  if !s.groupUsed g then (s.setPd (10 + g) false).grpLock g false
  else if s.pdOn (10 + g) then (s.grpLock g true).groupStart g
  else s

/-- A group's reset is over and waits for its domain (R504), or not. -/
def groupDue (s : State) (g : Nat) (b : Bool) : State :=
  { s with pwr := { s.pwr with due := s.pwr.due.filter (· != g) ++ (if b then [g] else []) } }

/-- A write of GLB_GRP_RESET: each bit written as 1 starts a reset of its group (R76). -/
def grpResetWrite (v : Word) (s : State) : State :=
  forAll (upTo 16) (fun g s =>
    if bit v.toNat g then
      ((s.groupReset g).groupDue g false).set R.GLB_GRP_RESET F.GLB_GRP_RESET_GRP
        (if bit (s.get R.GLB_GRP_RESET F.GLB_GRP_RESET_GRP) g then s.get R.GLB_GRP_RESET F.GLB_GRP_RESET_GRP
         else s.get R.GLB_GRP_RESET F.GLB_GRP_RESET_GRP + 2 ^ g)
    else s) s

/-- The bit of a group in GLB_GRP_RESET clears. -/
def grpBitClear (s : State) (g : Nat) : State :=
  let b := s.get R.GLB_GRP_RESET F.GLB_GRP_RESET_GRP
  if bit b g then s.set R.GLB_GRP_RESET F.GLB_GRP_RESET_GRP (b - 2 ^ g) else s

/-- A group reset completes, unless the owl holds the group (R459): its layout is sampled, its bit clears and its links retrain. A domain
that the layout needs and that is off powers up before the group leaves reset (R504). -/
def groupDone (s : State) (g : Nat) : State :=
  if !bit (s.get R.GLB_GRP_RESET F.GLB_GRP_RESET_GRP) g || s.contained 3 g then s
  else if s.mode = 0 ∨ s.mode = 7 then s.grpBitClear g
  else if s.pdOn (10 + g) then (s.grpBitClear g).groupRelease g
  else
    let t := s.sampleLayout g
    if t.groupUsed g then t.groupDue g true else (s.grpBitClear g).groupRelease g

end State

/-- GROUP_RESET (R76). -/
def execGroupReset (m : Nat) (v : Word) (s : State) : Res' :=
  run (.groupReset m v) s fun s => s.cmdWrite m R.GLB_GRP_RESET v (State.grpResetWrite v)

/-- GROUP_RESET_DONE (R76). -/
def execGroupResetDone (g : Nat) (s : State) : Res' := run (.groupResetDone g) s fun s => s.groupDone g

end Sys2Proof.Machine
end

