-- ==== Sys2Proof/Machine/Owl.lean ====
section
/-! DEFINITION. The owl (R455 to R475, 14_faults.md): records, containment domains, timers, recovery, escalation, and the
safe state. -/

namespace Sys2Proof.Machine

/-- The domain a fault message belongs to, as (scope, index) (R459, R475). -/
def faultDom (f : FaultMsg) : Nat × Nat :=
  let sc := kindScope f.kind
  if sc = 0 then (0, 0)
  else if sc = 1 then (1, f.slice.getD 0)
  else if sc = 2 then (2, f.source % 128)
  else if sc = 3 then (3, f.source % 16)
  else if sc = 5 then (5, f.source % 16)
  else (6, 0)

namespace State

/-! ### Domains (R459, R465 to R467) -/

def domKey (d : Nat × Nat) : Nat := d.1 * 4096 + d.2
def domSt (s : State) (d : Nat × Nat) : DomSt := s.owl.doms.get (fun _ => {}) (domKey d)
def setDomSt (s : State) (d : Nat × Nat) (f : DomSt → DomSt) : State :=
  { s with owl := { s.owl with doms := s.owl.doms.upd (fun _ => {}) (domKey d) f } }

/-- The parent of a domain. -/
def parent (s : State) (d : Nat × Nat) : Option (Nat × Nat) :=
  if d.1 = 1 then some (4, s.slcHd d.2)
  else if d.1 = 2 then some (3, d.2 / 8)
  else if d.1 = 3 ∨ d.1 = 4 ∨ d.1 = 5 then some (6, 0)
  else none

/-- A domain and everything it lies inside, nearest first. -/
def ancestry (s : State) (d : Nat × Nat) : List (Nat × Nat) :=
  match s.parent d with
  | none => [d]
  | some p => match s.parent p with
    | none => [d, p]
    | some q => [d, p, q]

/-- The first of a domain's ancestry in a state. -/
def domFirst (s : State) (st : Nat) (d : Nat × Nat) : Option (Nat × Nat) := (s.ancestry d).find? fun x => (s.domSt x).st == st

/-- OPEN_S and REC_ACT follow the timers and the recovery slots. -/
def owlStat (s : State) : State :=
  let n := (s.owl.doms.filter fun e => e.2.st == 1).length
  let s := if s.owl.timers.length + n = 0 then s else s.nightFail 4
  (s.set R.FLT_STAT F.FLT_STAT_OPEN_S s.owl.timers.length).set R.FLT_STAT F.FLT_STAT_REC_ACT n

/-- A domain enters RECOVERY (R465): what lies inside it returns to NORMAL, its timers stop. -/
def enterRecovery (s : State) (d : Nat × Nat) : State :=
  let s := { s with owl := { s.owl with
    doms := s.owl.doms.mapAll (fun _ => {}) fun k x =>
      if x.st = 1 ∧ (s.ancestry (k / 4096, k % 4096)).contains d = true then { x with st := 0 } else x
    timers := s.owl.timers.filter fun t => !(s.ancestry (t.scope, t.idx)).contains d } }
  (s.setDomSt d fun x => { x with st := 1 }).owlStat

/-! ### Records (R457, R458, R474) -/

/-- A record's 32 bytes. -/
def recordBytes (s : State) (f : FaultMsg) (d : Nat × Nat) (disp : Nat) : List Byte :=
  leBytes 2 f.source ++ leBytes 1 f.kind
    ++ leBytes 1 (b2n (kindC.contains f.kind) + 2 * b2n f.slice.isSome + 4 * b2n f.addr.isSome + 8 * disp)
    ++ leBytes 2 (f.slice.getD 0) ++ leBytes 2 s.owl.seq ++ leBytes 6 (f.addr.getD 0) ++ leBytes 2 (d.2 % 4096 + d.1 * 4096)
    ++ leBytes 8 s.now ++ leBytes 4 f.detail ++ leBytes 1 (s.domSt d).rcnt ++ [0, 0, 0]

/-- A record is formed: SEQ advances; unless its kind is masked it is stored, or counted when the ring is full. -/
def record (s : State) (f : FaultMsg) (d : Nat × Nat) (disp : Nat) : State :=
  let disp := if s.on R.FLT_STAT F.FLT_STAT_SAFE then 6 else disp
  let b := s.recordBytes f d disp
  let s := { s with owl := { s.owl with seq := (s.owl.seq + 1) % 65536 } }
  if s.on (R.FLT_KIND f.kind) F.FLT_KIND_MASK then s
  else
    let wr := s.get R.FLT_RING F.FLT_RING_WR
    if (wr + 512 - s.get R.FLT_RING F.FLT_RING_RD) % 512 = 256 then s.inc R.FLT_CNT F.FLT_CNT_REC_OVF 1
    else
      let s := { s with owl := { s.owl with ring := putBytes zeroByte s.owl.ring (wr % 256 * 32) b } }
      ((s.set R.FLT_RING F.FLT_RING_WR ((wr + 1) % 512)).count 36 1 f.kind 1).irq 0

/-! ### The safe state (R470 to R472) -/

/-- Every lane goes to electrical idle: hosts and fabric partners see their links go down, and no reset follows (R471). -/
def allIdle (s : State) : State :=
  let s := forAll (upTo 128) (fun P s =>
    let s := if s.portUp P then s.emit (.linkDown P) else s
    if s.isFabric P then s.linkSet (P / 8) (P % 8) F.GRP_LINK_STAT_STATE 0
    else if s.isPcie P then s.set (R.GRP_PCIE_STAT (P / 8) (P % 8)) F.GRP_PCIE_STAT_UP 0
    else s) s
  forAll (upTo 16) (fun g s => forAll (upTo 17) (fun n s => s.laneDown g n) s) s

/-- Entry to the safe state: the first cause stands. A transition that runs is pre-empted (R52), jobs are abandoned, every
lane is idle, a flash transfer is cut. -/
def safe (s : State) (cause : Nat) : State :=
  if s.on R.FLT_STAT F.FLT_STAT_SAFE then s
  else
    let s := ((s.nightFail 2).set R.FLT_STAT F.FLT_STAT_SAFE 1).set R.FLT_STAT F.FLT_STAT_SAFE_CAUSE cause
    let busy := s.transiting
    let s := if busy then (s.set R.GLB_MODE F.GLB_MODE_STATE 3).set R.GLB_MODE F.GLB_MODE_REASON 5 else s
    let s := ((s.set R.GLB_MODE F.GLB_MODE_PREV s.mode).set R.GLB_MODE F.GLB_MODE_CUR 7).set R.MGT_FAB_ID F.MGT_FAB_ID_ROLE 3
    let s := if busy then s.modeEvent else s
    let s := forAll (upTo 16) (fun d s => if (s.den d).jobs.isEmpty then s else s.setDen d fun D => { D with jobs := [], waitq := [], used := [] }) s
    let s := { s.allIdle with boot := { s.boot with stage := if s.boot.stage = BootStage.reset then BootStage.reset else BootStage.ended } }
    let s := State.flashSafe { s with faultN := true }
    ((s.slotsSafe.emit .safePins).emit (.ibi 0xAE))

/-! ### Containment and release (R459) -/

/-- The containment action of a domain. A fabric link has already been declared broken by its own link layer (R155). -/
def containAct (s : State) (d : Nat × Nat) : State :=
  if d.1 = 1 then s.slcContain d.2
  else if d.1 = 2 then
    (if s.isPcie d.2 then
       (if s.role d.2 = 1 then
          let h := s.roleHd d.2
          if s.portUp d.2 then s.linkGone d.2 2 else s.slcsReset h 2
        else s.dpcGo d.2 .containment)
     else s)
  else if d.1 = 3 then
    (s.groupReset d.2).set R.GLB_GRP_RESET F.GLB_GRP_RESET_GRP
      (BitVec.ofNat 16 (s.get R.GLB_GRP_RESET F.GLB_GRP_RESET_GRP) ||| BitVec.ofNat 16 (2 ^ d.2)).toNat
  else if d.1 = 4 then
    (let P := (s.dom d.2).upPort
     if (s.dom d.2).on && s.role P == 1 && s.portUp P then s.linkGone P 2 else s.slcsReset d.2 2)
  else if d.1 = 5 then s.slotContain d.2
  else s

/-- The release of a domain: the owl resets a slice; a group whose reset a warm reset has ended since leaves its containment, and its links
retrain (R473); the rest follows from the domain's state. -/
def releaseAct (s : State) (d : Nat × Nat) : State :=
  if d.1 = 1 then s.slcOwlReset d.2
  else if d.1 = 3 ∧ bit (s.get R.GLB_GRP_RESET F.GLB_GRP_RESET_GRP) d.2 = false ∧ s.mode ≠ 0 ∧ s.mode ≠ 7 then s.groupRelease d.2
  else s

/-- A domain is contained by the owl and enters RECOVERY, or the slots are exhausted (R465, R468): slots are counted before those of
domains inside it come free (DEDUCED, notes/assumptions/33.md). -/
def containDom (s : State) (f : FaultMsg) (d : Nat × Nat) (act : Bool) : State :=
  if d.1 = 6 then ((s.safe 2).record f d 6)
  else if 64 ≤ (s.owl.doms.filter fun e => e.2.st == 1).length then (s.safe 3).record f d 6
  else
    let s := s.record f d 0
    (if act then s.containAct d else s).enterRecovery d

/-- The ESCALATE message (R457, R463). -/
def escMsg (seq reason : Nat) : FaultMsg := ⟨0x3C0, 0x60, none, none, seq % 65536 + 65536 * reason⟩

/-- An escalation contains the parent of a domain (R463); a parent that is or lies in a domain in RECOVERY passes it on to
that domain's parent (collision table), one that is or lies in a LATCHED domain ends it (R467). -/
def escalate : Nat → Nat × Nat → Nat → Nat → State → State
  | 0, _, _, _, s => s
  | n + 1, d, seq, reason, s =>
    match s.parent d with
    | none => (s.safe 2).record (escMsg seq reason) (6, 0) 6
    | some p =>
      if (s.domFirst 2 p).isSome then s.record (escMsg seq reason) p 3
      else match s.domFirst 1 p with
        | some r => escalate n r seq reason s
        | none => s.containDom (escMsg seq reason) p true

/-- A fault message at the owl (R457 to R468, R472). -/
def takeFault (s : State) (f : FaultMsg) : State :=
  let acted := s.owl.done.contains f
  let s := { s with faults := s.faults.erase f, owl := { s.owl with done := s.owl.done.erase f } }
  let d := faultDom f
  let seq := s.owl.seq
  if s.on R.FLT_STAT F.FLT_STAT_SAFE then s.record f d 6
  else if d.1 = 0 then s.record f d 5
  else if (s.domFirst 2 d).isSome then
    let s := if kindC.contains f.kind && !acted then { s with owl := { s.owl with owed := s.owl.owed ++ [f] } } else s
    s.record f d 3
  else match s.domFirst 1 d with
    | some r => escalate 4 r seq 1 (s.record f d 4)
    | none =>
      if kindC.contains f.kind then
        (if d.1 = 6 then (s.safe 1).record f d 6
         else if acted then s.containDom f d false
         else State.containDom { s with owl := { s.owl with owed := s.owl.owed ++ [f] } } f d false)
      else if s.owl.timers.any (fun t => t.source == f.source && t.kind == f.kind) then s.record f d 2
      else if s.on (R.FLT_KIND f.kind) F.FLT_KIND_NOESC then s.record f d 3
      else if 64 ≤ s.owl.timers.length then escalate 4 d seq 2 (s.record f d 4)
      else
        let s := s.record f d 1
        State.owlStat { s with owl := { s.owl with timers := s.owl.timers ++ [⟨seq, f.source, f.kind, d.1, d.2⟩] } }

/-- A parity error in a message slot or an inbound entry of the window engine ends its message with HOST_ERROR (R475, WEN_JOB). DETAIL
names the slot, or the entry by its place among those of its slice (notes/assumptions/33.md). -/
def jobParity (s : State) (f : FaultMsg) : State :=
  if f.kind ≠ 0x21 then s
  else match (s.msg f.detail).filter fun m => f.slice == some m.slice with
    | some m => s.endMsg f.detail stHOST_ERROR false 255 m.path false
    | none =>
      match (s.wen.inb.filter fun e => f.slice == some e.slice)[f.detail]? with
      | some e => s.inbClose e 2 stHOST_ERROR
      | none => s

/-- The detecting block's own containment (R460, R466, R461): none for a second fault. It does not depend on whether the owl has had
the message yet (R29): a domain that only this fault's own message has put in RECOVERY is still to be contained. -/
def blockContain (s : State) (f : FaultMsg) : State :=
  let d := faultDom f
  if !kindC.contains f.kind || d.1 == 0 || s.on R.FLT_STAT F.FLT_STAT_SAFE then s
  else if d.1 = 6 then s.safe 1
  else
  let s := s.jobParity f
  if s.owl.owed.contains f then State.containAct { s with owl := { s.owl with owed := s.owl.owed.erase f } } d
  else if (s.domFirst 1 d).isSome then s
  else State.containAct { s with owl := { s.owl with done := s.owl.done ++ [f] } } d

/-- An unacknowledged timer expires (R463). -/
def timerOut (s : State) (seq : Nat) : State :=
  if s.on R.FLT_STAT F.FLT_STAT_SAFE then s
  else match s.owl.timers.find? (fun t => t.seq == seq) with
    | none => s
    | some t =>
      let s := State.owlStat { s with owl := { s.owl with timers := s.owl.timers.filter fun x => x.seq != seq } }
      escalate 4 (t.scope, t.idx) seq 0 s

/-- A write of FLT_ACK (R462). -/
def fltAck (v : Word) (s : State) : State :=
  let seq := wfld v F.FLT_ACK_SEQ
  if s.owl.timers.any (fun t => t.seq == seq) then
    State.owlStat { s with owl := { s.owl with timers := s.owl.timers.filter fun x => x.seq != seq } }
  else s.inc R.FLT_CNT F.FLT_CNT_ACK_BAD 1

/-- The end of a quiet period (R467). -/
def quietEnd (s : State) (d : Nat × Nat) : State :=
  let x := s.domSt d
  if x.st ≠ 1 ∨ s.on R.FLT_STAT F.FLT_STAT_SAFE = true then s
  else
    let n := min 255 (x.rcnt + 1)
    if n < max 1 (s.get R.FLT_CFG2 F.FLT_CFG2_REC_LIM) then
      ((s.setDomSt d fun _ => ⟨0, n⟩).owlStat).releaseAct d
    else (s.setDomSt d fun _ => ⟨2, n⟩).owlStat

/-- A write of FLT_DOM_SEL: CLEAR releases a LATCHED domain (R467). -/
def fltDomSel (m : Nat) (v : Word) (s : State) : State :=
  let s := s.store m R.FLT_DOM_SEL v
  let d := (s.get R.FLT_DOM_SEL F.FLT_DOM_SEL_SCOPE, s.get R.FLT_DOM_SEL F.FLT_DOM_SEL_INDEX)
  if won v F.FLT_DOM_SEL_CLEAR && decide (1 ≤ d.1) && decide (d.1 ≤ 5) && (s.domSt d).st == 2 then
    (s.setDomSt d fun _ => ⟨0, 0⟩).releaseAct d
  else s

/-- FLT_DOM_STAT of the selected domain; REMAIN is a free value in RECOVERY, whose time the model does not run. -/
def refreshDomStat (s : State) : State :=
  let d := (s.get R.FLT_DOM_SEL F.FLT_DOM_SEL_SCOPE, s.get R.FLT_DOM_SEL F.FLT_DOM_SEL_INDEX)
  let x := s.domSt d
  let s := (s.set R.FLT_DOM_STAT F.FLT_DOM_STAT_STATE x.st).set R.FLT_DOM_STAT F.FLT_DOM_STAT_RCNT x.rcnt
  if x.st = 1 then s.used.set R.FLT_DOM_STAT F.FLT_DOM_STAT_REMAIN (s.freeBelow 10001) else s.set R.FLT_DOM_STAT F.FLT_DOM_STAT_REMAIN 0

/-- An owl parity error (R469): in the ring only counted. -/
def owlParityErr (s : State) (off : Nat) (inRing : Bool) : State :=
  if inRing then s.inc R.FLT_CNT F.FLT_CNT_REC_OVF 1
  else ((s.safe 4).set R.FLT_STAT F.FLT_STAT_PAR 1).record ⟨0x3C0, 0x61, none, none, off⟩ (6, 0) 6

/-- A write of FLT_SAFE (R470 cause 5). -/
def fltSafe (m : Nat) (v : Word) (s : State) : State :=
  let s := s.store m R.FLT_SAFE v
  if won v F.FLT_SAFE_GO && wfld v F.FLT_SAFE_KEY == 0x5AFE then
    (s.safe 5).record ⟨0x3C1, 0x62, none, none, 0⟩ (6, 0) 6
  else s

/-- A warm reset ends every RECOVERY state and timer and the safe state; RCNT, LATCHED domains, the ring and SEQ stay (R473). -/
def owlWarm (s : State) : State :=
  State.owlStat { s with faultN := false, owl := { s.owl with timers := [], done := [], owed := [], doms := s.owl.doms.mapAll (fun _ => {}) fun _ x =>
      if x.st = 1 then { x with st := 0 } else x } }

end State

/-! ### The commands -/

/-- FAULT_MESSAGE (R457). -/
def execFaultMessage (f : FaultMsg) (s : State) : Res' := run (.faultMessage f) s fun s => s.takeFault f

/-- CLASS_C_CONTAINMENT (R460). -/
def execClassCContainment (f : FaultMsg) (s : State) : Res' := run (.classCContainment f) s fun s => s.blockContain f

/-- FAULT_TIMER_EXPIRY (R463). -/
def execFaultTimerExpiry (seq : Nat) (s : State) : Res' := run (.faultTimerExpiry seq) s fun s => s.timerOut seq

/-- FAULT_ACK (R462). -/
def execFaultAck (m : Nat) (v : Word) (s : State) : Res' := run (.faultAck m v) s fun s => s.cmdWrite m R.FLT_ACK v (State.fltAck v)

/-- The code of a scope (R457). -/
def scopeNo : Scope → Nat
  | .packet => 0
  | .slice => 1
  | .port => 2
  | .group => 3
  | .host => 4
  | .slot => 5
  | .device => 6

/-- QUIET_PERIOD_END (R467). -/
def execQuietPeriodEnd (sp : Scope) (idx : Nat) (s : State) : Res' :=
  run (.quietPeriodEnd sp idx) s fun s => s.quietEnd (scopeNo sp, idx)

/-- DOMAIN_CLEAR (R467). -/
def execDomainClear (m : Nat) (v : Word) (s : State) : Res' :=
  run (.domainClear m v) s fun s => s.cmdWrite m R.FLT_DOM_SEL v (State.fltDomSel m v)

/-- OWL_PARITY (R469). -/
def execOwlParity (off : Nat) (inRing : Bool) (s : State) : Res' :=
  run (.owlParity off inRing) s fun s => s.owlParityErr off inRing

/-- FW_SAFE (R470). -/
def execFwSafe (m : Nat) (v : Word) (s : State) : Res' := run (.fwSafe m v) s fun s => s.cmdWrite m R.FLT_SAFE v (State.fltSafe m v)

end Sys2Proof.Machine
end

