-- ==== Sys2Proof/Machine/Mailbox.lean ====
section
/-! DEFINITION. The OTP as the registers show it (R528, R532), signature blocks (R524 to R526), and the security mailbox (R529
to R533, R538 to R541). From 17_security.md. -/

namespace Sys2Proof.Machine

/-- The length of a signature block (R524). -/
def sigBlockLen : Nat := 17136

/-- A bit held in three copies reads 1 when at least two are programmed (R529). -/
def otpBit (copies : Nat) : Bool := decide (2 ≤ copies)

def KeySlot.prog (k : KeySlot) : Bool := otpBit k.prog3
def KeySlot.img (k : KeySlot) : Bool := otpBit k.img3
def KeySlot.dbg (k : KeySlot) : Bool := otpBit k.dbg3
def KeySlot.revoked (k : KeySlot) : Bool := otpBit k.revoked3
def Sec.provLock (x : Sec) : Bool := otpBit x.provLock3
def Sec.debugNever (x : Sec) : Bool := otpBit x.debugNever3

/-- One write of the OTP (R528, R529): a slot's key hashes, one copy of a state bit of a slot, of PROV_LOCK or of DEBUG_NEVER, or one
floor bit. -/
inductive OtpWrite
  | hashes (k : Nat) (rsa slh : List Byte)
  | prog (k : Nat)
  | img (k : Nat)
  | dbg (k : Nat)
  | revoked (k : Nat)
  | lock
  | never
  | floor
  deriving DecidableEq, Repr

/-- One more copy is programmed. -/
def copied (n : Nat) : Nat := min 3 (n + 1)

/-- The writes of all three copies of a bit. -/
def threeTimes (w : OtpWrite) : List OtpWrite := [w, w, w]

/-- A write takes effect. -/
def OtpWrite.run (x : Sec) (w : OtpWrite) : Sec :=
  let slot := fun k (f : KeySlot → KeySlot) => { x with keys := x.keys.upd (fun _ => {}) k f }
  match w with
  | .hashes k rsa slh => slot k fun y => { y with rsa := rsa, slh := slh }
  | .prog k => slot k fun y => { y with prog3 := copied y.prog3 }
  | .img k => slot k fun y => { y with img3 := copied y.img3 }
  | .dbg k => slot k fun y => { y with dbg3 := copied y.dbg3 }
  | .revoked k => slot k fun y => { y with revoked3 := copied y.revoked3 }
  | .lock => { x with provLock3 := copied x.provLock3 }
  | .never => { x with debugNever3 := copied x.debugNever3 }
  | .floor => { x with floor := min 64 (x.floor + 1) }

namespace State

/-! ### OTP -/

/-- SEC_STAT and SEC_KEYS show what the OTP holds (R528, R532). -/
def showOtp (s : State) : State :=
  let k := fun n =>
    let x : KeySlot := s.sec.keys.get (fun _ => {}) n
    b2n x.prog + 2 * b2n x.img + 4 * b2n x.dbg + 8 * b2n x.revoked
  let s := s.wr R.SEC_KEYS (BitVec.ofNat 32 (k 0 + 16 * k 1 + 256 * k 2 + 4096 * k 3))
  ((s.set R.SEC_STAT F.SEC_STAT_FLOOR s.sec.floor).set R.SEC_STAT F.SEC_STAT_PROV_LOCK (b2n s.sec.provLock)).set R.SEC_STAT
    F.SEC_STAT_DEBUG_NEVER (b2n s.sec.debugNever)

/-! ### Signature blocks (R524 to R526) -/

/-- The first failed item of a signature block, 0 when it passes: format, slot, key hash, digest, RSA, SLH-DSA. `use` says
whether a slot may serve. -/
def sigItem (keys : Tab KeySlot) (blk : List Byte) (purpose signedLen : Nat) (use : KeySlot → Bool) (signed : List Byte) : Nat :=
  let slot : KeySlot := keys.get (fun _ => {}) (fieldAt blk 8 1)
  let zero := fun (o n : Nat) => decide (fieldAt blk o n = 0)
  let rsa := (blk.drop 80).take 388
  let slh := (blk.drop 480).take 48
  let st := blk.take 80
  if !(decide (fieldAt blk 0 4 = 0x47534C46 ∧ fieldAt blk 4 2 = 1 ∧ fieldAt blk 6 2 = purpose ∧ fieldAt blk 16 4 = signedLen)
      && zero 9 3 && zero 20 12 && zero 468 12) then 1
  else if !(decide (fieldAt blk 8 1 < 4) && slot.prog && !slot.revoked && use slot) then 2
  else if sha384 rsa ≠ slot.rsa ∨ sha384 slh ≠ slot.slh then 3
  else if (blk.drop 32).take 48 ≠ sha384 signed then 4
  else if !rsaVerify rsa st ((blk.drop 528).take 384) then 5
  else if !slhVerify slh st ((blk.drop 912).take 16224) then 6
  else 0

/-! ### The mailbox (R540, R541) -/

/-- A range of the mailbox's data bytes. -/
def mbBytes (s : State) (n : Nat) : List Byte :=
  ((upTo ((n + 3) / 4)).flatMap fun k => leBytes 4 (s.rd (R.SEC_MB_DATA k)).toNat).take n

/-- Output replaces the input in SEC_MB_DATA. -/
def mbPut (s : State) (bs : List Byte) : State :=
  forAll (upTo ((bs.length + 3) / 4)) (fun k s => s.wr (R.SEC_MB_DATA k) (BitVec.ofNat 32 (fieldAt bs (4 * k) 4))) s

/-- A write of SEC_MB_CMD, LEN or DATA while a command is in progress is ignored and shown in REJ. -/
def mbBusy (s : State) (act : State → State) : State :=
  if s.sec.mb.isSome then s.set R.SEC_MB_STAT F.SEC_MB_STAT_REJ 1 else act s

/-- A write of SEC_MB_CMD: the command is taken and the writing master owns it. -/
def mbCmd (m : Nat) (v : Word) (s : State) : State :=
  s.mbBusy fun s =>
    let len := s.get R.SEC_MB_LEN F.SEC_MB_LEN_LEN
    let c : MbCmd := {
      op := wfld v F.SEC_MB_CMD_OP, owner := m, mode := s.mode, len := len, input := s.mbBytes (min len 32768), entropy := false }
    let s := { s with sec := { s.sec with mb := some c } }
    (s.set R.SEC_MB_STAT F.SEC_MB_STAT_BUSY 1).set R.SEC_MB_STAT F.SEC_MB_STAT_OWNER m

/-- The masters and modes of a command (R541); none for an unknown one. -/
def mbAllowed (op m mode : Nat) : Option Bool :=
  let cp := decide (m < 4)
  match op with
  | 1 | 4 | 6 | 7 => some ((cp || m == 9) && decide (1 ≤ mode ∧ mode ≤ 7))
  | 2 | 3 => some (m == 9 && mode == 1)
  | 5 => some (cp && decide (2 ≤ mode ∧ mode ≤ 5))
  | 8 => some (m == 9 && decide (1 ≤ mode ∧ mode ≤ 7))
  | 9 => some ((cp || m == 9) && decide (1 ≤ mode ∧ mode ≤ 6))
  | _ => none

/-- The end of a command: its status and output. -/
def mbEnd (s : State) (st : Nat) (out : List Byte) : State :=
  let s := { s with sec := { s.sec with mb := none } }.mbPut out
  ((s.set R.SEC_MB_STAT F.SEC_MB_STAT_BUSY 0).set R.SEC_MB_STAT F.SEC_MB_STAT_STATUS st).set R.SEC_MB_STAT
    F.SEC_MB_STAT_OUT_LEN out.length

def key (s : State) (k : Nat) : KeySlot := s.sec.keys.get (fun _ => {}) k

/-- A command's program operations, one write after another; of a command that a reset interrupts the first of them (R529). -/
def otpProgram (s : State) (l : List OtpWrite) : State :=
  let l := match s.sec.mb.bind (·.cut) with
    | some n => l.take n
    | none => l
  State.showOtp { s with sec := l.foldl OtpWrite.run s.sec }

/-- A slot that may still sign images. -/
def imgSlot (k : KeySlot) : Bool := k.prog && k.img && !k.revoked

/-- A block that fails is recorded in LAST_FAIL and refuses the command with status 4. -/
def withBlock (s : State) (purpose : Nat) (b : List Byte) (use : KeySlot → Bool) (other : Nat) (f : State → State) : State :=
  let blk := b.drop 64
  let it := sigItem s.sec.keys blk purpose 64 use (b.take 64)
  let it := if it = 0 ∧ fieldAt blk 8 1 = other then 2 else it
  if it = 0 then f s else (s.set R.SEC_STAT F.SEC_STAT_LAST_FAIL it).mbEnd 4 []

/-- PROVISION_KEY (R530): slot, purpose bits, modulus, exponent, SLH key. A repeat of the command that programmed the slot returns OK
(collision table of 17_security.md; notes/assumptions/75.md). -/
def provision (s : State) (b : List Byte) : State :=
  let k := fieldAt b 0 1
  if b.length ≠ 438 ∨ 4 ≤ k then s.mbEnd 2 []
  else if s.sec.provLock then s.mbEnd 3 []
  else
    let p := Config.purposeBits (fieldAt b 1 1)
    let rsa := sha384 ((b.drop 2).take 388)
    let slh := sha384 (b.drop 390)
    let x := s.key k
    if x.prog then s.mbEnd (if x.rsa = rsa ∧ x.slh = slh ∧ x.img = p.1 ∧ x.dbg = p.2 ∧ x.revoked = false then 0 else 5) []
    else (s.otpProgram (.hashes k rsa slh :: ((if p.1 then threeTimes (.img k) else []) ++ (if p.2 then threeTimes (.dbg k) else [])
      ++ threeTimes (.prog k)))).mbEnd 0 []

/-- LOCK_PROV (R530). -/
def provLocked (s : State) : State :=
  if (upTo 4).any (fun k => imgSlot (s.key k)) then
    (s.otpProgram (threeTimes .lock)).mbEnd 0 []
  else s.mbEnd 5 []

/-- REVOKE_KEY (R531). That no unrevoked IMG slot would be left is judged before the block, which could not pass then
(notes/assumptions/126.md). -/
def revokeSlot (s : State) (b : List Byte) : State :=
  let k := fieldAt b 0 1
  let uid := fieldAt b 8 8
  if b.length ≠ 64 + sigBlockLen ∨ 4 ≤ k ∨ fieldAt b 1 7 ≠ 0 ∨ fieldAt b 16 48 ≠ 0 then s.mbEnd 2 []
  else if !(s.key k).revoked && !(upTo 4).any (fun j => j != k && imgSlot (s.key j)) then s.mbEnd 5 []
  else s.withBlock 3 b (·.img) k fun s =>
    if uid ≠ 0 ∧ uid ≠ Config.deviceUid.toNat then s.mbEnd 4 []
    else if (s.key k).revoked then s.mbEnd 0 []
    else if !(s.key k).prog then s.mbEnd 5 []
    else (s.otpProgram (threeTimes (.revoked k))).mbEnd 0 []

/-- ADVANCE_FLOOR (R532). -/
def advance (s : State) (b : List Byte) : State :=
  let v := fieldAt b 0 4
  if b.length ≠ 4 then s.mbEnd 2 []
  else if !s.on R.GLB_BOOT_STATUS F.GLB_BOOT_STATUS_CONFIRMED || decide ((s.rd R.SEC_SVN).toNat < v) then s.mbEnd 3 []
  else
    (s.otpProgram (List.replicate (min v 64 - s.sec.floor) .floor)).mbEnd 0 (leBytes 4 (max s.sec.floor (min v 64)))

/-- DEBUG_CHALLENGE (R538). -/
def challengeDebug (s : State) : State :=
  let n := s.freeBytes 32
  ({ s with sec := { s.sec with nonce := some n } }.usedN 32).mbEnd 0 (leBytes 8 Config.deviceUid.toNat ++ n)

/-- DEBUG_UNLOCK (R538, R539): the nonce is used up whatever the outcome. -/
def unlockDebug (s : State) (b : List Byte) : State :=
  let nonce := s.sec.nonce
  let s := { s with sec := { s.sec with nonce := none } }
  if b.length ≠ 64 + sigBlockLen then s.mbEnd 2 []
  else s.withBlock 2 b (·.dbg) 4 fun s =>
    let perm := fieldAt b 40 4 % 8
    if s.sec.debugNever || decide (fieldAt b 0 8 ≠ Config.deviceUid.toNat) || decide (nonce ≠ some ((b.drop 8).take 32))
        || decide (fieldAt b 44 20 ≠ 0) then s.mbEnd 4 []
    else
      let p := (BitVec.ofNat 3 (s.get R.SEC_DBG F.SEC_DBG_PERM) ||| BitVec.ofNat 3 perm).toNat
      (s.set R.SEC_DBG F.SEC_DBG_PERM p).mbEnd 0 (leBytes 4 perm)

/-- The certificate store: the top 128 KiB of the flash behind chip select 0 (R533). -/
def certBase (s : State) : Nat := s.flashSize - 0x20000

/-- CERT_WRITE (R533). -/
def certStore (s : State) (b : List Byte) : State :=
  let off := fieldAt b 0 4
  if b.length < 4 ∨ 32768 < b.length ∨ 0x20000 < off + (b.length - 4) then s.mbEnd 2 []
  else ({ s with flash0 := putBytes erasedByte s.flash0 (s.certBase + off) (b.drop 4) } : State).mbEnd 0 []

/-- A mailbox command finishes (R541). -/
def mbDone (s : State) : State :=
  match s.sec.mb with
  | none => s
  | some c =>
    match mbAllowed c.op c.owner c.mode with
    | none => s.mbEnd 1 []
    | some false => s.mbEnd 3 []
    | some true =>
      if 32768 < c.len then s.mbEnd 2 []
      else match c.op with
        | 1 =>
          let n := fieldAt c.input 0 4
          if c.input.length ≠ 4 ∨ n = 0 ∨ 4096 < n then s.mbEnd 2 []
          else if c.entropy then s.mbEnd 7 []
          else (s.usedN n).mbEnd 0 (s.freeBytes n)
        | 2 => s.provision c.input
        | 3 => s.provLocked
        | 4 => s.revokeSlot c.input
        | 5 => s.advance c.input
        | 6 => s.challengeDebug
        | 7 => s.unlockDebug c.input
        | 8 =>
          if fieldAt c.input 0 4 ≠ 0xDEAD0FF0 ∨ c.input.length ≠ 4 then s.mbEnd 2 []
          else (s.otpProgram (threeTimes .never)).mbEnd 0 []
        | _ => s.certStore c.input

/-- A mailbox command of a master: a write of SEC_MB_CMD. -/
def mailbox (s : State) (m op : Nat) : State :=
  s.cmdWrite m R.SEC_MB_CMD (BitVec.ofNat 32 op) (mbCmd m (BitVec.ofNat 32 op))

end State

end Sys2Proof.Machine
end

