-- ==== Sys2Proof/Machine/Boot.lean ====
section
/-! DEFINITION. Resets (R75 to R78, R618), the boot and the configuration image (R60 to R74, R87, R88, R270, R344, R345,
R524 to R526), and the mode transitions (R50 to R59). From 02_modes_and_boot.md, with 03_lanes.md, 10_fabric.md and
17_security.md. The settings records stand in Settings.lean. -/

namespace Sys2Proof.Machine

namespace State

/-! ### Resets (R75, R77, R618) -/

/-- Hosts and partners see every link that is up go down. -/
def linksLost (s : State) : State :=
  forAll ((upTo 128).filter s.portUp) (fun P s => s.emit (.linkDown P)) s

/-- Control memory after a reset: the banks of 1 MiB that `keep` names stay, every other word is 0 (R618). -/
def cmemKeep (s : State) (keep : Nat) : State :=
  { s with cmem := s.cmem.drop fun a => !bit keep (a / 0x100000) }

/-- A mailbox command that a reset interrupts (R529): some of its OTP writes are made, of CERT_WRITE some of its bytes; how many, is free
(notes/assumptions/75.md). -/
def otpCut (s : State) : State :=
  match s.sec.mb with
  | none => s
  | some c =>
    let part := fun (c : MbCmd) => State.mbDone { s.used with sec := { s.sec with mb := some c } }
    if c.op = 9 ∧ 4 ≤ c.input.length then part { c with input := c.input.take (4 + s.freeBelow (c.input.length - 3)) }
    else part { c with cut := some (s.freeBelow 65) }

/-- A warm reset (R75, R77): the results of the images stay through causes 4 and 5 alone (R66), a mode transition is
abandoned, PD00 and the owl's counters stay. -/
def warmReset (s : State) (cause : Nat) : State :=
  let s := s.otpCut.flashCut
  let prev := s.mode
  let a := R.GLB_BOOT_STATUS
  let ra := s.get a F.GLB_BOOT_STATUS_A_RESULT
  let rb := s.get a F.GLB_BOOT_STATUS_B_RESULT
  let slotsOn := s.pdOn 4
  let s := State.linksLost { s with pwr := { s.pwr with stage := .awake, due := [] } }
  let s := s.resetFields (fun _ => true) warmKinds
  let s := ((s.set R.GLB_MODE F.GLB_MODE_PREV prev).set a F.GLB_BOOT_STATUS_CAUSE cause)
  let s := if cause = 4 ∨ cause = 5 then (s.set a F.GLB_BOOT_STATUS_A_RESULT ra).set a F.GLB_BOOT_STATUS_B_RESULT rb else s
  let s := (s.cmemKeep (s.get R.PWR_NIGHT_KEEP F.PWR_NIGHT_KEEP_KEEP)).owlWarm.slotsWarm
  let s := { s with
    samp := [], lanes := [], links := [], eq := [], sett := {}, dens := [], tblw := {}, ports := [], doms := [], chk := {}
    tel := { ctr := s.tel.ctr.drop (fun k => decide (k / 64 < 35)), cleared := upTo 35 }, chan := {}, wen := {}, slcs := [], fab := {}
    sec := { s.sec with nonce := none, mb := none, sessions := [], slh := none, halted := [] }
    boot := { stage := .straps, pwrok := s.boot.pwrok, sysRstN := s.boot.sysRstN } }
  (s.setPd 0 true).setPd 4 slotsOn

/-- A cold reset (R75): everything but the flash and the OTP; the timebase starts at 0. -/
def coldReset (s : State) (cause : Nat) : State :=
  let s := s.otpCut.flashCut
  let prev := s.mode
  let s := s.linksLost
  let t : State := { State.reset with
    pending := s.pending, free := s.free, out := s.out, flash0 := s.flash0, flash1 := s.flash1, flashSize := s.flashSize
    sec := { keys := s.sec.keys, floor := s.sec.floor, provLock3 := s.sec.provLock3, debugNever3 := s.sec.debugNever3 }
    boot := { pwrok := s.boot.pwrok, sysRstN := s.boot.sysRstN } }
  ((t.set R.GLB_MODE F.GLB_MODE_PREV prev).set R.GLB_BOOT_STATUS F.GLB_BOOT_STATUS_CAUSE cause).showOtp

/-- A write of GLB_RESET (R77, R78). -/
def glbReset (v : Word) (s : State) : State :=
  if wfld v F.GLB_RESET_KEY != 0xD2C7 then s
  else if won v F.GLB_RESET_COLD then s.coldReset 2
  else if won v F.GLB_RESET_WARM then s.warmReset 3
  else s

/-- A reset pin held low (R611). -/
def pinLow (s : State) (pin : ResetPin) (ns : Nat) : State :=
  if ns < 5000 then s
  else match pin with
    | .pwrok => ({ s with boot := { s.boot with pwrok := false } } : State).coldReset 0
    | .sysRstN => ({ s with boot := { s.boot with sysRstN := false } } : State).coldReset 1

/-! ### The image on trial (R64 to R70) -/

/-- Bytes of the image on trial: from the flash at the place the straps give it (R60), or from the retained banks (R515). -/
def imgBytes (s : State) (off len : Nat) : List Byte :=
  if s.boot.fast then s.cmemBytes off len
  else if s.boot.img = 2 then
    (if s.on R.GLB_STRAP F.GLB_STRAP_FLASH then bytesAt erasedByte s.flash1 off len
     else bytesAt erasedByte s.flash0 (s.flashSize / 2 + off) len)
  else bytesAt erasedByte s.flash0 off len

/-- The result field of an image. -/
def resultFld (img : Nat) : Fld := if img = 2 then F.GLB_BOOT_STATUS_B_RESULT else F.GLB_BOOT_STATUS_A_RESULT

/-- The next image to try: the one STRAP_BOOT names first, then the other; none has been tried before (R65, R66). -/
def nextImage (s : State) : Option Nat :=
  let order := if s.get R.GLB_STRAP F.GLB_STRAP_BOOT = 3 then [2, 1] else [1, 2]
  order.find? fun i => s.get R.GLB_BOOT_STATUS (resultFld i) == 0

/-- The domains that stand off only under conditions of R503 are on, with group domains and PLLs `gs`; the sett's quarters
take cells (R212). -/
def domainsUp (s : State) (gs : List Nat) : State :=
  let s := forAll ((upTo 10) ++ gs.map (· + 10) ++ (upTo 6).map (· + 26)) (fun k s => s.setPd k true) s
  let s := s.set R.PWR_CLK_STAT F.PWR_CLK_STAT_GRP_LOCK (gs.foldl (fun m g => m + 2 ^ g) 0)
  (s.set R.SETT_STAT F.SETT_STAT_QTR_ON 0xF).refreshFree

/-- Recovery (R50, R66, R83, R89): H00 alone, with one upstream port in G00. -/
def recoveryMode (s : State) : State :=
  let s := (s.set R.GLB_BOOT_STATUS F.GLB_BOOT_STATUS_ACTIVE_IMG 0).set R.GLB_MODE F.GLB_MODE_CUR 1
  let s := { s with eq := [], boot := { s.boot with stage := .ended, staged := [], img := 0 } }
  let s := (s.setDom 0 fun d => { d with on := true, upPort := 0 }).set (R.GLB_HD_STAT 0) F.GLB_HD_STAT_STATE 1
  let s := s.domainsUp [0]
  forAll (upTo 16) (fun g s => s.groupRelease g) s

/-- Image `i` is taken on trial. -/
def tryImage (s : State) (i : Nat) : State :=
  { s with boot := { s.boot with img := i, stage := .header, seg := 0, staged := [] } }

/-- The next image, or Recovery when none is left. -/
def tryNext (s : State) : State := match s.nextImage with | some i => s.tryImage i | none => s.recoveryMode

/-- The image on trial fails with a code that leads straight to the other (R65). -/
def failImage (s : State) (code : Nat) : State :=
  let s := s.set R.GLB_BOOT_STATUS (resultFld s.boot.img) code
  State.tryNext { s with boot := { s.boot with fast := false } }

/-- The image on trial fails after state has changed: the code is recorded and a warm reset follows (R65). -/
def failLate (s : State) (code cause : Nat) : State :=
  (s.set R.GLB_BOOT_STATUS (resultFld s.boot.img) code).warmReset cause

/-! ### Header (R64, R68 to R70) -/

/-- A directory entry: type, instance, offset, length, CRC-32C (R69). -/
structure DirEnt where
  ty : Nat
  inst : Nat
  off : Nat
  len : Nat
  crc : Nat
  deriving DecidableEq, Repr

/-- Entry k of a header's directory. -/
def dirEnt (hdr : List Byte) (k : Nat) : DirEnt :=
  let b := (hdr.drop (32 + 16 * k)).take 16
  ⟨fieldAt b 0 2, fieldAt b 2 2, fieldAt b 4 4, fieldAt b 8 4, fieldAt b 12 4⟩

/-- A type and its instance are allowed (R69, R70). -/
def DirEnt.allowed (e : DirEnt) : Bool :=
  if e.ty = 4 then decide (e.inst < 16 ∨ e.inst = 0xFFFF)
  else if [1, 2, 3, 5, 6].contains e.ty then e.inst == 0
  else bit e.ty 15

/-- The header's checks in their order: 9, 3, 4; 0 when all pass (R64). -/
def headerCode (floor : Nat) (h : List Byte) : Nat :=
  let len := fieldAt h 8 4
  let n := fieldAt h 18 2
  let tm := fieldAt h 16 1
  let es := (upTo n).map (dirEnt h)
  if fieldAt h 0 4 ≠ 0x49434C46 ∨ fieldAt h 4 2 ≠ 1 ∨ fieldAt h 20 2 ≠ 0xB1 then 9
  else if fieldAt h 6 2 ≠ 4096 ∨ 0x800000 < len ∨ len < 4096 + sigBlockLen ∨ n = 0 ∨ 64 < n ∨ tm < 2 ∨ 6 < tm then 3
  else if es.any (fun e => !e.allowed || decide (len < e.off + e.len)) then 3
  else if (tm = 4 ∨ tm = 5) ∧ es.any (fun e => e.ty == 6) = false then 3
  else if fieldAt h 12 4 < floor then 4
  else 0

/-- The header of the image on trial is read and checked; a fast wake verifies nothing (R523). -/
def checkHeader (s : State) (answers : Bool) : State :=
  if s.boot.stage ≠ .header then s
  else if !answers && !s.boot.fast then s.failImage 2
  else
    let h := s.imgBytes 0 4096
    let c := headerCode s.sec.floor h
    if c ≠ 0 ∧ s.boot.fast = false then s.failImage c
    else State.cmemPut { s with boot := { s.boot with stage := .segments, seg := 0 } } 0 h

/-! ### Segments (R64, R270, R344) -/

/-- The contents of a segment are valid where the spec states a check on them (R54, R270, R344). -/
def segOk (tm : Nat) (e : DirEnt) (b : List Byte) : Bool :=
  if e.ty = 4 then
    decide (264 ≤ b.length) && decide (b.length % 8 = 0) && decide (fieldAt b 260 4 + (b.length - 264) / 8 ≤ 16384)
  else if e.ty = 6 then
    let role := fieldAt b 6 1
    decide (fieldAt b 0 4 = 0x42464C46 ∧ fieldAt b 4 2 = 1 ∧ role ≤ 2) && (decide (tm ≠ 5) || role == 2) && (decide (tm ≠ 4) || decide (role < 2))
  else true

/-- The next segment is read, checked and staged in control memory at its place in the image (notes/assumptions/32.md). With every
segment staged, a read of the signature block that the flash does not answer is code 2 (R64). DESIGN CHOICE: that read comes as this
command (notes/assumptions/114.md). -/
def checkSegment (s : State) (answers : Bool) : State :=
  if s.boot.stage = .signature then (if answers || s.boot.fast then s else s.failImage 2)
  else if s.boot.stage ≠ .segments then s
  else if !answers && !s.boot.fast then s.failImage 2
  else
    let h := s.imgBytes 0 4096
    let e := dirEnt h s.boot.seg
    let b := s.imgBytes e.off e.len
    if !s.boot.fast && !segOk (fieldAt h 16 1) e b then s.failImage 3
    else if !s.boot.fast && crc32c b != e.crc then s.failImage 6
    else
      let k := s.boot.seg + 1
      let s := s.cmemPut e.off b
      { s with boot := { s.boot with
        seg := k, staged := s.boot.staged ++ [(e.ty, e.inst, b)]
        stage := if k < fieldAt h 18 2 then .segments else .signature } }

/-! ### Use of a passed image -/

/-- One equalisation entry: used, or ignored and counted (R88). -/
def eqEntryLoad (s : State) (e : List Byte) : State :=
  let lane := fieldAt e 0 2
  if eqBad e then
    s.inc (R.GRP_LANE_STAT (if 271 < lane then 0 else if lane < 256 then lane / 16 else lane - 256)) F.GRP_LANE_STAT_EQ_BAD 1
  else { s with eq := s.eq.put dNil (lane * 16 + fieldAt e 2 1) ((e.drop 4).take 11) }

/-- An equalisation table segment (R87, R88). DESIGN CHOICE: of a count above 2,992, or above what the segment holds, as many whole entries
load as fit (notes/assumptions/101.md). -/
def eqLoad (s : State) (b : List Byte) : State :=
  if fieldAt b 0 4 ≠ 0x51454C46 ∨ fieldAt b 4 2 ≠ 1 then s.set (R.GRP_LANE_STAT 0) F.GRP_LANE_STAT_EQ_BAD 255
  else forAll (upTo (min (fieldAt b 6 2) ((b.length - 32) / 16))) (fun i s => s.eqEntryLoad ((b.drop (32 + 16 * i)).take 16)) s

/-- The settings records of a segment, 16 bytes each (R71). DESIGN CHOICE: bytes after the last whole record are no record and raise no
error (notes/assumptions/131.md). -/
def records (b : List Byte) : List (List Byte) := (upTo (b.length / 16)).map fun i => (b.drop (16 * i)).take 16

/-- The staged segments of a type. -/
def stagedOf (s : State) (ty : Nat) : List (Nat × List Byte) :=
  s.boot.staged.filterMap fun x => if x.1 = ty then some x.2 else none

/-- The image passes (R64, R515): it becomes active, its equalisation table is in force, settings begin with every domain
powered (notes/assumptions/34.md). -/
def imagePass (s : State) : State :=
  let h := s.imgBytes 0 4096
  let len := fieldAt h 8 4
  let blk := s.imgBytes (len - sigBlockLen) sigBlockLen
  let s := (s.set R.GLB_BOOT_STATUS (resultFld s.boot.img) 1).set R.GLB_BOOT_STATUS F.GLB_BOOT_STATUS_ACTIVE_IMG s.boot.img
  let s := (s.set R.SEC_STAT F.SEC_STAT_SLOT (fieldAt blk 8 1)).wr R.SEC_SVN (BitVec.ofNat 32 (fieldAt h 12 4))
  let s := (s.cmemPut (len - sigBlockLen) blk).set R.PWR_NIGHT_STAT F.PWR_NIGHT_STAT_STAGE_LAST ((len - 1) / 0x100000)
  let s := s.domainsUp (upTo 16)
  let s := forAll (s.stagedOf 3) (fun x s => s.eqLoad x.2) { s with eq := [] }
  let fac := records Config.factorySegment
  { s with boot := { s.boot with
    stage := .settings, digest := (blk.drop 32).take 48, recIdx := 0, delays := 0, factory := fac.length
    recs := fac ++ (s.stagedOf 2).flatMap (fun x => records x.2) } }

/-- Both signatures of an image read to its last byte are verified (R64, R523, R526). The fast wake verifies nothing (R515). -/
def verifyImage (s : State) : State :=
  if s.boot.stage ≠ .signature then s
  else if s.boot.fast then s.imagePass
  else
    let len := fieldAt (s.imgBytes 0 4096) 8 4
    let n := len - sigBlockLen
    let item := if n % 16 ≠ 0 then 1 else sigItem s.sec.keys (s.imgBytes n sigBlockLen) 1 n (·.img) (s.imgBytes 0 n)
    if item = 0 then s.imagePass else (s.set R.SEC_STAT F.SEC_STAT_LAST_FAIL item).failImage 5

/-! ### Loading and release (R61, R270, R345) -/

/-- The fabric configuration segment of the active image. -/
def fabSeg (s : State) : Option (List Byte) := ((s.stagedOf 6).getLast?).map (·.2)

/-- The segment's layouts are written and its heartbeat settings loaded (R345). -/
def fabLayouts (s : State) (b : List Byte) : State :=
  let s := forAll ((upTo 16).filter (bit (fieldAt b 10 2))) (fun g s => forAll (upTo 8) (fun p s =>
    s.wr (R.GRP_PORT_CFG g p) (BitVec.ofNat 32 (fieldAt b (32 + 32 * g + 4 * p) 4))) s) s
  let s := (s.set R.MGT_FAB_CFG F.MGT_FAB_CFG_HB_PERIOD (fieldAt b 12 2)).set R.MGT_FAB_CFG F.MGT_FAB_CFG_HB_MISS (fieldAt b 14 1)
  if fieldAt b 6 1 = 2 then
    (s.set R.MGT_FAB_MGR F.MGT_FAB_MGR_STBY_ID (fieldAt b 8 1)).set R.MGT_FAB_MGR F.MGT_FAB_MGR_STBY_PRESENT (fieldAt b 9 1 % 2)
  else s

/-- The part takes its fabric role on entry to mode 4 or 5 (R340, R342); a manager first listens (R363). -/
def fabRole (s : State) (b : List Byte) : State :=
  let role := fieldAt b 6 1
  let s := s.set R.MGT_FAB_ID F.MGT_FAB_ID_ROLE role
  let s := if 1 ≤ role then (s.set R.MGT_FAB_ID F.MGT_FAB_ID_ID (fieldAt b 7 1)).set R.MGT_FAB_ID F.MGT_FAB_ID_VALID 1 else s
  if role = 2 then
    (s.set R.MGT_FAB_MGR F.MGT_FAB_MGR_MGR_ID (fieldAt b 7 1)).setFab fun f => { f with listening := true }
  else s.setFab fun f => { f with missAt := s.now }

/-- The program of a den: the segment that names it, else the one for all dens (R270). -/
def denProgram (s : State) (d : Nat) : Option (List Byte) :=
  match (s.stagedOf 4).reverse.find? (fun x => x.1 == d) with
  | some x => some x.2
  | none => ((s.stagedOf 4).reverse.find? (fun x => x.1 == 0xFFFF)).map (·.2)

/-- A den program segment loads into vector set 0 (R270). -/
def loadProgram (s : State) (d : Nat) : State :=
  match s.denProgram d with
  | none => s
  | some b =>
    let s := forAll (upTo 64) (fun c s => s.wr (R.DEN_VEC d 0 c) (BitVec.ofNat 32 (fieldAt b (4 * c) 4))) s
    let s := (s.wr (R.DEN_REGION d 0) (BitVec.ofNat 32 (fieldAt b 256 4))).set (R.DEN_PROG_CTL d) F.DEN_PROG_CTL_SEL 0
    let ws := (upTo ((b.length - 264) / 8)).map fun i => BitVec.ofNat 64 (fieldAt b (264 + 8 * i) 8)
    { s with tblw := { s.tblw with shadow := putWords s.tblw.shadow (16384 * d + fieldAt b 260 4) ws } }

/-- Programs and the table master are loaded and reach every den (R61 step 6, R253). -/
def loadDens (s : State) : State :=
  let s := forAll (upTo 16) (fun d s => s.loadProgram d) s
  let s := forAll (s.stagedOf 5) (fun x s =>
    { s with tblw := { s.tblw with master := putBytes zeroByte s.tblw.master 0 (x.2.take 0x200000) } }) s
  forAll (upTo 16) (fun d s => s.reloadDen d) s

/-- A mode that enables H00 alone (R50): every other domain is OFF, whatever its GLB_HD_CFG holds (notes/assumptions/100.md). -/
def onlyH00 (s : State) : State :=
  forAll ((upTo 16).drop 1) (fun h s => if (s.dom h).on then (s.setDom h fun d => { d with on := false }).set (R.GLB_HD_STAT h) F.GLB_HD_STAT_STATE 0 else s) s

/-- The end of Boot (R54, R61 steps 6 to 8, R67): the control processors run from then on. PREV keeps the mode before the reset (R77). -/
def bootDone (s : State) : State :=
  if s.boot.stage ≠ .load then s
  else
    let h := s.imgBytes 0 4096
    let tm := if s.get R.GLB_STRAP F.GLB_STRAP_BOOT = 2 then 6 else fieldAt h 16 1
    let limit := fieldAt h 17 1
    let s := s.loadDens
    let s := { s with boot := { s.boot with stage := .ended, recs := [], fast := false, cpRun := true } }
    let s := match s.fabSeg with
      | some b => if tm = 4 ∨ tm = 5 then (s.fabLayouts b).fabRole b else s
      | none => s
    let s := s.set R.GLB_MODE F.GLB_MODE_CUR tm
    let s := ((s.set R.GLB_BOOT_CONFIRM F.GLB_BOOT_CONFIRM_TIMEOUT limit).set R.GLB_BOOT_STATUS F.GLB_BOOT_STATUS_CONFIRMED
      (b2n (limit == 0)))
    forAll (upTo 16) (fun g s => s.groupRelease g) (if tm = 2 ∨ tm = 6 then s.onlyH00 else s)

/-- An active image that waits for its confirmation (R67). -/
def unconfirmed (s : State) : Bool :=
  decide (s.boot.stage = .ended) && s.on R.GLB_BOOT_STATUS F.GLB_BOOT_STATUS_ACTIVE_IMG
    && !s.on R.GLB_BOOT_STATUS F.GLB_BOOT_STATUS_CONFIRMED && s.on R.GLB_BOOT_CONFIRM F.GLB_BOOT_CONFIRM_TIMEOUT

/-- REMAIN counts a time the model does not run: a free value until confirmation, 0 after it. -/
def refreshConfirm (s : State) : State :=
  let t := s.get R.GLB_BOOT_CONFIRM F.GLB_BOOT_CONFIRM_TIMEOUT
  if s.unconfirmed then (s.set R.GLB_BOOT_CONFIRM F.GLB_BOOT_CONFIRM_REMAIN (s.freeBelow (t + 1))).used
  else s.set R.GLB_BOOT_CONFIRM F.GLB_BOOT_CONFIRM_REMAIN 0

/-- A write of GLB_BOOT_CONFIRM (R67). -/
def bootConfirm (v : Word) (s : State) : State :=
  if won v F.GLB_BOOT_CONFIRM_CONFIRM && s.unconfirmed then s.set R.GLB_BOOT_STATUS F.GLB_BOOT_STATUS_CONFIRMED 1 else s

/-- The confirm timeout expires (R64 code 8, R65). -/
def confirmOut (s : State) : State := if s.unconfirmed then s.failLate 8 5 else s

/-! ### Start (R60, R61, R522) -/

/-- The straps are sampled at a cold reset's end (R60). -/
def strapped (s : State) (b f i : Nat) : State :=
  if s.boot.stage = .reset ∧ s.boot.pwrok = true ∧ s.boot.sysRstN = true then
    let s := ((s.set R.GLB_STRAP F.GLB_STRAP_BOOT b).set R.GLB_STRAP F.GLB_STRAP_FLASH f).set R.GLB_STRAP F.GLB_STRAP_I3C i
    (({ s with boot := { s.boot with stage := .straps } } : State).setPd 0 true).setPd 1 true
  else s

/-- The security core starts (R61 steps 2 and 3, R522): a failed self-test stops the boot with SEC_TAMPER; the pads of the
SPI NOR, I3C and JTAG are released (R517). -/
def bootGo (s : State) (testsPass flashAnswers : Bool) : State :=
  if s.boot.stage ≠ .straps then s
  else
    let s := (((s.setPd 0 true).setPd 1 true).setPd 2 true).setPd 3 true
    let s := s.set R.PWR_CLK_STAT F.PWR_CLK_STAT_CORE_LOCK 1
    let held := s.get R.PWR_PAD_HOLD F.PWR_PAD_HOLD_HELD
    let s := s.set R.PWR_PAD_HOLD F.PWR_PAD_HOLD_HELD (held / 4 * 4)
    if !testsPass then
      State.used (State.raise { s with boot := { s.boot with stage := .ended } } 0xC8 0x50 none none (s.freeBelow (2 ^ 32)))
    else if s.boot.fast then s.tryImage s.pwr.img
    else if s.get R.GLB_STRAP F.GLB_STRAP_BOOT = 1 then s.recoveryMode
    else match s.nextImage with
      | none => s.recoveryMode
      | some i => if flashAnswers then s.tryImage i else (s.tryImage i).failImage 2

/-! ### Mode transitions (R52 to R59, R341) -/

/-- Whether a request is in the table: 0 accepted, else its REASON. -/
def modeReason (s : State) (m req : Nat) : Nat :=
  let c := s.mode
  if !(decide (m < 4) || m == 9 || m == 10 || decide (16 ≤ m)) then 4
  else if 2 ≤ c ∧ c ≤ 5 ∧ req = 6 then 0
  else if c = 3 ∧ (req = 4 ∨ req = 5) then
    match s.fabSeg with
    | none => 3
    | some b => if (req = 5) = (fieldAt b 6 1 = 2) then 0 else 1
  else if (c = 4 ∨ c = 5) ∧ req = 3 then 0
  else if c = 4 ∧ req = 5 then (if s.get R.MGT_FAB_ID F.MGT_FAB_ID_ROLE = 1 then 0 else 1)
  else if c = 5 ∧ req = 4 then 0
  else 1

/-- Every fabric link is taken down, and packets still queued for it are discarded (R59). -/
def fabricOff (s : State) : State :=
  forAll ((upTo 128).filter s.isFabric) (fun P s => (s.fabricDown P 0).flushPort P) s

/-- Steps 1 to 4 of R56: the sett drains, since every packet that a den still decides finds its port shut. The messages end with
ABORTED (notes/assumptions/36.md). -/
def maintStart (s : State) : State :=
  let s := forAll (upTo 128) (fun P s => if s.isPcie P then s.linkGone P 1 else s.fabricDown P 0) s
  let s := forAll (s.msgList.map (·.1)) (fun slot s => s.endMsg slot stABORTED true 255 (s.lastPath slot) false) s
  let s := forAll (upTo 128) (fun P s => s.flushPort P) s
  s.setSett fun t => { t with shut := (upTo 128).filter s.portEn }

/-- The segment is applied to the groups it names, which are reset (R58, R345); traffic to their links waits. -/
def fabApply (s : State) (b : List Byte) : State :=
  let gs := (upTo 16).filter (bit (fieldAt b 10 2))
  let s := forAll gs (fun g s => (s.groupReset g).set R.GLB_GRP_RESET F.GLB_GRP_RESET_GRP
    (BitVec.ofNat 16 (s.get R.GLB_GRP_RESET F.GLB_GRP_RESET_GRP) ||| BitVec.ofNat 16 (2 ^ g)).toNat) (s.fabLayouts b)
  s.setSett fun t => { t with shut := t.shut.filter fun P => !gs.contains (P / 8) }

/-- A request is refused with a reason. -/
def modeRefuse (s : State) (r : Nat) : State :=
  ((s.set R.GLB_MODE F.GLB_MODE_STATE 3).set R.GLB_MODE F.GLB_MODE_REASON r).modeEvent

/-- A write of GLB_MODE (R52, R55 to R59). -/
def modeWrite (m : Nat) (v : Word) (s : State) : State :=
  let s := s.store m R.GLB_MODE v
  if !won v F.GLB_MODE_GO then s
  else if s.transiting then s.set R.GLB_MODE F.GLB_MODE_REASON 2
  else
    let req := s.get R.GLB_MODE F.GLB_MODE_REQ
    let r := s.modeReason m req
    if r ≠ 0 then s.modeRefuse r
    else
      let s := (s.set R.GLB_MODE F.GLB_MODE_STATE 1).set R.GLB_MODE F.GLB_MODE_REASON 0
      let c := s.mode
      let s := { s with boot := { s.boot with target := req } }
      if req = 6 then s.maintStart
      else if req = 3 then s.fabricOff
      else if c = 3 then (match s.fabSeg with | some b => s.fabApply b | none => s)
      else s

/-- Fabric links that stand DOWN start bring-up at W1 (R58). -/
def fabricStart (s : State) : State :=
  forAll ((upTo 128).filter s.isFabric) (fun P s =>
    if s.linkState (P / 8) (P % 8) = 0 ∧ bit (s.get R.GLB_GRP_RESET F.GLB_GRP_RESET_GRP) (P / 8) = false then
      s.startTraining (P / 8) (P % 8) else s) s

/-- The fabric role after a transition (R340, R361, R363). -/
def roleAfter (s : State) (frm dst : Nat) : State :=
  if frm = 3 ∧ (dst = 4 ∨ dst = 5) then
    (match s.fabSeg with | some b => (s.fabRole b).fabricStart | none => s)
  else if dst = 5 then
    let s' := s.set R.MGT_FAB_ID F.MGT_FAB_ID_ROLE 2
    if s.fab.takeover then s'.takeoverDone else s'.set R.MGT_FAB_MGR F.MGT_FAB_MGR_MGR_ID s.ownId
  else if dst = 4 then (s.set R.MGT_FAB_ID F.MGT_FAB_ID_ROLE 1).setFab fun f => { f with listening := false }
  else (s.set R.MGT_FAB_ID F.MGT_FAB_ID_ROLE 3).setFab fun f => { f with listening := false }

/-- Whether a transition to the fabric still waits for a named group's reset (R58). -/
def segmentWaits (s : State) : Bool :=
  s.mode == 3 && (s.boot.target == 4 || s.boot.target == 5) && (match s.fabSeg with
    | some b => (upTo 16).any fun g => bit (fieldAt b 10 2) g && bit (s.get R.GLB_GRP_RESET F.GLB_GRP_RESET_GRP) g
    | none => false)

/-- Whether a transition to Maintenance still waits for the sett to drain (R56 step 4). -/
def drainWaits (s : State) : Bool := s.boot.target == 6 && s.sett.pkts.any fun e => e.2.isSome

/-- The running transition completes (R52, R56 steps 5 and 6, R58). -/
def modeDone (s : State) : State :=
  if !s.transiting || s.segmentWaits || s.drainWaits then s
  else
    let c := s.mode
    let t := s.boot.target
    let s := if 2 ≤ t ∧ t ≤ 5 then s else s.nightFail 2
    let s := ((s.set R.GLB_MODE F.GLB_MODE_PREV c).set R.GLB_MODE F.GLB_MODE_CUR t).set R.GLB_MODE F.GLB_MODE_STATE 2
    let s := (s.roleAfter c t).modeEvent
    let s := if t = 6 then s.onlyH00 else s
    if t = 6 ∧ (s.dom 0).on = true ∧ s.isPcie (s.dom 0).upPort = true then s.takeRole (s.dom 0).upPort else s

end State

/-! ### The commands -/

/-- RESET_PIN_LOW (R611). -/
def execResetPinLow (pin : ResetPin) (ns : Nat) (s : State) : Res' := run (.resetPinLow pin ns) s fun s => s.pinLow pin ns

/-- COLD_RESET (R78). -/
def execColdReset (m : Nat) (v : Word) (s : State) : Res' :=
  run (.coldReset m v) s fun s => s.cmdWrite m R.GLB_RESET v (State.glbReset v)

/-- WARM_RESET (R77). -/
def execWarmReset (m : Nat) (v : Word) (s : State) : Res' :=
  run (.warmReset m v) s fun s => s.cmdWrite m R.GLB_RESET v (State.glbReset v)

/-- STRAP_SAMPLE (R60). -/
def execStrapSample (boot flash i3c : Nat) (s : State) : Res' :=
  run (.strapSample boot flash i3c) s fun s => s.strapped boot flash i3c

/-- BOOT_START (R61, R522). -/
def execBootStart (testsPass flashAnswers : Bool) (s : State) : Res' :=
  run (.bootStart testsPass flashAnswers) s fun s => s.bootGo testsPass flashAnswers

/-- IMAGE_HEADER_CHECK (R64). -/
def execImageHeaderCheck (answers : Bool) (s : State) : Res' :=
  run (.imageHeaderCheck answers) s fun s => s.checkHeader answers

/-- SEGMENT_CHECK (R64). -/
def execSegmentCheck (answers : Bool) (s : State) : Res' := run (.segmentCheck answers) s fun s => s.checkSegment answers

/-- SIGNATURE_VERIFY (R523, R526). -/
def execSignatureVerify (s : State) : Res' := run .signatureVerify s fun s => s.verifyImage

/-- BOOT_COMPLETE (R61). -/
def execBootComplete (s : State) : Res' := run .bootComplete s fun s => s.bootDone

/-- BOOT_CONFIRM (R67). -/
def execBootConfirm (m : Nat) (v : Word) (s : State) : Res' :=
  run (.bootConfirm m v) s fun s => s.cmdWrite m R.GLB_BOOT_CONFIRM v (State.bootConfirm v)

/-- CONFIRM_TIMEOUT (R67). -/
def execConfirmTimeout (s : State) : Res' := run .confirmTimeout s fun s => s.confirmOut

/-- MODE_REQUEST (R55). -/
def execModeRequest (m : Nat) (v : Word) (s : State) : Res' :=
  run (.modeRequest m v) s fun s => s.cmdWrite m R.GLB_MODE v (State.modeWrite m v)

/-- MODE_TRANSITION_COMPLETE (R52). -/
def execModeTransitionComplete (s : State) : Res' := run .modeTransitionComplete s fun s => s.modeDone

/-- PWROK_AND_SYS_RST_N_HIGH (R60, R610): t0. -/
def execPwrokAndSysRstNHigh (s : State) : Res' :=
  runOk okPwrokAndSysRstNHigh s fun s => { s with boot := { s.boot with pwrok := true, sysRstN := true } }

end Sys2Proof.Machine
end

