-- ==== Sys2Proof/Machine/Switch.lean ====
section
/-! DEFINITION. The commands of the switch core (06_switch_core.md, 07_forwarding_model.md). -/

namespace Sys2Proof.Machine

namespace State

/-- Held TLPs for queue q are checked again in their order (R190, R221): those that pass leave, the others stay. -/
def retryList (q : Nat) : List HeldTlp → List HeldTlp → State → List HeldTlp × State
  | [], kept, s => (kept, s)
  | e :: rest, kept, s =>
    match s.pkt e.pid with
    | none => retryList q rest kept s
    | some k =>
      if e.q = q ∧ s.heldBack k kept = false ∧ s.canAdmit q k e.desc e.view = true then
        retryList q rest kept (s.enqueue e.pid q k e.desc e.view)
      else retryList q rest (kept ++ [e]) s

/-- The admission check repeated for a queue (R221). -/
def retryAdmission (s : State) (q : Nat) : State :=
  forAll (s.sett.held.map (·.1)) (fun key s =>
    let (kept, s) := retryList q (s.sett.held.get dNil key) [] s
    s.setSett fun t => { t with held := t.held.put dNil key kept }) s

/-- A write of SETT_CFG (R212): at least quarter 0 stays enabled; quarters without a used cell power down, and those that
were on again join a list until they are powered. -/
def settCfg (m : Nat) (v : Word) (s : State) : State :=
  let s := s.store m R.SETT_CFG v
  let s := if s.get R.SETT_CFG F.SETT_CFG_QTR_EN = 0 then s.set R.SETT_CFG F.SETT_CFG_QTR_EN 1 else s
  let want := (upTo 4).filter (fun q => bit (s.get R.SETT_CFG F.SETT_CFG_QTR_EN) q && !bit (s.get R.SETT_STAT F.SETT_STAT_QTR_ON) q)
  (s.setSett fun t => { t with powering := want }).quarterDown.refreshFree

/-- A quarter is powered; its cells hold nothing from before (R212). -/
def quarterUp (s : State) (q : Nat) : State :=
  if s.sett.powering.contains q then
    let s := s.setSett fun t => { t with powering := t.powering.filter (· != q) }
    let on := s.get R.SETT_STAT F.SETT_STAT_QTR_ON
    ((s.set R.SETT_STAT F.SETT_STAT_QTR_ON (if bit on q then on else on + 2 ^ q)).setPd (5 + q) true).refreshFree
  else s

/-- Ingresses that stopped for lack of a cell (R620); a packet whose ingress finds it bad at its last cell is ended (R229). -/
def ingressGoOn (s : State) (P : Nat) : State := (resumeIngress ((s.sett.stalled.get dNil P).length) P s).endBad P

end State

open State

/-- INGRESS_RESUME (R620). -/
def execIngressResume (port : Nat) (s : State) : Res' := runLive (.ingressResume port) s fun s => s.ingressGoOn port

/-- ADMISSION_RETRY (R221). -/
def execAdmissionRetry (q : Nat) (s : State) : Res' := runLive (.admissionRetry q) s fun s => s.retryAdmission q

/-- EGRESS_SCHEDULE (R224, R225). -/
def execEgressSchedule (port : Nat) (s : State) : Res' := runLive (.egressSchedule port) s fun s => s.schedule port

/-- CELL_READ (R25, R213 to R216). -/
def execCellRead (port fails : Nat) (s : State) : Res' := runLive (.cellRead port fails) s fun s => s.readCell port fails

/-- CUT_THROUGH_WAIT_TIMEOUT (R229). -/
def execCutThroughWaitTimeout (port : Nat) (s : State) : Res' := runLive (.cutThroughWaitTimeout port) s fun s => s.ctTimeout port

/-- QUARTER_CONTROL (R212). -/
def execQuarterControl (m : Nat) (v : Word) (s : State) : Res' :=
  run (.quarterControl m v) s fun s => s.cmdWrite m R.SETT_CFG v (settCfg m v)

/-- QUARTER_POWER_UP_DONE (R212). -/
def execQuarterPowerUpDone (q : Nat) (s : State) : Res' := run (.quarterPowerUpDone q) s fun s => s.quarterUp q

end Sys2Proof.Machine
end

