-- ==== Sys2Proof/Machine/Power.lean ====
section
/-! DEFINITION. Power domains, Dusk, clocks, supplies, temperature, Night and the pad hold (16_power_clocks.md; R600, R616,
21_package_balls.md and 22_electrical.md). -/

namespace Sys2Proof.Machine

namespace State

/-! ### Power domains (R503 to R505) -/

/-- A group of a den quad has an enabled port (R503). -/
def quadUsed (s : State) (q : Nat) : Bool := (upTo 4).any fun i => s.groupUsed (4 * q + i)

/-- Every slot is OFF. -/
def slotsOff (s : State) : Bool := (upTo 16).all fun sc => s.slotState sc == 0

/-- Every slice is FREE. -/
def slicesFree (s : State) : Bool :=
  s.regs.all fun e => !(blockBit e.1 == some 13 && e.1 % 256 == 4 && fldOf e.2 F.SLC_STATE_STATE != 0)

/-- A domain that PWR_PD_CTL controls may be off. -/
def mayBeOff (s : State) (k : Nat) : Bool :=
  if k = 4 then s.slotsOff
  else if 26 ≤ k ∧ k ≤ 29 then !s.quadUsed (k - 26)
  else if k = 30 then s.slicesFree
  else false

/-- A domain loses its state as it is switched off, and the pads it drives are held (R505, R517). -/
def domainOff (s : State) (k : Nat) : State :=
  let s := s.setPd k false
  if k = 4 then
    let h := s.get R.PWR_PAD_HOLD F.PWR_PAD_HOLD_HELD
    State.set { s with slots := [] } R.PWR_PAD_HOLD F.PWR_PAD_HOLD_HELD (h % 4 + 12)
  else if 26 ≤ k ∧ k ≤ 29 then { s with dens := s.dens.drop fun d => d / 4 == k - 26 }
  else if k = 30 then { s with wen := {} }
  else s

/-- The OFF bit of a domain. -/
def offBit (s : State) (k : Nat) : Bool := bit (s.rd R.PWR_PD_CTL).toNat k

/-- A write of PWR_PD_CTL: the domains go off one by one; a bit whose condition fails is refused and reads 0. -/
def pdCtl (m : Nat) (v : Word) (s : State) : State :=
  let s := s.store m R.PWR_PD_CTL v
  forAll [4, 26, 27, 28, 29, 30] (fun k s =>
    if s.offBit k && s.pdOn k then
      (if s.mayBeOff k then s.domainOff k
       else (s.wr R.PWR_PD_CTL (s.rd R.PWR_PD_CTL &&& ~~~(BitVec.ofNat 32 (2 ^ k)))).set R.PWR_LP_STAT F.PWR_LP_STAT_PD_REF 1)
    else s) s

/-- A domain powers up: every field held in it has its reset value, those of cold type too, since it held none while it was off
(R505). -/
def domainOn (s : State) (k : Nat) : State := (s.resetFields (fun a => domainOf (a % csrSpan) == k) coldKinds).setPd k true

/-- A domain that is off and needed has powered up (R504). A den quad loads its programs and tables (R261). A group's domain powers up before the group leaves
reset, and its ports then start under the layout last sampled. -/
def domainUp (s : State) (k : Nat) : State :=
  if s.pdOn k || s.boot.stage != .ended || s.pwr.stage != .awake then s
  else if k = 4 ∨ k = 30 then (if s.offBit k && s.mayBeOff k then s else s.domainOn k)
  else if 26 ≤ k ∧ k ≤ 29 then
    (if s.offBit k && s.mayBeOff k then s
     else forAll (upTo 4) (fun i s => s.reloadDen (4 * (k - 26) + i)) (s.domainOn k))
  else if 5 ≤ k ∧ k ≤ 8 then s.quarterUp (k - 5)
  else if 10 ≤ k ∧ k ≤ 25 then
    let g := k - 10
    let hold := bit (s.get R.GLB_GRP_RESET F.GLB_GRP_RESET_GRP) g
    if !s.groupUsed g || (hold && !s.pwr.due.contains g) then s
    else
      let s := (((s.domainOn k).judgeLayout g).grpLock g true).groupDue g false
      if s.contained 3 g then s else (s.grpBitClear g).groupStart g
  else s

/-! ### Dusk (R506 to R508) -/

/-- A den has no job, no header that waits for one, no decision that waits to be released and no counter update to apply. -/
def denIdle (D : Den) : Bool :=
  D.jobs.all (fun e => e.2.isNone) && D.prio.isEmpty && D.norm.isEmpty && D.spill.isEmpty && D.spillP.isEmpty && D.rel.isEmpty
    && D.post.isEmpty

/-- What the state shows of an island's idleness: no link, transaction, job or timer of its own (R507). Of a control processor (CI02 to
CI05) the state shows only the loads and stores it makes: DESIGN CHOICE, the command says when it is idle (notes/assumptions/77.md). -/
def islandIdle (s : State) (ci : Nat) : Bool :=
  if ci = 6 then s.chan.cmds.all (fun e => e.2.isNone) && s.doms.all (fun e => e.2.evq.isEmpty)
  else if ci = 7 then s.sett.pkts.all (fun e => e.2.isNone)
  else if 8 ≤ ci ∧ ci ≤ 23 then
    (upTo 8).all fun p =>
      let P := 8 * (ci - 8) + p
      !s.portUp P && (!s.isFabric P || [0, 6, 7].contains (s.linkState (ci - 8) p))
  else if 24 ≤ ci ∧ ci ≤ 27 then (upTo 4).all fun i => denIdle (s.den (4 * (ci - 24) + i))
  else if ci = 28 then
    s.msgList.isEmpty && s.wen.wrs.isEmpty && s.wen.rds.isEmpty && s.wen.inq.isEmpty && s.wen.inb.isEmpty && s.wen.revoking.isEmpty
      && s.wen.shq.all (fun e => e.2.isEmpty) && s.wen.apQ.all (fun e => e.2.isEmpty) && s.wen.irqs.isEmpty
  else if ci = 29 then s.chk.jobs.isEmpty && (upTo 32).all fun r => !s.on (R.CHK_REC_CFG r) F.CHK_REC_CFG_EN
  else if ci = 30 then !s.on R.TEL_CFG F.TEL_CFG_EN && s.tel.spoorQ.isEmpty
  else if ci = 31 then s.slotsOff
  else if ci = 32 then s.chan.flashQ.isEmpty
  else if ci = 34 then s.tblw.q.isEmpty
  else true

/-- An idle island gates its clock (R507). -/
def dusk (s : State) (ci : Nat) : State :=
  if bit (s.rd (duskEn ci)).toNat (ci % 32) && s.islandIdle ci then
    s.wr (duskStat ci) (putBit (s.rd (duskStat ci)) (ci % 32) true)
  else s

/-- A write of PWR_DUSK_EN: the bits of islands without Dusk read 0; an island whose bit is cleared wakes (R508). -/
def duskEnWrite (m a : Nat) (v : Word) (s : State) : State :=
  let s := s.store m a (v &&& (if a = R.PWR_DUSK_EN_0 then 0xFFFFFFFC#32 else 0x5#32))
  let lo := if a = R.PWR_DUSK_EN_0 then 0 else 32
  forAll ((upTo 32).filter fun i => !bit (s.rd a).toNat i) (fun i s => s.wakeIsland (lo + i)) s

/-! ### Clocks, supplies, temperature (R511, R600, R616) -/

/-- A PLL loses its lock. -/
def pllLost (s : State) : PllLoss → State
  | .group g =>
    let w := s.get R.PWR_CLK_STAT F.PWR_CLK_STAT_GRP_LOCK
    (s.set R.PWR_CLK_STAT F.PWR_CLK_STAT_GRP_LOCK (if bit w g then w - 2 ^ g else w)).raise (srcGroup g) 0x07 none none 0
  | .core => (s.set R.PWR_CLK_STAT F.PWR_CLK_STAT_CORE_LOCK 0).raise 0x1A7 0x48 none none (9 + 256)

/-- A supply monitor finds its rail out of range. -/
def supplyBad (s : State) (pd : Nat) : State := s.raise (0x180 + pd) 0x48 none none pd

/-- The source numbers that R456 lists. -/
def sources : List Nat :=
  [(0, 128), (0x80, 16), (0x90, 16), (0xA0, 2), (0xB0, 1), (0xC0, 6), (0xC8, 1), (0xD0, 16), (0xE0, 4), (0xF0, 9), (0x100, 18), (0x120, 6),
    (0x180, 32), (0x1A0, 36), (0x3C0, 2)].flatMap fun x => (upTo x.2).map (x.1 + ·)

/-- A sensor passes a threshold. R456 names no source for the sensors: one of its numbers, left free. -/
def tempOver (s : State) (degC : Nat) : State :=
  let src := sources.getD (s.freeBelow sources.length) 0
  if 115 < degC then s.used.raise src 0x4A none none degC
  else if 105 < degC then s.used.raise src 0x49 none none degC
  else s

/-! ### Night (R512 to R516) -/

/-- Every link is down. -/
def allDown (s : State) : Bool :=
  (upTo 128).all fun P => !s.portUp P && (!s.isFabric P || [0, 6, 7].contains (s.linkState (P / 8) (P % 8)))

/-- The first condition of R512 that fails, 0 when all hold. -/
def nightRef (s : State) : Nat :=
  if !s.allDown then 1
  else if !s.forwarding then 2
  else if !s.slotsOff then 3
  else if s.get R.FLT_STAT F.FLT_STAT_REC_ACT ≠ 0 ∨ s.get R.FLT_STAT F.FLT_STAT_OPEN_S ≠ 0 then 4
  else if s.get R.TBL_WR_STAT F.TBL_WR_STAT_QDEPTH ≠ 0 ∨ s.get R.TBL_PSTAT F.TBL_PSTAT_BUSY ≠ 0 then 5
  else 0

def nightStage (s : State) (x : NightStage) : State := { s with pwr := { s.pwr with stage := x } }

/-- Entry goes on to a stage when every condition holds, and is refused or abandoned otherwise. -/
def nightCheck (s : State) (f : State → State) : State :=
  if s.nightRef = 0 then f s else (s.set R.PWR_NIGHT_STAT F.PWR_NIGHT_STAT_REF s.nightRef).nightStage .awake

/-- Entry to Night is tried. -/
def nightTry (s : State) : State := if s.pwr.stage = .awake then s.nightCheck (·.nightStage .drain) else s

/-- A write of PWR_NIGHT_CFG. -/
def nightCfg (m : Nat) (v : Word) (s : State) : State :=
  let s := s.store m R.PWR_NIGHT_CFG v
  if won v F.PWR_NIGHT_CFG_GO then s.nightTry else s

/-- Every packet that the sett still holds is discarded, whatever waits for it (R513 step 2). -/
def settDiscard (s : State) : State :=
  let n := (s.sett.pkts.filter fun e => e.2.isSome).length
  let s := forAll (upTo 128) (fun P s => s.flushPort P) s
  let l := s.sett.mirQ.filterMap (·.pid)
  let s := s.setSett fun t => { t with mirQ := [], held := [], order := [] }
  let s := forAll l (fun p s => s.mirrorDone p) s
  (forAll (s.sett.pkts.map (·.1)) (fun p s => s.freePkt p) s).emit (.discarded 128 n)

/-- The sett is empty, or the limit has passed and what it holds is discarded (R513 step 2). -/
def nightDrained (s : State) (limit : Bool) : State :=
  if s.pwr.stage ≠ .drain then s
  else s.nightCheck fun s =>
    if s.sett.pkts.all (fun e => e.2.isNone) then s.nightStage .digest
    else if limit then s.settDiscard.nightStage .digest
    else s

/-- Bank b of control memory. -/
def bankBytes (s : State) (b : Nat) : List Byte := s.cmemBytes (b * 0x100000) 0x100000

/-- The digests are stored, the pads latched, the domains off (R513 steps 3 to 5). A mailbox command is waited for. -/
def nightEnter (s : State) : State :=
  if s.pwr.stage ≠ .digest ∨ s.sec.mb.isSome = true then s
  else s.nightCheck fun s =>
    let keep := s.get R.PWR_NIGHT_KEEP F.PWR_NIGHT_KEEP_KEEP
    let dg := ((upTo 16).filter (bit keep)).map fun b => (b, sha384 (s.bankBytes b))
    let img := s.get R.GLB_BOOT_STATUS F.GLB_BOOT_STATUS_ACTIVE_IMG
    let s := (s.cmemKeep keep).set R.PWR_PAD_HOLD F.PWR_PAD_HOLD_HELD 15
    let s := (s.count 35 2 0 1).inc R.PWR_NIGHT_STAT F.PWR_NIGHT_STAT_NIGHTS 1
    { s.wr R.PWR_PD_STAT 1 with slots := [], pwr := { stage := .night, digests := dg, img := img } }

/-- Whether Boot can take the image from the retained banks (R515). -/
def fastWake (s : State) : Bool :=
  let keep := s.get R.PWR_NIGHT_KEEP F.PWR_NIGHT_KEEP_KEEP
  let last := s.get R.PWR_NIGHT_STAT F.PWR_NIGHT_STAT_STAGE_LAST
  s.pwr.img != 0 && (upTo (last + 1)).all (bit keep)
    && ((upTo 16).filter (bit keep)).all fun b => decide (s.pwr.digests.get dNil b = sha384 (s.bankBytes b))

/-- A wake from Night (R514, R515); no alarm runs while ALARM is 0. -/
def wake (s : State) (code : Nat) : State :=
  if s.pwr.stage ≠ .night ∨ (code = 3 ∧ s.on R.PWR_NIGHT_ALARM F.PWR_NIGHT_ALARM_ALARM = false) then s
  else
    let fast := s.fastWake
    let img := s.pwr.img
    let s := (s.set R.PWR_NIGHT_STAT F.PWR_NIGHT_STAT_WAKE_SRC code).set R.PWR_NIGHT_STAT F.PWR_NIGHT_STAT_FAST (b2n fast)
    let s := s.warmReset 6
    { s with pwr := { img := img }, boot := { s.boot with fast := fast } }

/-- The code of a wake event (R514). -/
def wakeCode : WakeSrc → Nat
  | .wakePin => 1
  | .i3cStart => 2
  | .alarm => 3
  | .presence _ => 4

/-- A write of PWR_PAD_HOLD_RELEASE (R518). -/
def padRelease (v : Word) (s : State) : State :=
  forAll (upTo 4) (fun g s =>
    let h := s.get R.PWR_PAD_HOLD F.PWR_PAD_HOLD_HELD
    if bit v.toNat g && bit h g && s.pdOn (if g < 2 then 3 else 4) then s.set R.PWR_PAD_HOLD F.PWR_PAD_HOLD_HELD (h - 2 ^ g) else s) s

end State

/-! ### The commands -/

/-- POWER_DOMAIN_CONTROL (R504). -/
def execPowerDomainControl (m : Nat) (v : Word) (s : State) : Res' :=
  run (.powerDomainControl m v) s fun s => s.cmdWrite m R.PWR_PD_CTL v (State.pdCtl m v)

/-- DOMAIN_POWER_UP_DONE (R505). -/
def execDomainPowerUpDone (k : Nat) (s : State) : Res' := run (.domainPowerUpDone k) s fun s => s.domainUp k

/-- DUSK_ENTRY (R507). -/
def execDuskEntry (ci : Nat) (s : State) : Res' := run (.duskEntry ci) s fun s => s.dusk ci

/-- ISLAND_WAKE (R508). -/
def execIslandWake (ci : Nat) (s : State) : Res' := run (.islandWake ci) s fun s => s.wakeIsland ci

/-- PLL_LOCK_LOSS (R511). -/
def execPllLockLoss (l : PllLoss) (s : State) : Res' := run (.pllLockLoss l) s fun s => s.pllLost l

/-- SUPPLY_OUT_OF_RANGE (R600). -/
def execSupplyOutOfRange (pd : Nat) (s : State) : Res' := run (.supplyOutOfRange pd) s fun s => s.supplyBad pd

/-- TEMP_THRESHOLD (R616). -/
def execTempThreshold (sensor degC : Nat) (s : State) : Res' := run (.tempThreshold sensor degC) s fun s => s.tempOver degC

/-- NIGHT_IDLE_TIMEOUT (R512): the timer runs while EN is 1 and every link is down. -/
def execNightIdleTimeout (s : State) : Res' :=
  run .nightIdleTimeout s fun s => doIf (s.on R.PWR_NIGHT_CFG F.PWR_NIGHT_CFG_EN && s.allDown) State.nightTry s

/-- NIGHT_GO (R512). -/
def execNightGo (m : Nat) (v : Word) (s : State) : Res' :=
  run (.nightGo m v) s fun s => s.cmdWrite m R.PWR_NIGHT_CFG v (State.nightCfg m v)

/-- NIGHT_DRAIN_END (R513). -/
def execNightDrainEnd (limit : Bool) (s : State) : Res' := run (.nightDrainEnd limit) s fun s => s.nightDrained limit

/-- NIGHT_DIGEST_DONE (R513). -/
def execNightDigestDone (s : State) : Res' := run .nightDigestDone s fun s => s.nightEnter

/-- NIGHT_WAKE (R514, R515). -/
def execNightWake (src : WakeSrc) (s : State) : Res' := run (.nightWake src) s fun s => s.wake (State.wakeCode src)

/-- NIGHT_ALARM_EXPIRY (R514). -/
def execNightAlarmExpiry (s : State) : Res' := run .nightAlarmExpiry s fun s => s.wake 3

/-- PAD_HOLD_RELEASE (R518). -/
def execPadHoldRelease (m : Nat) (v : Word) (s : State) : Res' :=
  run (.padHoldRelease m v) s fun s => s.cmdWrite m R.PWR_PAD_HOLD_RELEASE v (State.padRelease v)

end Sys2Proof.Machine
end

