-- ==== Sys2Proof/Machine/Secure.lean ====
section
/-! DEFINITION. The security core after Boot: the commands of the mailbox, SPDM (R534 to R536), the entropy source (R522) and
JTAG (R537 to R539). From 17_security.md. The numbers of SPDM's own codes are the standard's
(notes/assumptions/38.md). -/

namespace Sys2Proof.Machine

namespace State

/-! ### The entropy source -/

/-- A health test of the entropy source fails (R522): SEC_TAMPER with a code the spec does not give; a GET_RANDOM in progress
ends with status 7. -/
def trngFail (s : State) : State :=
  let s := (s.raise 0xC8 0x50 none none (s.freeBelow (2 ^ 32))).used
  match s.sec.mb with
  | some c => if c.op = 1 then { s with sec := { s.sec with mb := some { c with entropy := true } } } else s
  | none => s

/-! ### SPDM (R534 to R536) -/

/-- The way a request came is in service: the DMF of an enabled domain whose link is up, or MCTP. -/
def spdmUp (s : State) : SpdmVia → Bool
  | .doe h => (s.dom h).on && s.hdState h == 2
  | .mctp => s.pdOn 3

/-- A request that comes in is answered. -/
def spdmAsk (s : State) (via : SpdmVia) (f : State → State) : State := if s.spdmUp via && s.pwr.stage == .awake then f s else s

/-- An SPDM 1.3 message as the standard lays it out: version (1.0 for VERSION), code, two parameters, the rest. -/
def spdmMsg (code p1 p2 : Nat) (body : List Byte) : List Byte := [if code = 4 then 0x10 else 0x13] ++ leBytes 1 code ++ leBytes 1 p1 ++ leBytes 1 p2 ++ body

/-- A message shown in the DMF's DOE mailbox (R182): a data object of vendor 1 and type 1 with its length in words. -/
def doeShow (s : State) (h : Nat) (m : List Byte) : State :=
  let n := (m.length + 3) / 4
  let ws := [BitVec.ofNat 32 0x00010001, BitVec.ofNat 32 ((n + 2) % 2 ^ 18)] ++ (upTo n).map fun i => BitVec.ofNat 32 (fieldAt m (4 * i) 4)
  s.setDom h fun d => { d with doeR := d.doeR ++ ws }

/-- An answer leaves the way its request came, to a host through the DOE mailbox. -/
def spdmSay (s : State) (via : SpdmVia) (code p1 p2 : Nat) (body : List Byte) : State :=
  let s := s.emit (.spdm via code body)
  match via with
  | .doe h => s.doeShow h (spdmMsg code p1 p2 (if code = 0x7F then [] else body))
  | .mctp => s

/-- An ERROR answer, its code the first parameter. -/
def spdmErr (s : State) (via : SpdmVia) (code : Nat) : State := s.spdmSay via 0x7F code 0 (leBytes 1 code)

/-- GET_VERSION, GET_CAPABILITIES and NEGOTIATE_ALGORITHMS, answered from the parameters of R534: version 1.3; CERT, CHAL, MEAS with
signature, ENCRYPT, MAC, KEY_EX and CHUNK; of each algorithm that R534 names, what the request offers of it. None for another request. -/
def spdmHello (s : State) (via : SpdmVia) (m : List Byte) : Option State :=
  let sel := fun (o n mask : Nat) => leBytes n (BitVec.ofNat 32 (fieldAt m o n) &&& BitVec.ofNat 32 mask).toNat
  match fieldAt m 1 1 with
  | 0x84 => some (s.spdmSay via 0x04 0 0 ([0, 1] ++ leBytes 2 0x1300))
  | 0xE1 => some ((s.usedN 9).spdmSay via 0x61 0 0 ([0] ++ s.freeBytes 1 ++ [0, 0] ++ leBytes 4 0x000202D6 ++ (s.freeBytes 9).drop 1))
  | 0xE3 =>
    let structs := (upTo (fieldAt m 2 1)).flatMap fun i =>
      let o := 32 + 4 * i
      let ty := fieldAt m o 1
      leBytes 1 ty ++ [0x20] ++ sel (o + 2) 2 (if ty = 2 then 2 else if ty = 3 then 2 else if ty = 5 then 1 else 0)
    some (s.spdmSay via 0x63 (fieldAt m 2 1) 0 (leBytes 2 (36 + structs.length) ++ sel 6 1 1 ++ [0] ++ leBytes 4 4 ++ sel 8 4 8 ++ sel 12 4 2
      ++ List.replicate 16 0 ++ structs))
  | _ => none

/-- A signed answer: its bytes and the RSA signature; its SLH-DSA signature becomes the pending one (R535). -/
def spdmSigned (s : State) (via : SpdmVia) (code p1 : Nat) (body msg : List Byte) : State :=
  State.spdmSay { s with sec := { s.sec with slh := some (msg, false) } } via code p1 0 (body ++ Config.rsaSign Config.identityRsa msg)

/-- The certificate store's bytes. -/
def certBytes (s : State) : List Byte := bytesAt erasedByte s.flash0 s.certBase 0x20000

/-- GET_CERTIFICATE: a portion of the chain of slot 0 or 1, with the length of the portion and of what remains. -/
def getCert (s : State) (via : SpdmVia) (slot off len : Nat) : State :=
  if 2 ≤ slot then s.spdmErr via 1
  else
    let c := Config.certChain slot s.certBytes
    let p := (c.drop off).take len
    s.spdmSay via 0x02 slot 0 (leBytes 2 p.length ++ leBytes 2 (c.length - off - p.length) ++ p)

/-- The program shadows of all dens in order. -/
def shadowBytes (s : State) : List Byte := (upTo (16 * 16384)).flatMap fun i => leBytes 8 (s.tblw.shadow.get dInstr i).toNat

/-- A measurement block: index, whether it is raw, its length and value (notes/assumptions/38.md). -/
def measBlock (i : Nat) (raw : Bool) (v : List Byte) : List Byte := leBytes 1 i ++ leBytes 1 (b2n raw) ++ leBytes 2 v.length ++ v

/-- The five measurements (R536). -/
def measurements (s : State) : List Byte :=
  measBlock 1 false (Config.romVersion ++ sha384 Config.factorySegment) ++ measBlock 2 false s.boot.digest
    ++ measBlock 3 true (leBytes 4 (s.rd R.SEC_SVN).toNat ++ leBytes 4 s.sec.floor ++ leBytes 4 (s.get R.SEC_STAT F.SEC_STAT_SLOT))
    ++ measBlock 4 true (leBytes 4 (s.rd R.SEC_DBG).toNat) ++ measBlock 5 false (sha384 s.shadowBytes)

/-- KEY_EXCHANGE: a session, unless four are open. Its answer carries the session's number, 32 random bytes and the device's FFDHE3072
share of 384 bytes, which its random exponent makes free. -/
def keyEx (s : State) (via : SpdmVia) (slot : Nat) (msg : List Byte) : State :=
  if slot ≠ 0 then s.spdmErr via 1
  else if 4 ≤ s.sec.sessions.length then s.spdmErr via 0x0A
  else
    let id := s.sec.nextSession
    State.spdmSigned { s.usedN 416 with sec := { s.sec with nextSession := id + 1, sessions := s.sec.sessions ++ [(id, via)] } } via 0x64 0
      (leBytes 2 id ++ [0, 0] ++ s.freeBytes 416) msg

/-- The pending SLH-DSA signature (R535). A request while none is pending, or with another command, has no answer in the
rules: a free error code. -/
def vendorReq (s : State) (via : SpdmVia) (cmd : Nat) : State :=
  match s.sec.slh with
  | some (m, true) =>
    if cmd = 1 then s.spdmSay via 0x7E 0 0 (leBytes 2 0 ++ sha384 m ++ Config.slhSign Config.identitySlh m)
    else s.used.spdmErr via (s.freeBelow 256)
  | some (_, false) => if cmd = 1 then s.spdmErr via 0x42 else s.used.spdmErr via (s.freeBelow 256)
  | none => s.used.spdmErr via (s.freeBelow 256)

/-- A session ends. -/
def endSession (s : State) (id : Nat) : State :=
  match s.sec.sessions.find? (fun x => x.1 == id) with
  | some x =>
    State.spdmSay { s with sec := { s.sec with sessions := s.sec.sessions.filter fun y => y.1 != id } } x.2 0x6C 0 0 []
  | none => s

/-! ### JTAG (R537 to R539) -/

/-- A granted permission. -/
def dbgPerm (s : State) (b : Nat) : Bool := bit (s.get R.SEC_DBG F.SEC_DBG_PERM) b

/-- A JTAG access. What the scan chains and the identification register hold, and where memories outside control memory lie
for JTAG, no rule states: free values. -/
def jtag (s : State) : JtagKind → State
  | .idcode => s.used.emit (.jtag (s.freeBelow (2 ^ 32)))
  | .bypass => s.emit (.jtag 0)
  | .boundaryScan => s.used.emit (.jtag (Config.freeNat s.free))
  | .debugHalt cp =>
    if s.dbgPerm 0 then { s with sec := { s.sec with halted := if s.sec.halted.contains cp then s.sec.halted.filter (· != cp) else s.sec.halted ++ [cp] } }
    else s
  | .debugRead a =>
    if !s.dbgPerm 2 then s
    else if inCmem a then s.emit (.jtag (leNat (s.cmemBytes (a % 0x1000000) 4)))
    else s.used.emit (.jtag (s.freeBelow (2 ^ 32)))
  | .debugWrite a v => if s.dbgPerm 2 && inCmem a then s.cmemPut (a % 0x1000000) (leBytes 4 v.toNat) else s

end State

/-! ### The commands -/

/-- GET_RANDOM (R541). -/
def execGetRandom (m : Nat) (s : State) : Res' := run (.getRandom m) s fun s => s.mailbox m 1

/-- PROVISION_KEY (R530). -/
def execProvisionKey (m : Nat) (s : State) : Res' := runOk (okProvisionKey m) s fun s => s.mailbox m 2

/-- LOCK_PROV (R530). -/
def execLockProv (m : Nat) (s : State) : Res' := runOk (okLockProv m) s fun s => s.mailbox m 3

/-- REVOKE_KEY (R531). -/
def execRevokeKey (m : Nat) (s : State) : Res' := runOk (okRevokeKey m) s fun s => s.mailbox m 4

/-- ADVANCE_FLOOR (R532). -/
def execAdvanceFloor (m : Nat) (s : State) : Res' := runOk (okAdvanceFloor m) s fun s => s.mailbox m 5

/-- DEBUG_CHALLENGE (R538). -/
def execDebugChallenge (m : Nat) (s : State) : Res' := runOk (okDebugChallenge m) s fun s => s.mailbox m 6

/-- DEBUG_UNLOCK (R538). -/
def execDebugUnlock (m : Nat) (s : State) : Res' := runOk (okDebugUnlock m) s fun s => s.mailbox m 7

/-- DEBUG_NEVER (R539). -/
def execDebugNever (m : Nat) (s : State) : Res' := runOk (okDebugNever m) s fun s => s.mailbox m 8

/-- CERT_WRITE (R533). -/
def execCertWrite (m : Nat) (s : State) : Res' := runOk (okCertWrite m) s fun s => s.mailbox m 9

/-- MAILBOX_COMMAND_DONE (R540). -/
def execMailboxCommandDone (s : State) : Res' := runOk okMailboxCommandDone s fun s => s.mbDone

/-- TRNG_HEALTH_FAIL (R522). -/
def execTrngHealthFail (s : State) : Res' := runOk okTrngHealthFail s fun s => s.trngFail

/-- GET_CERTIFICATE (R534). -/
def execGetCertificate (req : SpdmVia) (certSlot off len : Nat) (s : State) : Res' :=
  runOk (okGetCertificate req certSlot) s fun s => s.spdmAsk req fun s => s.getCert req certSlot off len

/-- CHALLENGE (R535): only slot 0 signs. -/
def execChallenge (req : SpdmVia) (certSlot : Nat) (msgToSign : List Byte) (s : State) : Res' :=
  runOk (okChallenge req certSlot) s fun s => s.spdmAsk req fun s =>
    if certSlot = 0 then s.spdmSigned req 0x03 0 [] msgToSign else s.spdmErr req 1

/-- GET_MEASUREMENTS (R536). -/
def execGetMeasurements (req : SpdmVia) (signed : Bool) (msgToSign : List Byte) (s : State) : Res' :=
  runOk (okGetMeasurements req) s fun s => s.spdmAsk req fun s =>
    if signed then s.spdmSigned req 0x60 0 s.measurements msgToSign else s.spdmSay req 0x60 0 0 s.measurements

/-- KEY_EXCHANGE (R534). -/
def execKeyExchange (req : SpdmVia) (certSlot : Nat) (msgToSign : List Byte) (s : State) : Res' :=
  runOk (okKeyExchange req certSlot) s fun s => s.spdmAsk req fun s => s.keyEx req certSlot msgToSign

/-- VENDOR_DEFINED_REQUEST (R535). -/
def execVendorDefinedRequest (req : SpdmVia) (cmd : Nat) (s : State) : Res' :=
  runOk (okVendorDefinedRequest req) s fun s => s.spdmAsk req fun s => s.vendorReq req cmd

/-- SLH_SIGNATURE_READY (R535). -/
def execSlhSignatureReady (s : State) : Res' := runOk okSlhSignatureReady s fun s =>
  { s with sec := { s.sec with slh := s.sec.slh.map fun x => (x.1, true) } }

/-- END_SESSION (R534). -/
def execEndSession (id : Nat) (s : State) : Res' := runOk okEndSession s fun s => s.endSession id

/-- JTAG_ACCESS (R537). -/
def execJtagAccess (k : JtagKind) (s : State) : Res' := runOk (okJtagAccess k) s fun s => s.jtag k

end Sys2Proof.Machine
end

