-- ==== Sys2Proof/Machine/Chk.lean ====
section
/-! DEFINITION. The check-value engine (18_check_values.md): its command register, the end of a job, host reads of a job, and the
verdict on a protected record. The reads of the CSR space stand in Settings.lean. -/

namespace Sys2Proof.Machine

/-- The value of a byte string under a polynomial (R542). -/
def chkValue (poly : Nat) (bs : List Byte) : Nat :=
  match poly with
  | 0 => crc32c bs
  | 1 => crc32 bs
  | 2 => crc64 bs
  | _ => crc16 bs

/-- One value after another in the order of R347. -/
def isAfter (a b : Nat) : Bool :=
  let d := (a + 2 ^ 32 - b) % 2 ^ 32
  decide (1 ≤ d ∧ d < 2 ^ 31)

namespace State

def chkJob (s : State) (j : Nat) : Option ChkJob := s.chk.jobs.find? fun x => x.j == j
def setChkJob (s : State) (x : ChkJob) : State := { s with chk := { s.chk with jobs := s.chk.jobs.map fun y => if y.j = x.j then x else y } }

/-- Two words as one value. -/
def pair64 (s : State) (lo hi : Nat) : Nat := (s.rd lo).toNat + 2 ^ 32 * (s.rd hi).toNat

/-! ### Jobs (R543 to R547) -/

/-- A job ends with its result (R545, R546). -/
def chkFinish (s : State) (x : ChkJob) (res val : Nat) : State :=
  let v := if res = 0 ∨ res = 3 then val else 0
  let s := { s with chk := { s.chk with jobs := s.chk.jobs.filter fun y => y.j != x.j } }
  let s := (s.wr (R.CHK_JOB_RES_LO x.j) (BitVec.ofNat 32 v)).wr (R.CHK_JOB_RES_HI x.j) (BitVec.ofNat 32 (v / 2 ^ 32))
  let s := (s.set (R.CHK_JSTAT x.j) F.CHK_JSTAT_STATE 3).set (R.CHK_JSTAT x.j) F.CHK_JSTAT_RESULT res
  let s := (s.wr R.CHK_DONE (s.rd R.CHK_DONE ||| BitVec.ofNat 32 (2 ^ x.j))).irq 1
  if res = 3 then s.raise 0xE0 0x38 none (some x.addr) x.j else s

/-- START of a slot: refused while it is queued or runs, and for LEN 0. -/
def chkStart (s : State) (j : Nat) : State :=
  let len := (s.rd (R.CHK_JOB_LEN j)).toNat
  if (s.chkJob j).isSome || len == 0 then s.set R.CHK_STAT F.CHK_STAT_REF 1
  else
    let x : ChkJob := { j := j, addr := s.pair64 (R.CHK_JOB_ADDR_LO j) (R.CHK_JOB_ADDR_HI j), len := len, cfg := s.rd (R.CHK_JOB_CFG j) }
    State.set { s with chk := { s.chk with jobs := s.chk.jobs ++ [x] } } (R.CHK_JSTAT j) F.CHK_JSTAT_STATE 1

/-- ABORT of a slot: an undecided job ends; its host read is left to complete and discarded. -/
def chkAbort (s : State) (j : Nat) : State :=
  match s.chkJob j with
  | some x =>
    if x.result.isNone then
      ((s.dropReads fun r => match r.pur with | .check k => k == j | _ => false).chkFinish x 1 0).set R.CHK_STAT
        F.CHK_STAT_ABORT_RES 1
    else s.set R.CHK_STAT F.CHK_STAT_ABORT_RES 2
  | none => s.set R.CHK_STAT F.CHK_STAT_ABORT_RES 2

/-- A write of CHK_CMD. -/
def chkCmd (v : Word) (s : State) : State :=
  let j := wfld v F.CHK_CMD_JOB
  match wfld v F.CHK_CMD_OP with
  | 1 => s.chkStart j
  | 2 => s.chkAbort j
  | _ => s

/-- A job's outcome is decided (R545). -/
def chkDecide (s : State) (x : ChkJob) (res val : Nat) : State := s.setChkJob { x with result := some (res, val) }

/-- The last byte has been taken in: COMPLETED or MISMATCH. -/
def chkTaken (s : State) (x : ChkJob) (bs : List Byte) : State :=
  let v := chkValue (fldOf x.cfg F.CHK_JOB_CFG_POLY) bs
  let exp := s.pair64 (R.CHK_JOB_EXP_LO x.j) (R.CHK_JOB_EXP_HI x.j)
  s.chkDecide x (if fldOf x.cfg F.CHK_JOB_CFG_CMP = 1 ∧ v ≠ exp then 3 else 0) v

/-- The next host read of a job, of up to 512 bytes (R544), when the DMF may make it. -/
def chkHostNext (s : State) (x : ChkJob) : State :=
  let h := fldOf x.cfg F.CHK_JOB_CFG_HD
  let n := min 512 (x.len - x.got.length)
  if !s.dmfOk h then s.chkDecide x 5 0
  else (s.setChkJob x).hostRead h (x.addr + x.got.length) n
    (if fldOf x.cfg F.CHK_JOB_CFG_PASID_EN = 1 then some (fldOf x.cfg F.CHK_JOB_CFG_PASID) else none) (.check x.j) none

/-- A host read of a job has ended. -/
def chkServed (s : State) (j : Nat) (st : CplStatus) (data : List Byte) : State :=
  match s.chkJob j with
  | none => s
  | some x =>
    if x.result.isSome then s
    else if st ≠ .sc then s.chkDecide x 6 0
    else
      let x := { x with got := x.got ++ data }
      if x.len ≤ x.got.length then (s.setChkJob x).chkTaken x (x.got.take x.len) else s.chkHostNext x

/-- CHECK_JOB_END: the first decided job ends. -/
def chkEnd (s : State) : State :=
  match s.chk.jobs.find? (fun x => x.result.isSome) with
  | some x => match x.result with | some (r, v) => s.chkFinish x r v | none => s
  | none => s

/-! ### Protected records (R548 to R550) -/

def chkRec (s : State) (r : Nat) : ChkRec := s.chk.recs.get (fun _ => {}) r
def setChkRec (s : State) (r : Nat) (f : ChkRec → ChkRec) : State :=
  { s with chk := { s.chk with recs := s.chk.recs.upd (fun _ => {}) r f } }

/-- The address of a record. -/
def recAddr (s : State) (r : Nat) : Nat := s.pair64 (R.CHK_REC_ADDR_LO r) (R.CHK_REC_ADDR_HI r) / 4 * 4

/-- A failure of a record is shown, and reported unless one already stands (R550). -/
def recReport (s : State) (r : Nat) (stale : Bool) : State :=
  let a := R.CHK_REC_STAT r
  let told := s.on a F.CHK_REC_STAT_CHK_ERR || s.on a F.CHK_REC_STAT_STALE
  let s := s.set a (if stale then F.CHK_REC_STAT_STALE else F.CHK_REC_STAT_CHK_ERR) 1
  if told then s else s.raise 0xE0 0x38 none (some (s.recAddr r)) (r + 256 + 512 * (if stale then 2 else 1))

/-- A record's bytes pass CHECK with LEN in range (R548, R549). -/
def recWhole (b : List Byte) : Bool :=
  let n := fieldAt b 4 2
  decide (4 ≤ n ∧ n ≤ 4084 ∧ n % 4 = 0 ∧ 12 + n ≤ b.length) && crc32c (b.take (8 + n)) == fieldAt b (8 + n) 4

/-- The alive counter of a whole record (R549, R550). -/
def recAlive (s : State) (r alive : Nat) : State :=
  let a := R.CHK_REC_STAT r
  if (s.chkRec r).seen = false then
    ((s.setChkRec r fun x => { x with seen := true }).wr (R.CHK_REC_LAST r) (BitVec.ofNat 32 alive)).set a F.CHK_REC_STAT_MISSES 0
  else if isAfter alive (s.rd (R.CHK_REC_LAST r)).toNat then
    (s.wr (R.CHK_REC_LAST r) (BitVec.ofNat 32 alive)).set a F.CHK_REC_STAT_MISSES 0
  else
    let s := s.inc a F.CHK_REC_STAT_MISSES 1
    if max 1 (s.get (R.CHK_REC_CFG r) F.CHK_REC_CFG_MISS_LIM) ≤ s.get a F.CHK_REC_STAT_MISSES then s.recReport r true else s

/-- The verdict on a read of a record: none when the read itself failed (R550); a record that is not whole is read again
once (R549). -/
def recVerdict (s : State) (r : Nat) (repeated : Bool) : Option (List Byte) → State
  | none => (s.setChkRec r fun x => { x with again := false }).recReport r false
  | some b =>
    if recWhole b then (s.setChkRec r fun x => { x with again := false }).recAlive r (fieldAt b 0 4)
    else if repeated then (s.setChkRec r fun x => { x with again := false }).recReport r false
    else s.setChkRec r fun x => { x with again := true }

/-- A write of CHK_REC_CFG: the first read after EN is set is a first read (R549). -/
def chkRecCfg (m r : Nat) (v : Word) (s : State) : State :=
  let was := s.on (R.CHK_REC_CFG r) F.CHK_REC_CFG_EN
  let s := s.store m (R.CHK_REC_CFG r) v
  if s.on (R.CHK_REC_CFG r) F.CHK_REC_CFG_EN && was then s else s.setChkRec r fun _ => {}

end State

/-! ### The commands -/

/-- CHECK_JOB_START (R543). -/
def execCheckJobStart (m : Nat) (v : Word) (s : State) : Res' :=
  runOk (okCheckJobStart m) s fun s => s.cmdWrite m R.CHK_CMD v (State.chkCmd v)

/-- CHECK_JOB_ABORT (R547). -/
def execCheckJobAbort (m : Nat) (v : Word) (s : State) : Res' :=
  runOk (okCheckJobAbort m) s fun s => s.cmdWrite m R.CHK_CMD v (State.chkCmd v)

/-- CHECK_JOB_END (R545, R546). -/
def execCheckJobEnd (s : State) : Res' := runOk okCheckJobEnd s fun s => s.chkEnd

end Sys2Proof.Machine
end

