-- ==== Sys2Proof/Machine/Tel.lean ====
section
/-! DEFINITION. Telemetry (19_telemetry.md): counter selections, the central reader, and the four rings in control memory. -/

namespace Sys2Proof.Machine

/-- The power domain and the clock island of a bank (R552). -/
def bankDomain (b : Nat) : Nat :=
  if b < 16 then 10 + b else if b < 32 then 26 + (b - 16) / 4 else if b = 32 then 9 else if b < 35 then 30 else 0
def bankIsland (b : Nat) : Nat :=
  if b < 16 then 8 + b else if b < 32 then 24 + (b - 16) / 4 else if b = 32 then 7 else if b < 35 then 28 else 0

/-- The slot size of a ring (R566). -/
def ringSlot (r : Nat) : Nat := [8192, 64, 256, 8192].getD r 64

namespace State

/-! ### Rings (R566) -/

/-- A ring whose end would pass 16 MiB. -/
def ringBad (s : State) (r : Nat) : Bool :=
  let a := R.TEL_RING_CFG r
  decide (0x1000000 < s.get a F.TEL_RING_CFG_BASE * 4096 + 2 ^ s.get a F.TEL_RING_CFG_LOG * ringSlot r)

/-- A ring is full. -/
def ringFull (s : State) (r : Nat) : Bool :=
  let p := R.TEL_RING_PTR r
  (s.get p F.TEL_RING_PTR_WR + 65536 - s.get p F.TEL_RING_PTR_RD) % 65536 == 2 ^ s.get (R.TEL_RING_CFG r) F.TEL_RING_CFG_LOG

/-- A ring takes a slot. -/
def ringOpen (s : State) (r : Nat) : Bool := !s.ringBad r && !s.ringFull r

/-- A slot is written by master 5 in pieces of 64 bytes, each checked; WR advances. -/
def ringWrite (s : State) (r : Nat) (bs : List Byte) : State :=
  let n := ringSlot r
  let wr := s.get (R.TEL_RING_PTR r) F.TEL_RING_PTR_WR
  let off := s.get (R.TEL_RING_CFG r) F.TEL_RING_CFG_BASE * 4096 + wr % 2 ^ s.get (R.TEL_RING_CFG r) F.TEL_RING_CFG_LOG * n
  let bs := padTo n bs
  let s := forAll (upTo (n / 64)) (fun i s =>
    s.cmemStore 5 (off + 64 * i) ((bs.drop (64 * i)).take 64)) s
  s.set (R.TEL_RING_PTR r) F.TEL_RING_PTR_WR ((wr + 1) % 65536)

/-- A write of TEL_RING_r_CFG: ERR follows (R566). -/
def ringCfg (m r : Nat) (v : Word) (s : State) : State :=
  let s := s.store m (R.TEL_RING_CFG r) v
  s.set (R.TEL_RING_CFG r) F.TEL_RING_CFG_ERR (b2n (s.ringBad r))

/-! ### Counters (R552 to R558) -/

/-- A write of TEL_CTR_b_i_SEL (R553, R554). -/
def ctrSel (m b i : Nat) (v : Word) (s : State) : State :=
  let a := R.TEL_CTR_SEL b i
  let s := s.store m a v
  let k := b * 64 + i
  let s := { s with tel := { s.tel with ctr := s.tel.ctr.put dZero k 0, changed := if s.tel.changed.contains k then s.tel.changed else s.tel.changed ++ [k] } }
  s.set a F.TEL_CTR_SEL_BAD (b2n (selBad b (s.get a F.TEL_CTR_SEL_EVENT) (s.get a F.TEL_CTR_SEL_QUAL) (s.on a F.TEL_CTR_SEL_ALL)))

/-- The counters to read, in order. -/
def enabledCtrs (s : State) : List (Nat × Nat) :=
  (upTo 37).flatMap fun b => ((upTo (bankSize b)).filter fun i => s.on (R.TEL_CTR_SEL b i) F.TEL_CTR_SEL_ENA).map fun i => (b, i)

/-- The island of a bank is in Dusk. -/
def bankDusk (s : State) (b : Nat) : Bool := bit (s.rd (duskStat (bankIsland b))).toNat (bankIsland b % 32)

/-- A bank's domain is off. -/
def bankOff (s : State) (b : Nat) : Bool := bankDomain b != 0 && !s.pdOn (bankDomain b)

/-- What the reader reads of a counter: 0 in a domain that is off, the last value read in Dusk (R558). -/
def ctrRead (s : State) (b i : Nat) : Nat :=
  let k := b * 64 + i
  if s.bankOff b then 0 else if s.bankDusk b then s.tel.lastRead.get dZero k else s.tel.ctr.get dZero k

/-- An entry of a set (R557); entry e is read e × 10 ns after the set begins. -/
def setEntry (s : State) (e b i : Nat) : List Byte :=
  let k := b * 64 + i
  leBytes 8 (s.ctrRead b i) ++ leBytes 4 (s.now + 10 * e) ++ leBytes 1 b ++ leBytes 1 i
    ++ leBytes 1 (s.get (R.TEL_CTR_SEL b i) F.TEL_CTR_SEL_BAD + 2 * b2n (s.bankDusk b) + 4 * b2n (s.bankOff b)
      + 8 * b2n (s.tel.changed.contains k) + 16 * b2n (s.tel.cleared.contains b)) ++ [0]

/-- A snapshot set is made, or skipped and counted when ring 0 is full (R556, R557, R560). -/
def snapshot (s : State) : State :=
  if !s.on R.TEL_CFG F.TEL_CFG_EN || s.ringBad 0 then s
  else if s.ringFull 0 then
    State.inc { s with tel := { s.tel with skipped := min 65535 (s.tel.skipped + 1) } } R.TEL_STAT F.TEL_STAT_SKIP 1
  else
    let cs := s.enabledCtrs
    let n := cs.length
    let bs := leBytes 4 s.tel.setNo ++ leBytes 2 n ++ leBytes 2 s.tel.skipped ++ leBytes 8 s.now ++ leBytes 8 (s.now + 10 * (n - 1)) ++ leBytes 8 0
      ++ (cs.zip (upTo n)).flatMap fun x => s.setEntry x.2 x.1.1 x.1.2
    let last := cs.foldl (fun t x => t.put dZero (x.1 * 64 + x.2) (s.ctrRead x.1 x.2)) s.tel.lastRead
    let s := { s with tel := { s.tel with setNo := s.tel.setNo + 1, skipped := 0, changed := [], cleared := [], lastRead := last } }
    (s.ringWrite 0 bs).irq 2

/-- A write of TEL_CFG: sets count from 0 at EN = 1 (R557). -/
def telCfg (m : Nat) (v : Word) (s : State) : State :=
  let was := s.on R.TEL_CFG F.TEL_CFG_EN
  let s := s.store m R.TEL_CFG v
  if was then s else { s with tel := { s.tel with setNo := 0, skipped := 0 } }

/-- The oldest spoor record is written to ring 1 (R563). -/
def spoorWrite (s : State) : State :=
  match s.tel.spoorQ with
  | [] => s
  | r :: rest =>
    if s.ringOpen 1 then
      (State.ringWrite { s with tel := { s.tel with spoorQ := rest } } 1 r).inc R.TEL_SPOOR_CNT F.TEL_SPOOR_CNT_RECORDS 1
    else s

/-- The oldest mirror or trap record is written to ring 2 or 3 (R564, R565). -/
def sampleWrite (s : State) (ring : Nat) : State :=
  match (if ring = 2 then s.sett.mirQ else s.sett.trapQ) with
  | [] => s
  | r :: rest =>
    if !s.ringOpen ring then s
    else if ring = 2 then
      let s := (((s.setSett fun t => { t with mirQ := rest }).ringWrite 2 r.bytes).inc R.SETT_MIRROR_CNT F.SETT_MIRROR_CNT_SENT 1).count 32 6 0 1
      match r.pid with | some pid => s.mirrorDone pid | none => s
    else (s.setSett fun t => { t with trapQ := rest }).ringWrite 3 r.bytes

end State

/-! ### The commands -/

/-- COUNTER_SELECT (R554). -/
def execCounterSelect (m b i : Nat) (v : Word) (s : State) : Res' :=
  runOk (okCounterSelect m b i) s fun s => s.cmdWrite m (R.TEL_CTR_SEL b i) v (State.ctrSel m b i v)

/-- SNAPSHOT_SET (R556). -/
def execSnapshotSet (s : State) : Res' := runOk okSnapshotSet s fun s => s.snapshot

/-- SPOOR_RING_WRITE (R563). -/
def execSpoorRingWrite (s : State) : Res' := runOk okSpoorRingWrite s fun s => s.spoorWrite

/-- SAMPLE_RING_WRITE (R564). -/
def execSampleRingWrite (ring : Nat) (s : State) : Res' := runOk (okSampleRingWrite ring) s fun s => s.sampleWrite ring

end Sys2Proof.Machine
end

