-- ==== Sys2Proof/Machine/FabCtl.lean ====
section
/-! DEFINITION. The fabric control unit (R340 to R367, 10_fabric.md): control messages taken in (R346 to R350), discovery and id
assignment, heartbeats and manager loss, takeover and step-down, events, and fabric time. CSR_READ, CSR_WRITE and TABLE_WRITE
stand in FabCsr.lean. -/

namespace Sys2Proof.Machine

/-- A control message's fields (R346). -/
structure CtlMsg where
  opc : Nat
  rsp : Bool
  err : Bool
  tag : Nat
  src : Nat
  role : Nat
  epoch : Nat
  alive : Nat
  body : List Byte
  deriving DecidableEq, Repr

/-- A well-made message (R348): its check value holds, LEN lies in the payload, reserved bits are 0. -/
def ctlParse (b : List Byte) : Option CtlMsg :=
  let n := fieldAt b 7 1
  let body := (b.drop 16).take n
  if b.length < 16 ∨ b.length - 16 < n ∨ fieldAt b 1 1 / 4 ≠ 0 ∨ fieldAt b 5 1 / 4 ≠ 0 ∨ fieldAt b 12 2 ≠ 0
      ∨ crc16 (b.take 14 ++ body) ≠ fieldAt b 14 2 then none
  else some ⟨fieldAt b 0 1, bit (fieldAt b 1 1) 0, bit (fieldAt b 1 1) 1, fieldAt b 2 2, fieldAt b 4 1, fieldAt b 5 1,
    fieldAt b 6 1, fieldAt b 8 4, body⟩

/-- Epochs in the order of R347. -/
def epochAfter (a b : Nat) : Bool :=
  let d := (a + 256 - b) % 256
  decide (1 ≤ d ∧ d ≤ 127)

namespace State

def mgrId (s : State) : Nat := s.get R.MGT_FAB_MGR F.MGT_FAB_MGR_MGR_ID
def epoch (s : State) : Nat := s.get R.MGT_FAB_MGR F.MGT_FAB_MGR_EPOCH
def setMgr (s : State) (f : Fld) (v : Nat) : State := s.set R.MGT_FAB_MGR f v
def fabIdValid (s : State) : Bool := s.on R.MGT_FAB_ID F.MGT_FAB_ID_VALID

/-! ### Answers -/

/-- The response to a request goes to its sender (R350). -/
def ctlAnswer (s : State) (k : CtlMsg) (body : List Byte) : State :=
  s.ctlSend k.src k.opc true (decide (fieldAt body 0 1 ≠ 0)) k.tag body

/-- The responses to PROBE and ASSIGN go back by the port (R350). -/
def ctlAnswerBy (s : State) (port : Nat) (k : CtlMsg) (body : List Byte) : State :=
  s.ctlSendBy port k.src k.opc true (decide (fieldAt body 0 1 ≠ 0)) k.tag body

/-- A request refused with status 2 is counted; one from a manager is reported (R351, R362, and the collision table). -/
def ctlRefuse (s : State) (k : CtlMsg) : State :=
  let s := (s.inc R.MGT_FAB_ERR F.MGT_FAB_ERR_EPOCH_REJ 1).ctlAnswer k [2]
  if k.role = 2 then s.fabEvent 0x0A (leBytes 1 k.src ++ leBytes 1 k.epoch) else s

/-- A response whose status the rules do not give for the case: a free one other than OK. -/
def ctlFreeAnswer (s : State) (k : CtlMsg) : State :=
  let st := 1 + s.freeBelow 7
  s.used.ctlAnswer k (leBytes 1 st)

/-! ### Taking a message in -/

/-- A manager that hears a newer epoch or another manager steps down (R363): mode 4, standby, the sender as manager with its epoch. A
transition that runs is finished first (notes/assumptions/122.md). -/
def stepDown (s : State) (k : CtlMsg) : State :=
  if s.mode = 5 ∧ (epochAfter k.epoch s.epoch = true ∨ (k.role = 2 ∧ k.src ≠ s.ownId)) then
    if s.transiting then (if s.boot.target = 4 then (s.setMgr F.MGT_FAB_MGR_MGR_ID k.src).setMgr F.MGT_FAB_MGR_EPOCH k.epoch else s) else
    let s := ((s.set R.GLB_MODE F.GLB_MODE_PREV 5).set R.GLB_MODE F.GLB_MODE_CUR 4).set R.GLB_MODE F.GLB_MODE_STATE 2
    let s := (s.set R.MGT_FAB_ID F.MGT_FAB_ID_ROLE 1).modeEvent
    let s := (s.setMgr F.MGT_FAB_MGR_MGR_ID k.src).setMgr F.MGT_FAB_MGR_EPOCH k.epoch
    s.setFab fun f => { f with
      listening := false, hbSent := [], answered := [], t4 := [], lastAlive := none, missAt := s.now, exch := none, used := 0 }
  else s

/-- The entry of the control port's hand-off that a message is: the port it came by, the destination it came to, its bytes. -/
def ctlHit (s : State) (port : Option Nat) (msg : List Byte) : Option (Nat × Nat × List Byte) :=
  s.sett.ctlIn.find? fun x => x.2.2 == msg && (port.isNone || port == some x.1)

/-- A message leaves the control port's hand-off. -/
def ctlOut (s : State) (port : Option Nat) (msg : List Byte) : State :=
  match s.ctlHit port msg with
  | some x => s.setSett fun t => { t with ctlIn := t.ctlIn.erase x }
  | none => s

/-- A message reaches the unit: it leaves the control port's hand-off, is discarded and counted when it is not well made
(R348), and otherwise acts when it is one of opcode `opc` (R350). `f` is given the message and the destination it came to. -/
def ctlTake (s : State) (port : Option Nat) (msg : List Byte) (opc : Nat) (rsp : Bool) (f : CtlMsg → Option Nat → State → State) : State :=
  let dst := (s.ctlHit port msg).map (·.2.1)
  let s := s.ctlOut port msg
  if s.mode = 7 then s
  else match ctlParse msg with
    | none => s.inc R.MGT_FAB_ERR F.MGT_FAB_ERR_CRC16_ERR 1
    | some k => if k.opc = opc ∧ k.rsp = rsp then f k dst (s.stepDown k) else s

/-- A request outside modes 4 and 5 is answered with status 7, a short one with 6. -/
def ctlRequestIn (s : State) (k : CtlMsg) (len : Nat) (f : State → State) : State :=
  if s.mode ≠ 4 ∧ s.mode ≠ 5 then s.ctlAnswer k [7] else if k.body.length < len then s.ctlAnswer k [6] else f s

/-- From the current manager at the current epoch (R351, R359). -/
def fromMgr (s : State) (k : CtlMsg) : Bool := k.src == s.mgrId && k.epoch == s.epoch

/-- A request that only the current manager may make: any other is refused, however long it is (R351, R359). -/
def mgrRequest (s : State) (k : CtlMsg) (len : Nat) (f : State → State) : State :=
  s.ctlRequestIn k 0 fun s => if s.fromMgr k then s.ctlRequestIn k len f else s.ctlRefuse k

/-! ### Discovery and assignment (R352, R353) -/

/-- A fabric link is UP. -/
def fabUp (s : State) (P : Nat) : Bool := decide (P < 128) && s.isFabric P && s.portUp P

/-- A worker sends a message out of a port for another device and waits for the neighbour; a link that is not UP is answered
with status 4. -/
def relay (s : State) (k : CtlMsg) (back : Option Nat) (port dst opc : Nat) (body : List Byte) : State :=
  if !s.fabUp port then (match back with | some q => s.ctlAnswerBy q k [4] | none => s.ctlAnswer k [4])
  else
    let t := s.fab.tag
    (s.setFab fun f => { f with tag := (t + 1) % 65536, relays := f.relays ++ [⟨port, opc, t, k.src, k.tag, back⟩] }).ctlSendBy port dst opc
      false false t body

/-- The answer to a relayed request goes back to its requester, to an ASSIGN by the port it came by. -/
def relayBack (s : State) (r : Relay) (body : List Byte) : State :=
  let s := s.setFab fun f => { f with relays := f.relays.erase r }
  let err := decide (fieldAt body 0 1 ≠ 0)
  match r.back with
  | some q => s.ctlSendBy q r.src 0x12 true err r.srcTag body
  | none => s.ctlSend r.src 0x10 true err r.srcTag body

/-- The neighbour's response (R352): the PROBE response body behind a status byte, the status of an ASSIGN. -/
def relayed (s : State) (port : Nat) (k : CtlMsg) : State :=
  match s.fab.relays.find? (fun r => r.port == port && r.tag == k.tag && r.opc == k.opc) with
  | some r => s.relayBack r (if r.opc = 0x11 then 0 :: k.body else k.body)
  | none => s

/-- The state of this device for PROBE (R350, R353). -/
def probeBody (s : State) (port : Nat) : List Byte :=
  let r := if s.fabIdValid then s.get R.MGT_FAB_ID F.MGT_FAB_ID_ROLE else 3
  [0] ++ leBytes 1 (b2n s.fabIdValid) ++ leBytes 1 (s.get R.MGT_FAB_ID F.MGT_FAB_ID_ID) ++ leBytes 1 r ++ leBytes 1 s.mode ++ leBytes 1 port
    ++ [0, 0] ++ leBytes 8 Config.deviceUid.toNat

/-- The settings that ASSIGN and TAKEOVER carry. -/
def takeMgr (s : State) (k : CtlMsg) (mgr stby present : Nat) : State :=
  let s := (s.setMgr F.MGT_FAB_MGR_MGR_ID mgr).setMgr F.MGT_FAB_MGR_STBY_ID stby
  let s := (s.setMgr F.MGT_FAB_MGR_STBY_PRESENT present).setMgr F.MGT_FAB_MGR_EPOCH k.epoch
  s.setFab fun f => { f with missAt := s.now }

/-- Unranked links are retrained with cause 3 (R343). -/
def retrainUnranked (s : State) : State :=
  forAll ((upTo 128).filter fun P => s.isFabric P && (s.link (P / 8) (P % 8)).unranked) (fun P s => s.retrain (P / 8) (P % 8) 3 []) s

/-- ASSIGN (R353); one that came to this device's own id and names another is relayed out of its port (R350). -/
def assigned (s : State) (port : Nat) (dst : Option Nat) (k : CtlMsg) : State :=
  let c := fieldAt k.body 1 1
  if s.mode ≠ 4 ∧ s.mode ≠ 5 then s.ctlAnswerBy port k [7]
  else if k.body.length < 8 then s.ctlAnswerBy port k [6]
  else if s.fabIdValid then
    if c = s.ownId then s.ctlAnswerBy port k [0]
    else if dst = some s.ownId then s.relay k (some port) (fieldAt k.body 0 1) c 0x12 k.body
    else s.ctlAnswerBy port k [3]
  else
    let s := (s.set R.MGT_FAB_ID F.MGT_FAB_ID_ID c).set R.MGT_FAB_ID F.MGT_FAB_ID_VALID 1
    let s := s.takeMgr k (fieldAt k.body 2 1) (fieldAt k.body 3 1) (fieldAt k.body 4 1 % 2)
    let s := (s.set R.MGT_FAB_CFG F.MGT_FAB_CFG_HB_MISS (fieldAt k.body 5 1)).set R.MGT_FAB_CFG F.MGT_FAB_CFG_HB_PERIOD (fieldAt k.body 6 2)
    (((s.setFab fun f => { f with lastAlive := none }).ctlAnswerBy port k [0]).eventsOut).retrainUnranked

/-! ### Heartbeats and time (R359, R360, R367) -/

/-- A completed exchange (R367): the timebase steps or is slewed, or the exchange is not used. -/
def timeExchange (s : State) (t1 t2 t3 t4 : Nat) : State :=
  let rtt : Int := ((t4 : Int) - t1) - ((t3 : Int) - t2)
  let lim := clampTo 1 1000 (s.get R.MGT_FAB_TIME F.MGT_FAB_TIME_RTT_MAX) * 100
  if rtt ≤ lim ∧ s.on R.MGT_FAB_TIME F.MGT_FAB_TIME_EN = true then
    let off : Int := (((t2 : Int) - t1) - ((t4 : Int) - t3)) / 2
    let s := s.wr R.MGT_FAB_TOFS (BitVec.ofInt 32 off)
    let s := s.setFab fun f => { f with used := f.used + 1, slew := if 10000 < off.natAbs then 0 else -off }
    let s := if 10000 < off.natAbs then { s with now := ((s.now : Int) - off).toNat } else s
    s.set R.MGT_FAB_TIME F.MGT_FAB_TIME_LOCKED (b2n (decide (3 ≤ s.fab.used)))
  else (s.setFab fun f => { f with used := 0 }).set R.MGT_FAB_TIME F.MGT_FAB_TIME_LOCKED 0

/-- Queued events are sent again from the oldest on, `n` of them; resending goes on (R362, R365). -/
def eventsAgain (s : State) (n : Nat) : State :=
  let s := (s.set R.MGT_FAB_EVQ F.MGT_FAB_EVQ_HELD 0).setFab fun f => { f with resends := 0 }
  forAll (s.fab.evq.take n) (fun e s => s.eventSend e) s

/-- Fabric links that are up. -/
def fabLinksUp (s : State) : Nat := ((upTo 128).filter s.fabUp).length

/-- A heartbeat (R359): accepted, the exchange of the previous one completed when its T4 came (notes/assumptions/125.md), and answered. -/
def heartbeatIn (s : State) (k : CtlMsg) : State :=
  s.mgrRequest k 20 fun s =>
    if (match s.fab.lastAlive with | some a => !isAfter k.alive a | none => false) then
      (s.inc R.MGT_FAB_ERR F.MGT_FAB_ERR_STALE 1).ctlFreeAnswer k
    else
      let t4 := fieldAt k.body 8 8
      let s := match s.fab.exch with
        | some (t1, t2, t3) => if t4 = 0 then s else s.timeExchange t1 t2 t3 t4
        | none => s
      let t := s.now
      let s := s.setFab fun f => { f with lastAlive := some k.alive, missAt := t, exch := some (fieldAt k.body 0 8, t, t) }
      let s := (s.setMgr F.MGT_FAB_MGR_STBY_ID (fieldAt k.body 16 1)).setMgr F.MGT_FAB_MGR_STBY_PRESENT (fieldAt k.body 17 1 % 2)
      let s := s.setMgr F.MGT_FAB_MGR_MISSES 0
      let held := s.on R.MGT_FAB_EVQ F.MGT_FAB_EVQ_HELD
      let s := s.ctlAnswer k ([0] ++ leBytes 1 s.mode ++ leBytes 1 s.fabLinksUp ++ leBytes 1 s.fab.evq.length ++ leBytes 8 t ++ leBytes 8 t)
      if held then s.eventsAgain 1 else s

/-- A response to a heartbeat at the manager (R358). -/
def heartbeatAnswered (s : State) (k : CtlMsg) : State :=
  if s.mode = 5 ∧ k.err = false ∧ s.fab.hbSent.contains (k.src, k.tag) = true then
    let s := ((s.dirPut k.src 0 1 2).dirPut k.src 2 1 0).dirPut k.src 4 4 k.alive
    s.setFab fun f => { f with
      answered := if f.answered.contains k.src then f.answered else f.answered ++ [k.src], t4 := f.t4.put dZero k.src s.now }
  else s

/-- Manager loss (R360); a standby then takes over unless a transition runs (R361, and the collision table of
02_modes_and_boot.md). -/
def mgrLost (s : State) : State :=
  let s := (s.setMgr F.MGT_FAB_MGR_MGR_LOST 1).raise 0xE3 0x30 none none s.mgrId
  let s := s.fabEvent 0x06 (leBytes 1 s.mgrId ++ leBytes 1 s.epoch ++ leBytes 8 s.now)
  if s.get R.MGT_FAB_ID F.MGT_FAB_ID_ROLE = 1 ∧ s.transiting = false then
    let s := (s.set R.GLB_MODE F.GLB_MODE_STATE 1).set R.GLB_MODE F.GLB_MODE_REASON 0
    State.setFab { s with boot := { s.boot with target := 5 } } fun f => { f with takeover := true }
  else s

/-- The next 1 ms tick of the timebase (R359; notes/assumptions/40.md). -/
def hbTick (s : State) : State :=
  let s := { s with now := (s.now / 1000000 + 1) * 1000000 }
  let p := clampTo 1 1000 (s.get R.MGT_FAB_CFG F.MGT_FAB_CFG_HB_PERIOD) * 1000000
  if s.mode ≠ 4 ∨ s.fabIdValid = false ∨ s.now < s.fab.missAt + p then s
  else
    let s := (s.inc R.MGT_FAB_MGR F.MGT_FAB_MGR_MISSES 1).setFab fun f => { f with missAt := s.now }
    if max 1 (s.get R.MGT_FAB_CFG F.MGT_FAB_CFG_HB_MISS) ≤ s.get R.MGT_FAB_MGR F.MGT_FAB_MGR_MISSES
        ∧ s.on R.MGT_FAB_MGR F.MGT_FAB_MGR_MGR_LOST = false then s.mgrLost
    else s

/-- A manager that heard no other starts with epoch 1 (R363). -/
def listenEnd (s : State) : State :=
  if s.mode = 5 ∧ s.fab.listening = true then (s.setMgr F.MGT_FAB_MGR_EPOCH 1).setFab fun f => { f with listening := false } else s

/-- TAKEOVER (R362). -/
def takeoverIn (s : State) (k : CtlMsg) : State :=
  s.ctlRequestIn k 3 fun s =>
    if fieldAt k.body 0 1 = s.mgrId ∧ k.src = s.get R.MGT_FAB_MGR F.MGT_FAB_MGR_STBY_ID
        ∧ (epochAfter k.epoch s.epoch = true ∨ s.on R.MGT_FAB_MGR F.MGT_FAB_MGR_MGR_LOST = true) then
      let s := s.takeMgr k k.src (fieldAt k.body 1 1) (fieldAt k.body 2 1 % 2)
      let s := (s.setMgr F.MGT_FAB_MGR_MGR_LOST 0).setMgr F.MGT_FAB_MGR_MISSES 0
      let s := (s.setFab fun f => { f with lastAlive := some k.alive, exch := none }).ctlAnswer k [0]
      s.eventsAgain s.fab.evq.length
    else s.ctlRefuse k

/-! ### Events (R364 to R366) -/

/-- An event goes to the fabric manager's host domain (R585). -/
def deliver (s : State) (src : Nat) (e : List Byte) : State :=
  let seq := fieldAt e 2 2
  let s := (s.dirPut src 16 2 seq).setFab fun f => { f with heard := if f.heard.contains src then f.heard else f.heard ++ [src] }
  s.mgrEvent 0x07 (leBytes 1 src ++ e.take 1 ++ leBytes 2 seq) (fieldAt e 4 8) ((e.drop 12).take 36 ++ (e.drop 1).take 1)

/-- The number of the event to deliver next for a device: it follows the record's EVSEQ. Of a device no event of which was delivered
here, and whose record holds 0, it is 0 (notes/assumptions/41.md). -/
def nextSeq (s : State) (src : Nat) : State × Nat :=
  let (s, b) := s.dirRead src
  let q := fieldAt b 16 2
  (s, if s.fab.heard.contains src = true ∨ q ≠ 0 then (q + 1) % 65536 else 0)

/-- Held events whose turn has come. -/
def deliverHeld : Nat → Nat → State → State
  | 0, _, s => s
  | n + 1, src, s =>
    if (s.fab.held.get dNil src).isEmpty then s
    else
      let (s, q) := s.nextSeq src
      match (s.fab.held.get dNil src).find? (fun x => x.1 == q) with
      | some x => deliverHeld n src ((s.setFab fun f => { f with held := f.held.upd dNil src fun l => l.filter fun y => y.1 != x.1 }).deliver src x.2)
      | none => s

/-- An EVENT at the manager (R366): delivered in turn, held when it is ahead, a duplicate acknowledged. -/
def eventIn (s : State) (k : CtlMsg) : State :=
  s.ctlRequestIn k 48 fun s =>
    if s.mode ≠ 5 then s.ctlFreeAnswer k
    else
      let seq := fieldAt k.body 2 2
      let (s, q) := s.nextSeq k.src
      let d := (seq + 65536 - q) % 65536
      let held := s.fab.held.get dNil k.src
      if d = 0 then deliverHeld 64 k.src ((s.deliver k.src k.body).ctlAnswer k [0])
      else if 32768 ≤ d ∨ held.any (fun x => x.1 == seq) = true then s.ctlAnswer k [0]
      else if held.length < 64 then
        (s.setFab fun f => { f with held := f.held.put dNil k.src (held ++ [(seq, k.body)]) }).ctlAnswer k [0]
      else s.ctlFreeAnswer k

/-- An acknowledgement at the worker (R365). -/
def eventAcked (s : State) (k : CtlMsg) : State :=
  match s.fab.evTags.find? (fun x => x.1 == k.tag) with
  | some x =>
    if k.err || k.src != s.mgrId then s
    else (s.setFab fun f => { f with
      evq := f.evq.filter (fun e => fieldAt e 2 2 != x.2), evTags := f.evTags.filter (fun y => y.2 != x.2), resends := 0 }).refreshEvq
  | none => s

/-- The resend timer of the oldest event (R365). -/
def eventResend (s : State) : State :=
  match s.fab.evq with
  | [] => s
  | e :: _ =>
    if s.mode ≠ 4 ∨ s.on R.MGT_FAB_EVQ F.MGT_FAB_EVQ_HELD = true ∨ s.on R.MGT_FAB_MGR F.MGT_FAB_MGR_MGR_LOST = true
        ∨ s.fabIdValid = false then s
    else if 8 ≤ s.fab.resends then s.set R.MGT_FAB_EVQ F.MGT_FAB_EVQ_HELD 1
    else (s.setFab fun f => { f with resends := f.resends + 1 }).eventSend e

end State

/-- The opcodes the unit knows (R350). -/
def ctlKnown (opc : Nat) : Bool := [0x01, 0x10, 0x11, 0x12, 0x20, 0x21, 0x22, 0x30, 0x40].contains opc

/-- The opcodes whose responses have a command of their own. -/
def ctlAnswers : List Nat := [0x01, 0x11, 0x12, 0x30]

/-! ### The commands -/

/-- HEARTBEAT (R359). -/
def execHeartbeat (port : Nat) (msg : List Byte) (s : State) : Res' :=
  run (.heartbeat port msg) s fun s => s.ctlTake (some port) msg 0x01 false fun k _ s => s.heartbeatIn k

/-- HEARTBEAT_RESPONSE (R358). -/
def execHeartbeatResponse (msg : List Byte) (s : State) : Res' :=
  run (.heartbeatResponse msg) s fun s => s.ctlTake none msg 0x01 true fun k _ s => s.heartbeatAnswered k

/-- HEARTBEAT_TICK (R359, R360). -/
def execHeartbeatTick (s : State) : Res' := run .heartbeatTick s fun s => s.hbTick

/-- MANAGER_LISTEN_END (R363). -/
def execManagerListenEnd (s : State) : Res' := run .managerListenEnd s fun s => s.listenEnd

/-- PROBE_REQ (R352). -/
def execProbeReq (msg : List Byte) (s : State) : Res' :=
  run (.probeReq msg) s fun s => s.ctlTake none msg 0x10 false fun k _ s =>
    s.ctlRequestIn k 2 fun s => s.relay k none (fieldAt k.body 0 1) (fieldAt k.body 1 1) 0x11 (k.body.take 1)

/-- PROBE (R353). -/
def execProbe (port : Nat) (msg : List Byte) (s : State) : Res' :=
  run (.probe port msg) s fun s => s.ctlTake (some port) msg 0x11 false fun k _ s => s.ctlAnswerBy port k (s.probeBody port)

/-- PROBE_RESPONSE (R352): of a PROBE, or of an ASSIGN that was relayed as one. -/
def execProbeResponse (port : Nat) (msg : List Byte) (s : State) : Res' :=
  run (.probeResponse port msg) s fun s =>
    s.ctlTake (some port) msg (if fieldAt msg 0 1 = 0x12 then 0x12 else 0x11) true fun k _ s => s.relayed port k

/-- PROBE_TIMEOUT (R352). -/
def execProbeTimeout (s : State) : Res' := run .probeTimeout s fun s =>
  match s.fab.relays with
  | [] => s
  | r :: _ => s.relayBack r [4]

/-- ASSIGN (R353). -/
def execAssign (port : Nat) (msg : List Byte) (s : State) : Res' :=
  run (.assign port msg) s fun s => s.ctlTake (some port) msg 0x12 false fun k dst s => s.assigned port dst k

/-- EVENT (R366). -/
def execFabEvent (msg : List Byte) (s : State) : Res' :=
  run (.fabEvent msg) s fun s => s.ctlTake none msg 0x30 false fun k _ s => s.eventIn k

/-- EVENT_RESPONSE (R365). -/
def execEventResponse (msg : List Byte) (s : State) : Res' :=
  run (.eventResponse msg) s fun s => s.ctlTake none msg 0x30 true fun k _ s => s.eventAcked k

/-- EVENT_RESEND_TIMEOUT (R365). -/
def execEventResendTimeout (s : State) : Res' := run .eventResendTimeout s fun s => s.eventResend

/-- TAKEOVER (R362). -/
def execTakeover (msg : List Byte) (s : State) : Res' :=
  run (.takeover msg) s fun s => s.ctlTake none msg 0x40 false fun k _ s => s.takeoverIn k

/-- UNKNOWN_CONTROL_OPCODE (R350). A response for which the table has no row of its own arrives by this one too: the unit acts on none,
but a manager may step down at any message (R363). -/
def execUnknownControlOpcode (port : Nat) (msg : List Byte) (s : State) : Res' :=
  runOk (okUnknownControlOpcode port) s fun s =>
    let o := fieldAt msg 0 1
    if bit (fieldAt msg 1 1) 0 then (if ctlAnswers.contains o then s else s.ctlTake (some port) msg o true fun _ _ s => s)
    else if ctlKnown o then s
    else s.ctlTake (some port) msg o false fun k _ s => s.ctlAnswer k [1]

/-- One nanosecond of the timebase (R367, CI33), which is what a step does when no command waits (notes/assumptions/1.md): the
time counts, and every 2,000 ns the offset still to be slewed shrinks by 1 ns, which is 500 ppm. -/
def tick (s : State) : State :=
  let s := { s with now := s.now + 1 }
  if s.fab.slew = 0 then s
  else if s.fab.slewDiv + 1 < 2000 then s.setFab fun f => { f with slewDiv := f.slewDiv + 1 }
  else
    let back := decide (s.fab.slew < 0)
    let s := if back then { s with now := s.now - 1 } else { s with now := s.now + 1 }
    s.setFab fun f => { f with slewDiv := 0, slew := if back then f.slew + 1 else f.slew - 1 }

end Sys2Proof.Machine
end

