-- ==== Sys2Proof/Machine/Chan.lean ====
section
/-! DEFINITION. The management channel (R571 to R588, 20_management_registers.md): rings, the commands that need no CSR access,
flash, firmware-defined commands, events, and the I3C side. CSR_READ, CSR_WRITE and RESET stand in ChanCmd.lean. -/

namespace Sys2Proof.Machine

/-- Ring sizes: values outside 4–12 act as the nearer end. -/
def ringLog (n : Nat) : Nat := clampTo 4 12 n

/-- Entries between a consumer and a producer index (R571). -/
def ringUsed (pi ci : Nat) : Nat := (pi + 65536 - ci) % 65536

/-- The master of a command path (R567): a domain's, or MCTP's. -/
def pathMaster (path : Nat) : Nat := if path = 16 then 9 else 16 + path

namespace State

/-! ### Rings (R572, R573) -/

/-- Two registers as an address. -/
def ringBase (s : State) (lo hi : Nat) : Nat := (s.rd lo).toNat / 4096 * 4096 + 2 ^ 32 * (s.rd hi).toNat

/-- BUSY follows the command in progress. -/
def refreshBusy (s : State) (path : Nat) : State :=
  if path < 16 then s.set (R.MGT_RING_STAT path) F.MGT_RING_STAT_BUSY (b2n (s.chan.cmds.get dNone path).isSome) else s

/-- The indices of a domain return to 0. -/
def ringZero (s : State) (h : Nat) : State := ((s.wr (R.MGT_CMD_IDX h) 0).wr (R.MGT_RSP_IDX h) 0).wr (R.MGT_EVT_IDX h) 0

/-- A write of MGT_RING_CTL (R572). -/
def ringCtl (m h : Nat) (v : Word) (s : State) : State :=
  let was := s.on (R.MGT_RING_CTL h) F.MGT_RING_CTL_EN
  let s := s.store m (R.MGT_RING_CTL h) v
  if !won v F.MGT_RING_CTL_EN then ((s.quietCmd h).refreshBusy h).ringZero h
  else if was then s
  else (s.setDom h fun d => { d with
      cmdLog := ringLog (wfld v F.MGT_RING_CTL_CMD_LOG), rspLog := ringLog (wfld v F.MGT_RING_CTL_RSP_LOG)
      evtLog := ringLog (wfld v F.MGT_RING_CTL_EVT_LOG)
      cmdBase := s.ringBase (R.MGT_CMD_BASE_LO h) (R.MGT_CMD_BASE_HI h)
      rspBase := s.ringBase (R.MGT_RSP_BASE_LO h) (R.MGT_RSP_BASE_HI h)
      evtBase := s.ringBase (R.MGT_EVT_BASE_LO h) (R.MGT_EVT_BASE_HI h) }).ringZero h

/-- An index write that its rule accepts takes effect, any other sets IDX_ERR. -/
def idxWrite (s : State) (h a : Nat) (f : Fld) (v : Word) (used log : Nat) : State :=
  if used ≤ 2 ^ log then s.set a f (wfld v f) else s.set (R.MGT_RING_STAT h) F.MGT_RING_STAT_IDX_ERR 1

/-- A write of MGT_CMD_IDX: the doorbell (R573). -/
def cmdIdx (h : Nat) (v : Word) (s : State) : State :=
  let a := R.MGT_CMD_IDX h
  s.idxWrite h a F.MGT_CMD_IDX_PI v (ringUsed (wfld v F.MGT_CMD_IDX_PI) (s.get a F.MGT_CMD_IDX_CI)) (s.dom h).cmdLog

/-- Writes of MGT_RSP_IDX and MGT_EVT_IDX (R573). -/
def rspIdx (h : Nat) (v : Word) (s : State) : State :=
  let a := R.MGT_RSP_IDX h
  s.idxWrite h a F.MGT_RSP_IDX_CI v (ringUsed (s.get a F.MGT_RSP_IDX_PI) (wfld v F.MGT_RSP_IDX_CI)) (s.dom h).rspLog
def evtIdx (h : Nat) (v : Word) (s : State) : State :=
  let a := R.MGT_EVT_IDX h
  s.idxWrite h a F.MGT_EVT_IDX_CI v (ringUsed (s.get a F.MGT_EVT_IDX_PI) (wfld v F.MGT_EVT_IDX_CI)) (s.dom h).evtLog

/-! ### Entries (R575, R576) -/

/-- An entry of 64 bytes is written to host memory: bytes 0–62, then byte 63 with PHASE. -/
def entryOut (s : State) (h base log pi : Nat) (e : List Byte) : State :=
  let a := base + pi % 2 ^ log * 64
  (s.emit (.hostWrite h a (padTo 63 e) none)).emit (.hostWrite h (a + 63) (leBytes 1 (b2n (pi / 2 ^ log % 2 == 0))) none)

/-- An index moves on by one. -/
def idxNext (s : State) (a : Nat) (f : Fld) : State := s.set a f ((s.get a f + 1) % 65536)

/-- The waiting response of a path leaves, and a reset that follows it starts (R575, R581, R588). On a ring this waits for
Bus Master Enable. PHASE of an MCTP answer, which no ring index gives, is a free bit. -/
def answerOut (s : State) (path : Nat) : State :=
  match s.chan.cmds.get dNone path with
  | none => s
  | some c =>
    if c.stage ≠ .answered then s
    else
      let fin := fun (s : State) => State.refreshBusy { s with chan := { s.chan with cmds := s.chan.cmds.put dNone path none } } path
      let go := fun (s : State) => match c.rst with | some v => s.glbReset v | none => s
      if c.quiet then go (fin s)
      else if path = 16 then
        let v := Config.vendorId.toNat
        go (fin (s.used.emit (.mctp ([0x7E] ++ [BitVec.ofNat 8 (v / 256), BitVec.ofNat 8 v] ++ [1] ++ padTo 63 c.rsp
          ++ leBytes 1 (s.freeBelow 2)))))
      else if !s.dmfOk path then s
      else
        let d := s.dom path
        let a := R.MGT_RSP_IDX path
        let s := (s.entryOut path d.rspBase d.rspLog (s.get a F.MGT_RSP_IDX_PI) c.rsp).idxNext a F.MGT_RSP_IDX_PI
        go (fin (s.msix path (s.get (R.MGT_RING_CTL path) F.MGT_RING_CTL_RSP_VEC)))

/-- The command in progress on a path is answered with a response's bytes 0 to 62. -/
def answerWith (s : State) (path : Nat) (rsp : List Byte) (rst : Option Word) : State :=
  State.answerOut { s with chan := { s.chan with cmds := s.chan.cmds.upd dNone path fun c => c.map fun (x : ChCmd) =>
    { x with stage := .answered, rsp := rsp, rst := rst } } } path

/-- A response (R576): OPC and TAG copied, STATUS, byte 4, results from byte 8 on. -/
def rspBytes (c : List Byte) (st b4 : Nat) (res : List Byte) : List Byte :=
  c.take 1 ++ leBytes 1 st ++ (c.drop 2).take 2 ++ leBytes 1 b4 ++ [0, 0, 0] ++ padTo 55 res

/-- The command in progress on a path is answered. -/
def chAnswer (s : State) (path st b4 : Nat) (res : List Byte) : State :=
  match s.chan.cmds.get dNone path with
  | some c => s.answerWith path (rspBytes c.bytes st b4 res) none
  | none => s

/-! ### Fetch and the checks of every command (R574, R576 to R578) -/

/-- The opcodes accepted in Recovery. -/
def inRecovery (opc : Nat) : Bool := [0x01, 0x04, 0x05, 0x06, 0x07, 0x08].contains opc

/-- The status that the checks common to all commands give: 0 when they pass. -/
def cmdCheck (s : State) (b : List Byte) : Nat :=
  let opc := fieldAt b 0 1
  if s.mode = 0 then 4
  else if 0x09 ≤ opc ∧ opc < 0x80 then 1
  else if s.mode = 1 ∧ inRecovery opc = false then 4
  else if 0x80 ≤ opc ∧ s.on R.MGT_FW_CFG F.MGT_FW_CFG_EN = false then 1
  else if fieldAt b 1 1 ≠ 0 ∨ fieldAt b 4 4 ≠ 0 then 2
  else 0

/-- A command that waits to be run on a path and whose opcode satisfies `p` is checked and runs; none in Night, where its domain is off. -/
def cmdRun (s : State) (path : Nat) (p : Nat → Bool) (f : List Byte → State → State) : State :=
  match s.chan.cmds.get dNone path with
  | none => s
  | some c =>
    if c.stage ≠ .run ∨ p (fieldAt c.bytes 0 1) = false ∨ s.pwr.stage = .night then s
    else if s.cmdCheck c.bytes ≠ 0 then s.chAnswer path (s.cmdCheck c.bytes) 0 []
    else f c.bytes s

/-- A command is taken on a path; a reserved opcode is answered at once. -/
def cmdTaken (s : State) (path : Nat) (b : List Byte) : State :=
  let s := State.refreshBusy { s with chan := { s.chan with cmds := s.chan.cmds.put dNone path (some { bytes := b }) } } path
  let opc := fieldAt b 0 1
  if 0x09 ≤ opc ∧ opc < 0x80 then s.chAnswer path (s.cmdCheck b) 0 [] else s

/-- The next entry of a command ring is fetched from its place in host memory (R571, R574), or the access failed. -/
def fetchCmd (s : State) (h : Nat) (e : HostBytes) : State :=
  let a := R.MGT_CMD_IDX h
  let ci := s.get a F.MGT_CMD_IDX_CI
  let rsp := R.MGT_RSP_IDX h
  if !s.on (R.MGT_RING_CTL h) F.MGT_RING_CTL_EN || !s.dmfOk h || (s.chan.cmds.get dNone h).isSome
      || s.get a F.MGT_CMD_IDX_PI == ci
      || decide (2 ^ (s.dom h).rspLog ≤ ringUsed (s.get rsp F.MGT_RSP_IDX_PI) (s.get rsp F.MGT_RSP_IDX_CI)) then s
  else
    let s := (s.wakeIsland 6).emit (.fetched h ((s.dom h).cmdBase + ci % 2 ^ (s.dom h).cmdLog * 64) 64)
    match e with
    | .error => s.set (R.MGT_RING_STAT h) F.MGT_RING_STAT_DMA_ERR 1
    | .ok data => (s.idxNext a F.MGT_CMD_IDX_CI).cmdTaken h (padTo 64 data)

/-! ### Flash (R577, R580) -/

/-- Chip selects in use. -/
def chipSelects (s : State) : Nat := 1 + s.get R.GLB_STRAP F.GLB_STRAP_FLASH

/-- Whether a path may issue flash commands now. -/
def flashAllowed (s : State) (path : Nat) : Bool :=
  path == 16 || (path == 0 && s.mode == 1) || (decide (path < 16) && bit (s.get R.MGT_FLASH_EN F.MGT_FLASH_EN_EN) path)

/-- An access of a command path to control memory, as rights block 16 judges it. -/
def bufAcc (path : Nat) (write : Bool) (off len : Nat) : Acc := { Acc.word (pathMaster path) write (0x1000000 + off) 0 with size := len }

/-- A flash command's operands and rights: REFUSED or BAD_OPERAND, or the operation (R577, R580). `unit` divides the offset
and the length, `top` bounds the length; `toBuf` says which way a buffer is used. -/
def flashCmd (s : State) (path : Nat) (b : List Byte) (unit top : Nat) (toBuf : Option Bool) (act : FlashOp → State → State) : State :=
  let o : FlashOp := {
    path := path, op := fieldAt b 0 1, cs := fieldAt b 12 1, off := fieldAt b 8 4, len := fieldAt b 16 4, buf := fieldAt b 24 8, data := [] }
  let cm := bit o.buf 63
  let off := o.buf % 2 ^ 24
  if s.chipSelects ≤ o.cs ∨ o.len = 0 ∨ top < o.len ∨ o.off % unit ≠ 0 ∨ o.len % unit ≠ 0 ∨ s.flashSize < o.off + o.len
      ∨ (toBuf.isSome = true ∧ ((path = 16 ∧ cm = false) ∨ (cm = true ∧ 2 ^ 24 < off + o.len))) then s.chAnswer path 2 0 []
  else if s.flashAllowed path = false ∨ (o.cs = 0 ∧ s.certBase < o.off + o.len) then s.chAnswer path 3 0 []
  else match toBuf, cm with
    | some w, true =>
      (match s.checkAcc (bufAcc path w off o.len) with
       | some (k, i, a) => (s.violate (bufAcc path w off o.len) k i a).chAnswer path 3 0 []
       | none => act o s)
    | _, _ => act o s

/-- An operation joins the flash port's queue. -/
def flashQueue (path : Nat) (o : FlashOp) (s : State) : State :=
  { s with chan := { s.chan with
    flashQ := s.chan.flashQ ++ [{ o with no := s.chan.flashNo }], flashNo := s.chan.flashNo + 1
    cmds := s.chan.cmds.upd dNone path fun c => c.map fun (x : ChCmd) => { x with stage := .flash } } }

/-- The buffer of a FLASH_WRITE is read. -/
def flashGather (path : Nat) (data : HostBytes) (o : FlashOp) (s : State) : State :=
  if bit o.buf 63 then flashQueue path { o with data := s.cmemBytes (o.buf % 2 ^ 24) o.len } s
  else if !s.dmfOk path then s.chAnswer path 6 0 []
  else
    let s := s.emit (.fetched path (o.buf % 2 ^ 63) o.len)
    match data with
    | .ok d => flashQueue path { o with data := padTo o.len d } s
    | .error => s.chAnswer path 6 0 []

/-- The bytes of a FLASH_READ go to its buffer. -/
def flashDeliver (s : State) (o : FlashOp) : State :=
  let d := s.flashBytes o.cs o.off o.len
  if bit o.buf 63 then (s.cmemPut (o.buf % 2 ^ 24) d).chAnswer o.path 0 0 []
  else if !s.dmfOk o.path then s.chAnswer o.path 6 0 []
  else (s.emit (.hostWrite o.path (o.buf % 2 ^ 63) d none)).chAnswer o.path 0 0 []

/-- The operation at the flash port ends (R578, R580). In the safe state the chip selects stay deasserted (R471): it fails, with no effect. -/
def flashDone (s : State) (res : FlashRes) : State :=
  match s.chan.flashQ with
  | [] => s
  | o :: t =>
    let s := { s with chan := { s.chan with flashQ := t } }
    if s.mode = 7 then s.chAnswer o.path 5 0 []
    else match res with
    | .ok =>
      if o.cut then s.chAnswer o.path 5 0 []
      else if o.op = 0x05 then s.flashDeliver o
      else (s.flashPart o o.len).chAnswer o.path 0 0 []
    | _ => (s.flashStop o (if o.op = 0x07 then 4096 else 256)).chAnswer o.path 5 0 []

/-! ### Firmware-defined commands and events (R582, R583) -/

/-- A command goes to the firmware queue. -/
def fwHand (s : State) (path : Nat) (b : List Byte) : State :=
  let wr := s.get R.MGT_FW_IDX F.MGT_FW_IDX_WR
  let slot := wr % 2 ^ clampTo 5 8 (s.get R.MGT_FW_CFG F.MGT_FW_CFG_LOG)
  let e := b.take 4 ++ leBytes 1 path ++ b.drop 5
  let s := s.cmemPut ((s.get R.MGT_FW_CFG F.MGT_FW_CFG_BASE * 4096 + slot * 64) % 2 ^ 24) e
  let s := { s with chan := { s.chan with cmds := s.chan.cmds.upd dNone path fun c => c.map fun (x : ChCmd) =>
    { x with stage := .firmware } } }
  (s.idxNext R.MGT_FW_IDX F.MGT_FW_IDX_WR).irq 3

/-- The staged entry of 64 bytes. -/
def fwData (s : State) : List Byte := (upTo 16).flatMap fun k => leBytes 4 (s.rd (R.MGT_FW_DATA k)).toNat

/-- A posted response. -/
def fwResponse (s : State) (path : Nat) : State :=
  let b := s.fwData
  match s.chan.cmds.get dNone path with
  | some c =>
    if path < 17 ∧ c.stage = .firmware ∧ b.take 1 = c.bytes.take 1 ∧ (b.drop 2).take 2 = (c.bytes.drop 2).take 2 then
      s.chAnswer path (fieldAt b 1 1) 0 ((b.drop 8).take 55)
    else s.inc R.MGT_FW_STAT F.MGT_FW_STAT_FW_LATE 1
  | none => s.inc R.MGT_FW_STAT F.MGT_FW_STAT_FW_LATE 1

/-- A posted event. -/
def fwEvent (s : State) (path : Nat) : State :=
  let b := s.fwData
  let code := fieldAt b 0 1
  if path < 16 ∧ (code = 1 ∨ 0x80 ≤ code) then s.hostEvent path code ((b.drop 4).take 4) (fieldAt b 8 8) (b.drop 16)
  else s.set R.MGT_FW_STAT F.MGT_FW_STAT_POST_ERR 1

/-- A write of MGT_FW_POST. -/
def fwPost (m : Nat) (v : Word) (s : State) : State :=
  let s := s.store m R.MGT_FW_POST v
  if !won v F.MGT_FW_POST_GO then s
  else if won v F.MGT_FW_POST_KIND then s.fwEvent (wfld v F.MGT_FW_POST_PATH)
  else s.fwResponse (wfld v F.MGT_FW_POST_PATH)

/-- TO passes before a matching post. -/
def fwLate (s : State) (path : Nat) : State :=
  match s.chan.cmds.get dNone path with
  | some c => if c.stage = .firmware then s.chAnswer path 7 0 [] else s
  | none => s

/-! ### Events (R584) -/

/-- The oldest queued event goes to the ring. -/
def eventOut (s : State) (h : Nat) : State :=
  let d := s.dom h
  let a := R.MGT_EVT_IDX h
  let pi := s.get a F.MGT_EVT_IDX_PI
  match d.evq with
  | [] => s
  | e :: t =>
    if !s.on (R.MGT_RING_CTL h) F.MGT_RING_CTL_EN || !s.dmfOk h
        || decide (2 ^ d.evtLog ≤ ringUsed pi (s.get a F.MGT_EVT_IDX_CI)) then s
    else
      let b := e.take 1 ++ leBytes 1 (b2n d.evLost) ++ leBytes 2 d.evSeq ++ e.drop 4
      let s := (s.entryOut h d.evtBase d.evtLog pi b).idxNext a F.MGT_EVT_IDX_PI
      let s := s.setDom h fun d => { d with evq := t, evLost := false, evSeq := (d.evSeq + 1) % 65536 }
      s.msix h (s.get (R.MGT_RING_CTL h) F.MGT_RING_CTL_EVT_VEC)

/-! ### GET_INFO and FLASH_INFO (R577) -/

def infoBytes (s : State) (path : Nat) : List Byte :=
  leBytes 2 0xF256 ++ leBytes 1 0xB1 ++ leBytes 1 s.mode ++ leBytes 1 (s.get R.GLB_BOOT_STATUS F.GLB_BOOT_STATUS_ACTIVE_IMG)
    ++ leBytes 1 path ++ leBytes 1 (if s.fabIdValid then s.get R.MGT_FAB_ID F.MGT_FAB_ID_ID else 255) ++ [0]
    ++ leBytes 4 (s.rd R.SEC_SVN).toNat ++ leBytes 8 Config.deviceUid.toNat

/-- Read mode and erase size are what JESD216 discovery found: free values. -/
def flashInfoBytes (s : State) : List Byte :=
  leBytes 4 s.flashSize ++ leBytes 1 s.chipSelects ++ leBytes 1 (Config.freeNat s.free % 3) ++ leBytes 1 (Config.freeNat (s.free + 1) % 256)

end State

/-! ### The commands -/

/-- RING_ENABLE (R572). -/
def execRingEnable (m h : Nat) (v : Word) (s : State) : Res' :=
  runOk (okRingEnable m h) s fun s => s.cmdWrite m (R.MGT_RING_CTL h) v (State.ringCtl m h v)

/-- RING_DISABLE (R572). -/
def execRingDisable (m h : Nat) (v : Word) (s : State) : Res' :=
  runOk (okRingDisable m h) s fun s => s.cmdWrite m (R.MGT_RING_CTL h) v (State.ringCtl m h v)

/-- COMMAND_DOORBELL (R573). -/
def execCommandDoorbell (m h : Nat) (v : Word) (s : State) : Res' :=
  runOk (okCommandDoorbell m h) s fun s => s.cmdWrite m (R.MGT_CMD_IDX h) v (State.cmdIdx h v)

/-- COMMAND_FETCH (R574). -/
def execCommandFetch (h : Nat) (entry : HostBytes) (s : State) : Res' :=
  runOk (okCommandFetch h) s fun s => s.fetchCmd h entry

/-- CMD_NOP (R577). -/
def execCmdNop (path : Nat) (s : State) : Res' :=
  runOk (okCmdNop path) s fun s => s.cmdRun path (· == 0x00) fun _ s => s.chAnswer path 0 0 []

/-- GET_INFO (R577). -/
def execGetInfo (path : Nat) (s : State) : Res' :=
  runOk (okGetInfo path) s fun s => s.cmdRun path (· == 0x01) fun _ s => s.chAnswer path 0 0 (s.infoBytes path)

/-- FLASH_INFO (R577). -/
def execFlashInfo (path : Nat) (s : State) : Res' :=
  runOk (okFlashInfo path) s fun s => s.cmdRun path (· == 0x04) fun b s =>
    if s.chipSelects ≤ fieldAt b 8 1 then s.chAnswer path 2 0 []
    else if !s.flashAllowed path then s.chAnswer path 3 0 []
    else (s.usedN 2).chAnswer path 0 0 s.flashInfoBytes

/-- FLASH_READ (R580). -/
def execFlashRead (path : Nat) (s : State) : Res' :=
  runOk (okFlashRead path) s fun s => s.cmdRun path (· == 0x05) fun b s =>
    s.flashCmd path b 1 65536 (some true) (State.flashQueue path)

/-- FLASH_WRITE (R580). -/
def execFlashWrite (path : Nat) (data : HostBytes) (s : State) : Res' :=
  runOk (okFlashWrite path) s fun s => s.cmdRun path (· == 0x06) fun b s =>
    s.flashCmd path b 256 65536 (some false) (State.flashGather path data)

/-- FLASH_ERASE (R580). -/
def execFlashErase (path : Nat) (s : State) : Res' :=
  runOk (okFlashErase path) s fun s => s.cmdRun path (· == 0x07) fun b s =>
    s.flashCmd path b 4096 (2 ^ 32) none (State.flashQueue path)

/-- FLASH_OP_DONE (R580). -/
def execFlashOpDone (res : FlashRes) (s : State) : Res' := runOk okFlashOpDone s fun s => s.flashDone res

/-- FW_COMMAND (R582). -/
def execFwCommand (path : Nat) (s : State) : Res' :=
  runOk (okFwCommand path) s fun s => s.cmdRun path (fun o => decide (0x80 ≤ o)) fun b s => s.fwHand path b

/-- FW_POST_RESPONSE (R582). -/
def execFwPostResponse (m : Nat) (v : Word) (s : State) : Res' :=
  runOk (okFwPostResponse m) s fun s => s.cmdWrite m R.MGT_FW_POST v (State.fwPost m v)

/-- FW_POST_EVENT (R583). -/
def execFwPostEvent (m : Nat) (v : Word) (s : State) : Res' :=
  runOk (okFwPostEvent m) s fun s => s.cmdWrite m R.MGT_FW_POST v (State.fwPost m v)

/-- FW_TIMEOUT (R582). -/
def execFwTimeout (path : Nat) (s : State) : Res' := runOk (okFwTimeout path) s fun s => s.fwLate path

/-- EVENT_RING_WRITE (R584). -/
def execEventRingWrite (h : Nat) (s : State) : Res' := runOk (okEventRingWrite h) s fun s => s.eventOut h

/-- MCTP_COMMAND (R588). -/
def execMctpCommand (entry : List Byte) (s : State) : Res' :=
  runOk (okMctpCommand entry) s fun s =>
    if s.nightShut 9 then s
    else
    let s := (s.wakeIsland 32).wakeIsland 6
    if (s.chan.cmds.get dNone 16).isSome then
      let v := Config.vendorId.toNat
      s.used.emit (.mctp ([0x7E] ++ [BitVec.ofNat 8 (v / 256), BitVec.ofNat 8 v] ++ [1] ++ State.rspBytes entry 8 0 []
        ++ leBytes 1 (s.freeBelow 2)))
    else s.cmdTaken 16 entry

/-- I3C_ADDRESS_ASSIGN (R587); not acknowledged once entry to Night has begun (R513). -/
def execI3cAddressAssign (addr : Nat) (s : State) : Res' :=
  runOk (okI3cAddressAssign addr) s fun s => if s.nightShut 9 then s else { s with chan := { s.chan with i3cAddr := some addr } }

/-- SET_ENDPOINT_ID (R587); not acknowledged once entry to Night has begun (R513). -/
def execSetEndpointId (eid : Nat) (s : State) : Res' :=
  runOk (okSetEndpointId eid) s fun s => if s.nightShut 9 then s else { s with chan := { s.chan with eid := eid } }

end Sys2Proof.Machine
end

