-- ==== Sys2Proof/Machine/Link.lean ====
section
/-! DEFINITION. The Woell link layer (R127 to R153, 04_woell_link.md): flits, link packets, sequence numbers and replay,
credits; and the commands of lanes and links (03_lanes.md, 04_woell_link.md). -/

namespace Sys2Proof.Machine

namespace State

/-! ### Replay (R143 to R145) -/

/-- A replay from the oldest unacknowledged flit, or the link is broken when it would be the fifth (R145). -/
def replay (s : State) (g p : Nat) : State :=
  let l := s.link g p
  match l.buf with
  | [] => s
  | f :: _ =>
    if 4 ≤ l.rpCnt then s.retrain g p 2 []
    else
      let s := s.setLink g p fun l => { l with rpCnt := l.rpCnt + 1, rpFrom := some f.seq, replayQ := l.buf.map (·.seq) }
      (s.inc (R.GRP_LINK_RPL g p) F.GRP_LINK_RPL_REPLAYS 1).count g 6 p 1

/-! ### Receive -/

/-- A fabric packet handed to the den of its group (R133, R238, R244, R245). -/
def fabricIn (s : State) (g p c : Nat) (bs : List Byte) : State :=
  let P := g * 8 + p
  let base := fabricBase c bs
  let alt := bit (s.get (R.DEN_PORT_CLS g) F.DEN_PORT_CLS_ALT) p
  s.arrive {
    port := P, den := g, cls := base + (if alt then 32 else 0), bytes := bs, tc := hb bs 21 3, m5 := 64 * hb bs 24 1,
    slice := hb bs 28 12, arr := s.now, tlp := none, units := linkUnits bs.length, ucls := c, cells := [], left := 0, refs := 0,
    spoor := false, bad := false }

/-- A link control message acts (R136, R137), and its units return (R149). DESIGN CHOICE: it acts whatever its SIZE and the class of its
flit, and one CTL unit returns (notes/assumptions/105.md). -/
def lcmIn (s : State) (g p : Nat) (b : List Byte) : State :=
  let op := (b.getD 0 0).toNat
  let x := (b.getD 1 0).toNat
  let y := (b.getD 2 0).toNat
  let s := s.setLink g p fun l => { l with rx0 := { l.rx0 with granted := (l.rx0.granted + 1) % 65536 } }
  if op = 1 then s.onSwapReq g p x
  else if op = 2 then s.onSwapReady g p x
  else if op = 3 then s.onSwapGo g p x
  else if op = 4 then s.onSwapAbort g p x y
  else if op = 5 then s.onRetrainReq g p x
  else s.inc (R.GRP_LINK_ERR g p) F.GRP_LINK_ERR_SEQ_DROP 1

/-- A whole link packet has arrived. -/
def linkPktIn (s : State) (g p c : Nat) (lcm : Bool) (b : List Byte) : State :=
  if lcm then s.lcmIn g p b else s.fabricIn g p c b

/-- The slots of an accepted DATA flit (R133 to R135); `n` bounds the packets in it. A protocol error retrains the link; nothing is taken
from a flit once its link has left INIT, UP and SWAP. -/
def takeSlots : Nat → Nat → Nat → Nat → List Byte → State → State
  | 0, _, _, _, _, s => s
  | n + 1, g, p, c, bs, s =>
    if s.linkState g p < 2 ∨ 4 < s.linkState g p then s else
    let x := clsRx (s.link g p) c
    let setRx := fun (y : ClsRx) (s : State) => s.setLink g p fun l => setClsRx l c { y with granted := (clsRx l c).granted }
    if 0 < x.rem then
      let k := min x.rem bs.length
      let acc := x.acc ++ bs.take k
      let rest := bs.drop ((k + 15) / 16 * 16)
      if k < x.rem then setRx { x with rem := x.rem - k, acc := acc } s
      else
        takeSlots n g p c rest ((setRx { x with rem := 0, acc := [] } s).linkPktIn g p c x.lcm (acc.drop 4))
    else
      match bs with
      | [] => s
      | _ =>
        let w := fieldAt bs 0 4
        let size := w % 8192
        if bits w 13 2 ≠ 0 ∨ w / 65536 ≠ 0 ∨ 4132 < size then s.retrain g p 5 []
        else if size = 0 then s
        else takeSlots n g p c bs (setRx { x with rem := size + 4, acc := [], lcm := bit w 15 } s)

/-- A DATA flit by its sequence number (R139). -/
def dataIn (s : State) (g p : Nat) (f : Flit) : State :=
  let rx := R.GRP_LINK_RX g p
  let nx := s.get rx F.GRP_LINK_RX_RX_NEXT
  match seqCmp (hSEQ f.hdr) nx with
  | 0 =>
    let s := (s.set rx F.GRP_LINK_RX_RX_NEXT ((nx + 1) % 4096)).set rx F.GRP_LINK_RX_NAK_PEND 0
    takeSlots 70 g p (hCLASS f.hdr) f.payload s
  | 1 => (s.inc (R.GRP_LINK_ERR g p) F.GRP_LINK_ERR_SEQ_DROP 1).set rx F.GRP_LINK_RX_NAK_PEND 1
  | _ => s.inc (R.GRP_LINK_RPL g p) F.GRP_LINK_RPL_DUPS 1

/-- The ACK, credit and NAK of a good header (R142, R143, R150). DESIGN CHOICE: CR_CLS 3 names no class and its count is ignored
(notes/assumptions/104.md). -/
def headerIn (s : State) (g p : Nat) (h : DWord) : State :=
  let sq := R.GRP_LINK_SEQ g p
  let ack := hACK h
  let next := s.get sq F.GRP_LINK_SEQ_TX_NEXT
  if ackOk (s.link g p).buf next ack then
    let s := s.setLink g p fun l =>
      let keep := l.buf.filter (fun f => seqCmp f.seq ack == 1)
      { l with
        buf := keep, replayQ := l.replayQ.filter (fun q => keep.any (fun f => f.seq == q))
        rpCnt := if keep.length < l.buf.length then 0 else l.rpCnt
        rpFrom := match l.rpFrom with | some q => if keep.any (fun f => f.seq == q) then some q else none | none => none }
    let s := s.set sq F.GRP_LINK_SEQ_TX_ACK ack
    let c := hCRCLS h
    let s := if c < 3 then (s.setLink g p fun l => setClsTx l c { clsTx l c with cr := some (hCRCOUNT h) }).showCredits g p else s
    let from' := (ack + 1) % 4096
    if hNAK h && decide (from' ≠ next) && decide ((s.link g p).rpFrom ≠ some from') then s.replay g p else s
  else s.retrain g p 5 []

/-- A flit arrives on a link in INIT, UP or SWAP (R116, R132, R139 to R143, R154). -/
def receive (s : State) (g p : Nat) (f : Flit) (errs : List LaneErr) : State :=
  let st := s.linkState g p
  if st = 2 ∨ st = 3 ∨ st = 4 then
    let ls := (s.link g p).lanes
    let hit := (errs.filter (fun e => decide (e.lane < ls.length) && decide (0 < e.lcv + e.pse))).map (·.lane)
    let blame := !flitOk f && decide (hit.eraseDups.length = 1)
    let s := (s.count g 1 p 1).count g 3 p 512
    let s := if flitOk f then s
             else ((s.inc (R.GRP_LINK_ERR g p) F.GRP_LINK_ERR_CRC_ERR 1).set (R.GRP_LINK_RX g p) F.GRP_LINK_RX_NAK_PEND 1).count g 5 p 1
    let s := s.setLink g p fun l => { l with goodRun := if flitOk f then l.goodRun + 1 else 0 }
    let s :=
      if !flitOk f then s
      else if flitProto f.hdr then s.retrain g p 5 []
      else
        let s := s.headerIn g p f.hdr
        let st' := s.linkState g p
        if st' ≠ st then s
        else if hTYPE f.hdr = 1 then s.dataIn g p f
        else if hSEQ f.hdr = s.get (R.GRP_LINK_RX g p) F.GRP_LINK_RX_RX_NEXT then s.set (R.GRP_LINK_RX g p) F.GRP_LINK_RX_NAK_PEND 0
        else s
    let s := forAll errs (fun e s => if e.lane < ls.length then
        s.laneErrors g (ls.getD e.lane 0) e.lcv e.pse (b2n (blame && hit.contains e.lane)) else s) s
    let s := s.tendDue g p
    let l := s.link g p
    if s.linkState g p = 2 ∧ 16 ≤ l.goodRun ∧ l.tx0.cr.isSome = true ∧ l.tx1.cr.isSome = true ∧ l.tx2.cr.isSome = true then
      s.enterUp g p
    else s
  else s

/-! ### Training records and timers -/

/-- What a record says of its sender (R112). -/
def peerOf (b : List Byte) : PeerRec :=
  let at' := fun i => (b.getD i 0).toNat
  { width := at' 1 / 16 % 4, id := at' 2, port := at' 3 % 128, maxRate := at' 4 % 16, rate := at' 4 / 16, phase := at' 5
    target := at' 6, status := at' 7 % 32 }

/-- A record of the partner tells who it is, who leads, and the common target (R112, R113); what came at another width than it now says
is forgotten. -/
def notePeer (s : State) (g p n : Nat) (r : PeerRec) : State :=
  let me := s.trainId
  let P := g * 8 + p
  let lead := decide (me < r.id) || (decide (me = r.id) && decide (P < r.port))
  let un := decide (me = r.id) && decide (P = r.port)
  let top := if un then 8 else min (s.topRate g p) r.maxRate
  let s := s.setLink g p fun l =>
    let same := l.peer.all (·.width == r.width)
    { l with
      peer := some r, unranked := un, target := if l.phase = 5 then l.target else max 8 top
      heard := (if same then l.heard.filter (· != n) else []) ++ [n], laneRecs := if same then l.laneRecs else [] }
  ((s.set (R.GRP_LINK_PEER g p) F.GRP_LINK_PEER_PEER_ID r.id).set (R.GRP_LINK_PEER g p) F.GRP_LINK_PEER_PEER_PORT r.port).linkSet
    g p F.GRP_LINK_STAT_LEADER (b2n lead)

/-- The record of the partner's lane k has come on local position `pos` (R113 step 3); its status says whether that lane aligned (R164). -/
def noteLane (s : State) (g p pos k : Nat) (r : PeerRec) : State :=
  s.setLink g p fun l => { l with
    laneRecs := (l.laneRecs.filter (fun x => x.1 != pos)) ++ [(pos, k)]
    deaf := (l.deaf.filter (· != pos)) ++ (if bit r.status 1 then [] else [pos]) }

/-- A link takes its lanes in a new order: `ks` are the positions that stay, the first as logical lane 0. -/
def reLane (s : State) (g p : Nat) (ks : List Nat) : State :=
  let s := s.setLink g p fun l => { l with
    lanes := ks.map (l.lanes.getD · 0)
    laneRecs := l.laneRecs.filterMap fun x => if ks.contains x.1 then some (ks.idxOf x.1, x.2) else none
    deaf := l.deaf.filterMap fun x => if ks.contains x then some (ks.idxOf x) else none }
  let s := s.linkSet g p F.GRP_LINK_STAT_WIDTH (widthCode ks.length)
  forAll (upTo ks.length) (fun i s => s.set (R.GRP_LANE_CTL g ((s.link g p).lanes.getD i 0)) F.GRP_LANE_CTL_POS i) s

/-- The lanes on which a link's records may arrive: those of its port, the spare in place of the lane it replaces, none forced off. -/
def recLanes (s : State) (g p : Nat) : List Nat :=
  ((upTo (s.portWidth (g * 8 + p))).filter fun k =>
    !s.on (R.GRP_LANE_CTL g (fldOf (s.layout (g * 8 + p)) F.GRP_PORT_CFG_FIRST + k)) F.GRP_LANE_CTL_OFF).map (s.physLane g p)

/-- A link goes on at W1 on other lanes, in the order of the configured lanes: those that leave are powered down, those that join load
their entries (R164). -/
def takeLanes (s : State) (g p : Nat) (ls : List Nat) : State :=
  let old := (s.link g p).lanes
  let s := forAll (old.filter fun n => !ls.contains n) (fun n s => s.laneDown g n) s
  let s := s.setLink g p fun l => { l with
    lanes := ls
    laneRecs := l.laneRecs.filterMap fun x => if ls.contains (old.getD x.1 0) then some (ls.idxOf (old.getD x.1 0), x.2) else none
    deaf := l.deaf.filterMap fun x => if ls.contains (old.getD x 0) then some (ls.idxOf (old.getD x 0)) else none }
  let s := s.linkSet g p F.GRP_LINK_STAT_WIDTH (widthCode ls.length)
  forAll (upTo ls.length) (fun i s =>
    let n := ls.getD i 0
    if old.contains n then s.set (R.GRP_LANE_CTL g n) F.GRP_LANE_CTL_POS i else s.loadLane g n 8 i) s

/-- An end of a ranked link at W1 that does not lead: it follows the leader's choice of lanes (R164). -/
def follower (s : State) (g p : Nat) : Bool :=
  !s.on (R.GRP_LINK_STAT g p) F.GRP_LINK_STAT_LEADER && !(s.link g p).unranked && s.linkRate g p == 8

/-- A follower adopts the width of the leader on the lanes where its records arrive, once they arrive on as many as that width has
(R164). DEDUCED: lanes of its own EXCL among them (notes/assumptions/118.md). -/
def adoptWidth (s : State) (g p : Nat) (r : PeerRec) : State :=
  let l := s.link g p
  let ls := (s.recLanes g p).filter fun n => l.heard.contains n
  if s.follower g p && decide (ls.length = 4 * 2 ^ r.width) && !(decide (ls.length = l.lanes.length) && ls.all fun n => l.lanes.contains n)
  then s.takeLanes g p ls
  else s

/-- Lane order once every lane has a record (R113 step 3): kept, reversed, or, when neither holds, the link retrains without the lanes
that do not fit the order more of them fit. The answer says whether bring-up goes on. -/
def orderLanes (s : State) (g p : Nat) : Bool × State :=
  let l := s.link g p
  let w := l.lanes.length
  if l.laneRecs.length ≠ w ∨ s.linkRate g p ≠ 8 then (true, s)
  else
    let odd := l.laneRecs.filter (fun x => x.1 != x.2)
    let oddR := l.laneRecs.filter (fun x => x.2 != w - 1 - x.1)
    if odd.isEmpty then (true, s)
    else if oddR.isEmpty then (true, s.reLane g p (upTo w).reverse)
    else (false, s.retrain g p 4 ((if oddR.length < odd.length then oddR else odd).map (fun x => s.cfgIdx g p (l.lanes.getD x.1 0))))

/-- What a record of the partner, noted, leads to (R113, R115): nothing until the order of the lanes is settled; then a partner that has
fallen back is followed, and a follower answers PROPOSE with ACCEPT, for the next rate that its own lanes allow. -/
def recordActs (s : State) (g p : Nat) (r : PeerRec) : State :=
  match s.orderLanes g p with
  | (false, s) => s
  | (true, s) =>
    let l := s.link g p
    let next := s.linkRate g p + 1
    if !s.ordered g p then s
    else if l.idle = false ∧ l.prevRate < s.linkRate g p ∧ r.phase = 5 ∧ r.rate = l.prevRate then s.stepFail g p
    else
      (if r.phase = 1 ∧ l.phase ≠ 2 ∧ s.on (R.GRP_LINK_STAT g p) F.GRP_LINK_STAT_LEADER = false ∧ r.target = next ∧ next ≤ s.topRate g p
       then s.sendPhase g p 2 next else s).doneCheck g p

/-- A lane training record of the partner (R112, R113, R115, R164): one that fails its CRC counts one violation; in UP and SWAP it tells
of the partner's bring-up; in TRAINING it is noted and acts, and one on a configured lane outside the link tells a follower which lanes
the leader uses. -/
def trainingIn (s : State) (g p n : Nat) (b : List Byte) : State :=
  let st := s.linkState g p
  let mine := (s.link g p).lanes.contains n
  let r := peerOf b
  if !trainingCrcOk b then (if mine then s.linkErrors g p n 1 0 else s)
  else if (b.getD 0 0).toNat ≠ 0x57 then s
  else if mine && (st == 3 || st == 4) then s.retrain g p 7 []
  else if st ≠ 1 ∨ (!mine && !s.follower g p) = true then s
  else
    let s := (s.notePeer g p n r).adoptWidth g p r
    if (s.link g p).lanes.contains n then
      (s.noteLane g p ((s.link g p).lanes.idxOf n) (bits (b.getD 1 0).toNat 0 4) r).recordActs g p r
    else s

/-- The leading end proposes the next rate (R113 step 5), or sends DONE at the target, once the order of the lanes is settled. -/
def propose (s : State) (g p : Nat) : State :=
  let l := s.link g p
  let rate := s.linkRate g p
  let ready := match l.peer with
    | some r => (decide (rate = 8) && decide (l.phase = 0)) || (l.verified && bit r.status 3)
    | none => false
  if s.linkState g p = 1 ∧ s.on (R.GRP_LINK_STAT g p) F.GRP_LINK_STAT_LEADER = true ∧ s.allAligned g p = true ∧ s.ordered g p = true ∧ ready = true
      ∧ l.idle = false
  then (if rate < l.target then s.sendPhase g p 1 (rate + 1) else s.doneCheck g p)
  else s

/-- SWITCH sent by the leading end or received by the other (R113 step 6): electrical idle, and the entries of the new rate, which every
lane has (R89). -/
def switchStep (s : State) (g p : Nat) : State :=
  let l := s.link g p
  let lead := s.on (R.GRP_LINK_STAT g p) F.GRP_LINK_STAT_LEADER
  let rate := s.linkRate g p
  match l.peer with
  | none => s
  | some r =>
    if s.linkState g p = 1 ∧ rate + 1 ≤ s.topRate g p ∧
        ((lead = true ∧ l.phase = 1 ∧ r.phase = 2) ∨ (lead = false ∧ l.phase = 2 ∧ r.phase = 3)) then
      let s := if lead then s.sendPhase g p 3 (rate + 1) else s
      let s := s.setLink g p fun l => { l with
        prevRate := rate, idle := true, verified := false, verifyBad := false, peer := some { r with phase := 0, status := 0 } }
      let s := s.linkSet g p F.GRP_LINK_STAT_RATE (rate + 1)
      forAll (upTo l.lanes.length) (fun i s => s.loadLane g (l.lanes.getD i 0) (rate + 1) i) s
    else s

/-- The idle of a rate step ends (R113 step 7). -/
def idleEnd (s : State) (g p : Nat) : State :=
  if s.linkState g p = 1 ∧ (s.link g p).idle = true then
    (s.setLink g p fun l => { l with idle := false }).sendPhase g p 0 (s.linkRate g p)
  else s

/-- VERIFY's time is over (R113 step 8, R115); `errs` are the violations and pseudo-errors that no record carried. -/
def verifyDone (s : State) (g p : Nat) (errs : List LaneErr) : State :=
  if s.linkState g p = 1 ∧ (s.link g p).phase = 4 then
    let ls := (s.link g p).lanes
    let s := forAll errs (fun e s => if e.lane < ls.length then s.linkErrors g p (ls.getD e.lane 0) e.lcv e.pse else s) s
    if (s.link g p).verifyBad then s.stepFail g p
    else ((s.setLink g p fun l => { l with verified := true }).announce g p).doneCheck g p
  else s

/-- A lane locks (R114). -/
def lockLane (s : State) (g n : Nat) : State :=
  let training := match s.linkOf g n with
    | some p => s.linkState g p == 1 && !(s.link g p).idle
    | none => false
  let preparing := decide (n = 16) && decide (s.get (R.GRP_LANE_STAT g) F.GRP_LANE_STAT_SPARE_STATE = 1)
  let s := if training || preparing then s.set (R.GRP_LANE_CTL g n) F.GRP_LANE_CTL_LOCK 1 else s
  match s.linkOf g n with
  | some p => if training then s.announce g p else s
  | none => s

/-- A lane aligns (R108, R110): its polarity is fixed; once every lane of a rate step is aligned, VERIFY is sent (R113 step 7). -/
def alignLane (s : State) (g n : Nat) (inv : Bool) : State :=
  if s.on (R.GRP_LANE_CTL g n) F.GRP_LANE_CTL_LOCK then
    match s.linkOf g n with
    | none => s
    | some p =>
      if s.linkState g p = 1 then
        let a := R.GRP_LANE_CTL g n
        let s := (s.set a F.GRP_LANE_CTL_ALIGNED 1).set a F.GRP_LANE_CTL_POL (b2n inv)
        let s := s.setLane g n fun L => { L with aligning := false }
        let s := if s.allAligned g p = true ∧ (s.link g p).phase = 0 ∧ 8 < s.linkRate g p then s.sendPhase g p 4 (s.linkRate g p) else s.announce g p
        s.doneCheck g p
      else s
  else s

/-- A lane loses its alignment (R108, R155, R157): in VERIFY that fails the step, as the violations it consists of do (R115); a lane that
is not aligned has none to lose. -/
def alignLost (s : State) (g n : Nat) : State :=
  match s.linkOf g n with
  | none => s
  | some p =>
    let had := s.laneAligned g n
    let s := s.set (R.GRP_LANE_CTL g n) F.GRP_LANE_CTL_ALIGNED 0
    let st := s.linkState g p
    if st = 2 ∨ st = 3 ∨ st = 4 then s.retrain g p 4 []
    else if st = 1 ∧ (s.link g p).phase = 4 then (s.verifyHit g p).announce g p
    else if st = 1 ∧ had = true then s.retrain g p 4 []
    else s

/-- The lanes of a link on which this end, or as far as the leading end knows the other end, failed to align (R164); on an unranked link
both ends know (R343). -/
def unaligned (s : State) (g p : Nat) : List Nat :=
  let l := s.link g p
  (l.lanes.filter fun n => !s.laneAligned g n)
    ++ (if s.on (R.GRP_LINK_STAT g p) F.GRP_LINK_STAT_LEADER || l.unranked then l.deaf.map (l.lanes.getD · 0) else [])

/-- A lane has not aligned in time, here or, as far as R164 and R343 let this end know, at the partner (R114, R115, R154): a rate step fails; at W1, and at the rate a failed step has returned to, the
link retrains without the lanes that failed to align. -/
def alignTimeout (s : State) (g n : Nat) : State :=
  match s.linkOf g n with
  | none => s
  | some p =>
    if s.linkState g p = 1 ∧ (s.unaligned g p).contains n = true then
      if 8 < s.linkRate g p ∧ (s.link g p).phase ≠ 5 then s.stepFail g p
      else s.retrain g p 4 ((s.unaligned g p).map (s.cfgIdx g p))
    else s

/-- A class of a link has a packet ready and too little credit for it (R153): a link packet that would start next, or without one a packet
at the head of an egress queue of the port. -/
def creditLacks (s : State) (g p c : Nat) : Bool :=
  let x := clsTx (s.link g p) c
  let short := fun n => decide (credit x < linkUnits n)
  x.cur.isEmpty && (match x.wait with
    | k :: _ => short k.bytes.length
    | [] => (upTo 8).any fun t => match s.queue ((g * 8 + p) * 8 + t) with
      | e :: _ => (match s.pkt e.pid with
        | some k => fabClass (outBytes k e.desc e.view) == c && short (outBytes k e.desc e.view).length
        | none => false)
      | [] => false)

/-- A class's credit timer has run out with a packet that lacks credit (R153); in INIT once the class knows its credit (R151). -/
def creditTimeout (s : State) (g p c : Nat) : State :=
  let st := s.linkState g p
  if (st = 3 ∨ st = 4 ∨ (st = 2 ∧ (clsTx (s.link g p) c).cr.isSome = true)) ∧ s.creditLacks g p c = true then s.retrain g p 1 [] else s

/-- The port reset of a retrain has completed (R156). -/
def retrainGo (s : State) (g p : Nat) : State := if s.linkState g p = 5 then s.startTraining g p else s

/-! ### LINK_CMD (R619) -/

/-- A command of LINK_CMD in each link state (R619). DESIGN CHOICE: the partner learns of a retrain by the training records, and no
RETRAIN_REQ is sent (notes/assumptions/115.md). -/
def linkCmd (s : State) (g p op : Nat) : State :=
  let st := s.linkState g p
  let ok := fun (s : State) => s.linkSet g p F.GRP_LINK_STAT_CMD_REF 0
  let ref := fun (s : State) => s.linkSet g p F.GRP_LINK_STAT_CMD_REF 1
  let live := decide (1 ≤ st) && decide (st ≤ 4)
  let clr := fun (s : State) => s.clearExcl g p
  match op with
  | 1 => if live then (ok s).retrain g p 3 [] else ref s
  | 2 =>
    if st = 7 then ref s
    else if live then (clr (ok s)).retrain g p 3 []
    else if st = 6 then (clr (ok s)).startTraining g p
    else clr (ok s)
  | 3 =>
    if live then
      let s := (ok s).abandonSwap g p
      let s := (s.linkPortReset g p).linkSet g p F.GRP_LINK_STAT_STATE 7
      if st = 3 ∨ st = 4 then s.fabEvent 0x02 (leBytes 1 (g * 8 + p) ++ leBytes 1 (s.get (R.GRP_LINK_STAT g p) F.GRP_LINK_STAT_CAUSE)) else s
    else (ok s).linkSet g p F.GRP_LINK_STAT_STATE 7
  | 4 => if st = 6 ∨ st = 7 then (ok s).startTraining g p else ok s
  | _ => s

/-- A write of LINK_CMD reaches the register only while the port's MODE, as last written, is 1 (R167). -/
def linkRegsShown (s : State) (g p : Nat) : Bool := s.on (R.GRP_PORT_CFG g p) F.GRP_PORT_CFG_MODE

def linkCmdWrite (g p : Nat) (v : Word) (s : State) : State :=
  if s.linkRegsShown g p then s.linkCmd g p (wfld v F.GRP_LINK_CMD_OP) else s

/-! ### SPARE_CMD, EYE_CTL, EQ_OVR0 (R122 to R126) -/

/-- SPARE_CMD (R122). DEDUCED: refused for a lane of an unranked link, which requests no swap (R343; notes/assumptions/117.md). -/
def spareCmdWrite (g : Nat) (v : Word) (s : State) : State :=
  if won v F.GRP_SPARE_CMD_GO then
    let n := wfld v F.GRP_SPARE_CMD_LANE
    let st := R.GRP_LANE_STAT g
    match s.linkOf g n with
    | some p =>
      if s.linkState g p = 3 ∧ s.spareFit g p = true ∧ (s.link g p).unranked = false then (s.set st F.GRP_LANE_STAT_CMD_REF 0).requestSwap g p n
      else s.set st F.GRP_LANE_STAT_CMD_REF 1
    | none => s.set st F.GRP_LANE_STAT_CMD_REF 1
  else s

/-- EYE_CTL (R123, R124). DESIGN CHOICE: a LANE or EYE that names none starts a scan too (notes/assumptions/116.md). -/
def eyeCtlWrite (m g : Nat) (v : Word) (s : State) : State :=
  let r := R.GRP_EYE_RES g
  let s := s.store m (R.GRP_EYE_CTL g) v
  if won v F.GRP_EYE_CTL_GO then
    if s.mode ≠ 6 ∨ s.on r F.GRP_EYE_RES_BUSY = true then s.set r F.GRP_EYE_RES_REFUSED 1
    else ((s.set r F.GRP_EYE_RES_REFUSED 0).set r F.GRP_EYE_RES_DONE 0).set r F.GRP_EYE_RES_BUSY 1
  else s

/-- EQ_OVR0 (R126): a write of EN = 1 outside Maintenance is ignored; in it the lane loads OVR1 to OVR3 unless it is off (EQ_SRC 3), whatever
rate it runs at. DESIGN CHOICE: each lane has an override of its own, which a write of EN = 0 that names the lane ends from its next rate
change on (notes/assumptions/103.md); a LANE above 16 names none (notes/assumptions/116.md). -/
def eqOvrWrite (m g : Nat) (v : Word) (s : State) : State :=
  let n := wfld v F.GRP_EQ_OVR0_LANE
  if won v F.GRP_EQ_OVR0_EN then
    if s.mode ≠ 6 then s
    else
      let b := leBytes 4 (s.rd (R.GRP_EQ_OVR1 g)).toNat ++ leBytes 4 (s.rd (R.GRP_EQ_OVR2 g)).toNat
        ++ leBytes 3 (s.rd (R.GRP_EQ_OVR3 g)).toNat
      let r := wfld v F.GRP_EQ_OVR0_RATE
      let s := s.store m (R.GRP_EQ_OVR0 g) v
      if 16 < n then s
      else
        let s := s.setLane g n fun L => { L with ovr := some (r, b) }
        if s.get (R.GRP_LANE_CTL g n) F.GRP_LANE_CTL_EQ_SRC ≠ 3 then
          (s.setLane g n fun L => { L with loaded := b }).set (R.GRP_LANE_CTL g n) F.GRP_LANE_CTL_EQ_SRC 2
        else s
  else
    let s := s.store m (R.GRP_EQ_OVR0 g) v
    if 16 < n then s else s.setLane g n fun L => { L with ovr := none }

end State

open State

/-! ### Commands -/

/-- PCIE_EQ_PHASE (R96 to R98): the preset of the lane's settings (entry byte 8, an override's PRESET) is asked for once; in Recovery the
factory preset, which no rule states. Once a bypass is accepted only the phases at its rate run. -/
def execPcieEqPhase (g n rate : Nat) (rejected : Bool) (s : State) : Res' :=
  runLive (.pcieEqPhase g n rate rejected) s fun s =>
    match s.pciePortOf g n with
    | none => s
    | some p =>
      let (e, src) := s.laneSettings g n rate
      let pre := if src = 1 then 0xFF else (e.getD 4 0xFF).toNat
      let rej := fun (s : State) => if rejected then s.set (R.GRP_LANE_CTL g n) F.GRP_LANE_CTL_EQ_REJ 1 else s
      if (s.port (g * 8 + p)).bypass.any (· != rate) then s
      else if s.mode = 1 ∧ src = 1 then rej (s.emit (.presetAsked g n (s.freeBelow 11))).used
      else if pre = 0xFF then s
      else rej (s.emit (.presetAsked g n pre))

/-- PARTNER_PRESET_REQUEST (R95): the setting is in force until the lane loads its settings anew. -/
def execPartnerPresetRequest (g n : Nat) (tx : TxRequest) (s : State) : Res' :=
  runLive (.partnerPresetRequest g n tx) s fun s =>
    if (s.pciePortOf g n).isSome then (s.setLane g n fun L => { L with tx := some tx }).emit (.txApplied g n tx) else s

/-- LANE_LOCK (R114). -/
def execLaneLock (g n : Nat) (s : State) : Res' := runLive (.laneLock g n) s fun s => s.lockLane g n

/-- LANE_ALIGNED (R108, R110). -/
def execLaneAligned (g n : Nat) (inverted : Bool) (s : State) : Res' :=
  runLive (.laneAligned g n inverted) s fun s => s.alignLane g n inverted

/-- LANE_ALIGN_LOSS (R108). -/
def execLaneAlignLoss (g n : Nat) (s : State) : Res' := runLive (.laneAlignLoss g n) s fun s => s.alignLost g n

/-- ALIGN_TIMEOUT (R114). -/
def execAlignTimeout (g n : Nat) (s : State) : Res' := runLive (.alignTimeout g n) s fun s => s.alignTimeout g n

/-- LANE_TRAINING_RECORD (R112). -/
def execLaneTrainingRecord (g p n : Nat) (bytes : List Byte) (s : State) : Res' :=
  runLive (.laneTrainingRecord g p n bytes) s fun s =>
    if s.isFabric (g * 8 + p) && ((s.link g p).lanes.contains n || (s.recLanes g p).contains n) then s.trainingIn g p n bytes else s

/-- PROPOSE (R113). -/
def execPropose (g p : Nat) (s : State) : Res' := runLive (.propose g p) s fun s => s.propose g p

/-- SWITCH (R113). -/
def execSwitchRate (g p : Nat) (s : State) : Res' := runLive (.switchRate g p) s fun s => s.switchStep g p

/-- RATE_IDLE_END (R113). -/
def execRateIdleEnd (g p : Nat) (s : State) : Res' := runLive (.rateIdleEnd g p) s fun s => s.idleEnd g p

/-- VERIFY_END (R115). -/
def execVerifyEnd (g : Nat) (p : VerifyTime) (s : State) : Res' :=
  runLive (.verifyEnd g p) s fun s => s.verifyDone g p.port p.errs

/-- SPARE_CMD (R122). -/
def execSpareCmd (m g : Nat) (v : Word) (s : State) : Res' :=
  run (.spareCmd m g v) s fun s => s.cmdWrite m (R.GRP_SPARE_CMD g) v (spareCmdWrite g v)

/-- SPARE_ALIGNED (R110, R119 step 3, R159 step 2). -/
def execSpareAligned (g : Nat) (p : SpareLock) (s : State) : Res' :=
  runLive (.spareAligned g p) s fun s =>
    let inverted := p.inverted
    let p := p.port
    match (s.link g p).swap with
    | none => s
    | some w =>
      if s.linkState g p = 4 ∧ w.sentReady = false then
        let a := R.GRP_LANE_CTL g 16
        let s := ((s.set a F.GRP_LANE_CTL_LOCK 1).set a F.GRP_LANE_CTL_ALIGNED 1).set a F.GRP_LANE_CTL_POL (b2n inverted)
        let s := s.setLane g 16 fun L => { L with aligning := false }
        ((s.sendLcm g p 2 [w.lane]).setLink g p fun l => { l with swap := some { w with sentReady := true } }).maybeGo g p
      else s

/-- EYE_SCAN (R123). -/
def execEyeScan (m g : Nat) (v : Word) (s : State) : Res' :=
  run (.eyeScan m g v) s fun s => s.cmdWrite m (R.GRP_EYE_CTL g) v (eyeCtlWrite m g v)

/-- EYE_SCAN_DONE (R124): ERRS saturates. -/
def execEyeScanDone (g errs : Nat) (s : State) : Res' :=
  runLive (.eyeScanDone g errs) s fun s =>
    let r := R.GRP_EYE_RES g
    if s.on r F.GRP_EYE_RES_BUSY then
      ((s.set r F.GRP_EYE_RES_ERRS (min 0xFFFFFF errs)).set r F.GRP_EYE_RES_DONE 1).set r F.GRP_EYE_RES_BUSY 0
    else s

/-- MARGIN_COMMAND (R125): the values the part reports; the error count of a step is what the sampler finds, a free value, and a step
beyond the reported number is answered with the standard's status NAK. DESIGN CHOICE: an answer shows the count alone, and Clear Error Log
and Go to Normal Settings draw none (notes/assumptions/113.md). -/
def execMarginCommand (g n : Nat) (c : MarginCmd) (s : State) : Res' :=
  runLive (.marginCommand g n c) s fun s =>
    match s.pciePortOf g n with
    | none => s
    | some p =>
      if s.portUp (g * 8 + p) && decide (3 ≤ s.get (R.GRP_PCIE_STAT g p) F.GRP_PCIE_STAT_RATE) then
        match c with
        | .numTimingSteps => s.emit (.margin g n 32)
        | .maxTimingOffset => s.emit (.margin g n 50)
        | .numVoltageSteps => s.emit (.margin g n 64)
        | .maxVoltageOffset => s.emit (.margin g n 25)
        | .indTiming => s.emit (.margin g n 1)
        | .indVoltage => s.emit (.margin g n 1)
        | .sampleMethod => s.emit (.margin g n 0)
        | .stepTiming _ k => if 32 < k then s.emit (.margin g n 0xC0) else (s.emit (.margin g n (s.freeBelow 64))).used
        | .stepVoltage _ k => if 64 < k then s.emit (.margin g n 0xC0) else (s.emit (.margin g n (s.freeBelow 64))).used
        | .clearErrors => s
        | .normal => s
      else s

/-- EQ_OVERRIDE (R126). -/
def execEqOverride (m g : Nat) (v : Word) (s : State) : Res' :=
  run (.eqOverride m g v) s fun s => s.cmdWrite m (R.GRP_EQ_OVR0 g) v (eqOvrWrite m g v)

/-- FLIT_TRANSMIT (R151). -/
def execFlitTransmit (g p : Nat) (s : State) : Res' := runLive (.flitTransmit g p) s fun s => s.transmit g p

/-- FLIT_RECEIVE (R139). -/
def execFlitReceive (g p : Nat) (f : Flit) (errs : List LaneErr) (s : State) : Res' :=
  runLive (.flitReceive g p f errs) s fun s => s.receive g p f errs

/-- REPLAY_TIMEOUT (R144). -/
def execReplayTimeout (g p : Nat) (s : State) : Res' :=
  runLive (.replayTimeout g p) s fun s => if 2 ≤ s.linkState g p ∧ s.linkState g p ≤ 4 then s.replay g p else s

/-- CREDIT_TIMEOUT (R153). -/
def execCreditTimeout (g p cls : Nat) (s : State) : Res' := runLive (.creditTimeout g p cls) s fun s => s.creditTimeout g p cls

/-- INIT_TIMEOUT (R154, R157). -/
def execInitTimeout (g p : Nat) (s : State) : Res' :=
  runLive (.initTimeout g p) s fun s => if s.linkState g p = 2 then s.retrain g p 4 [] else s

/-- RETRAIN_PORT_RESET_DONE (R156, R162). -/
def execRetrainPortResetDone (g p : Nat) (s : State) : Res' := runLive (.retrainPortResetDone g p) s fun s => s.retrainGo g p

/-- SWAP_REQ (R159). -/
def execSwapReq (g p lane : Nat) (s : State) : Res' := runLive (.swapReq g p lane) s fun s => s.onSwapReq g p lane

/-- SWAP_READY (R159). -/
def execSwapReady (g p lane : Nat) (s : State) : Res' := runLive (.swapReady g p lane) s fun s => s.onSwapReady g p lane

/-- SWAP_GO (R159). -/
def execSwapGo (g p lane : Nat) (s : State) : Res' := runLive (.swapGo g p lane) s fun s => s.onSwapGo g p lane

/-- SWAP_ABORT (R161). -/
def execSwapAbort (g p lane reason : Nat) (s : State) : Res' :=
  runLive (.swapAbort g p lane reason) s fun s => s.onSwapAbort g p lane reason

/-- RETRAIN_REQ (R165). -/
def execRetrainReq (g p op : Nat) (s : State) : Res' := runLive (.retrainReq g p op) s fun s => s.onRetrainReq g p op

/-- SWAP_BLOCK_END (R119, R159). -/
def execSwapBlockEnd (g p : Nat) (s : State) : Res' := runLive (.swapBlockEnd g p) s fun s => s.swapDone g p

/-- SWAP_TIMEOUT (R161). -/
def execSwapTimeout (g p : Nat) (s : State) : Res' :=
  runLive (.swapTimeout g p) s fun s =>
    match (s.link g p).swap with
    | some w => if s.linkState g p = 4 ∧ (w.sentReady && w.gotReady) = false then s.abortSwap g p w.lane 1 else s
    | none => s

/-- LINK_CMD_RETRAIN (R619). -/
def execLinkCmdRetrain (m g p : Nat) (s : State) : Res' :=
  run (.linkCmdRetrain m g p) s fun s => s.cmdWrite m (R.GRP_LINK_CMD g p) 1 (linkCmdWrite g p 1)

/-- LINK_CMD_RETRAIN_FULL (R619). -/
def execLinkCmdRetrainFull (m g p : Nat) (s : State) : Res' :=
  run (.linkCmdRetrainFull m g p) s fun s => s.cmdWrite m (R.GRP_LINK_CMD g p) 2 (linkCmdWrite g p 2)

/-- LINK_CMD_DISABLE (R619). -/
def execLinkCmdDisable (m g p : Nat) (s : State) : Res' :=
  run (.linkCmdDisable m g p) s fun s => s.cmdWrite m (R.GRP_LINK_CMD g p) 3 (linkCmdWrite g p 3)

/-- LINK_CMD_ENABLE (R619). -/
def execLinkCmdEnable (m g p : Nat) (s : State) : Res' :=
  run (.linkCmdEnable m g p) s fun s => s.cmdWrite m (R.GRP_LINK_CMD g p) 4 (linkCmdWrite g p 4)

end Sys2Proof.Machine
end

