-- ==== Sys2Proof/Machine/Csr.lean ====
section
/-! DEFINITION. The CSR space (R567 to R570, 20_management_registers.md): what a write of each register does, what a read of it
shows, accesses of every width, and REGISTER_WRITE and CP_ACCESS. -/

namespace Sys2Proof.Machine

namespace State

/-! ### One register -/

/-- Whether the registers of a port index are shown: by MODE as last written (R167, R206). -/
def grpShown (s : State) (a : Nat) : Bool :=
  let o := a % 0x10000
  let g := (a - 0x100000) / 0x10000
  if 0x400 ≤ o ∧ o < 0x600 then s.on (R.GRP_PORT_CFG g ((o - 0x400) / 0x40)) F.GRP_PORT_CFG_MODE
  else if 0x800 ≤ o ∧ o < 0xA00 then s.pcieRegsShown g ((o - 0x800) / 0x40)
  else true

/-- A write of a register of block GLB, of PWR, of FLT, of SEC. -/
def writeGlb (m a : Nat) (v : Word) (s : State) : State :=
  if a = R.GLB_MODE then modeWrite m v s
  else if a = R.GLB_RESET then glbReset v s
  else if a = R.GLB_GRP_RESET then grpResetWrite v s
  else if a = R.GLB_BOOT_CONFIRM then bootConfirm v s
  else if 0x100 ≤ a ∧ a < 0x200 ∧ a % 16 = 0 then hdCfg m ((a - 0x100) / 16) v s
  else s.store m a v
def writePwr (m a : Nat) (v : Word) (s : State) : State :=
  if a = R.PWR_PD_CTL then pdCtl m v s
  else if a = R.PWR_DUSK_EN_0 ∨ a = R.PWR_DUSK_EN_1 then duskEnWrite m a v s
  else if a = R.PWR_NIGHT_CFG then nightCfg m v s
  else if a = R.PWR_PAD_HOLD_RELEASE then padRelease v s
  else s.store m a v
def writeFlt (m a : Nat) (v : Word) (s : State) : State :=
  if a = R.FLT_ACK then fltAck v s
  else if a = R.FLT_DOM_SEL then fltDomSel m v s
  else if a = R.FLT_SAFE then fltSafe m v s
  else s.store m a v
def writeSec (m a : Nat) (v : Word) (s : State) : State :=
  if a = R.SEC_MB_CMD then mbCmd m v s
  else if a = R.SEC_MB_LEN ∨ 0x38000 ≤ a then s.mbBusy fun s => s.store m a v
  else s.store m a v

/-- Of MGT: STBY_ID and STBY_PRESENT are writable on the manager only (10_fabric.md). -/
def writeMgt (m a : Nat) (v : Word) (s : State) : State :=
  let h := (a - 0x40000) / 64
  if a < 0x40400 then
    (if a % 64 = 0 then ringCtl m h v s
     else if a % 64 = 0x1C then cmdIdx h v s
     else if a % 64 = 0x20 then rspIdx h v s
     else if a % 64 = 0x24 then evtIdx h v s
     else s.store m a v)
  else if a = R.MGT_FW_POST then fwPost m v s
  else if a = R.MGT_FAB_MGR then (if s.get R.MGT_FAB_ID F.MGT_FAB_ID_ROLE = 2 then s.store m a v else s)
  else s.store m a v

/-- Of TEL, of CHK, of SLOT. -/
def writeTel (m a : Nat) (v : Word) (s : State) : State :=
  if a = R.TEL_CFG then telCfg m v s
  else if 0x50040 ≤ a ∧ a < 0x50060 ∧ a % 8 = 0 then ringCfg m ((a - 0x50040) / 8) v s
  else if 0x51000 ≤ a ∧ (fieldsAt a).isEmpty = false then ctrSel m ((a - 0x51000) / 0x100) (a % 0x100 / 4) v s
  else s.store m a v
def writeChk (m a : Nat) (v : Word) (s : State) : State :=
  if a = R.CHK_CMD then chkCmd v s
  else if 0x60800 ≤ a ∧ a < 0x60C00 ∧ a % 0x20 = 8 then chkRecCfg m ((a - 0x60800) / 0x20) v s
  else s.store m a v
def writeSlot (m a : Nat) (v : Word) (s : State) : State :=
  let sc := (a - 0x70000) / 64
  if 16 ≤ sc then s
  else match a % 64 with
    | 0x00 => slotBindWrite m sc v s
    | 0x04 => slotCfgWrite m sc v s
    | 0x34 => slotCmd sc v s
    | _ => s.store m a v

/-- Of a port group. -/
def writeGrp (m a : Nat) (v : Word) (s : State) : State :=
  let g := (a - 0x100000) / 0x10000
  let o := a % 0x10000
  if !s.grpShown a then s
  else if o = 0x1A8 then spareCmdWrite g v s
  else if o = 0x1C0 then eyeCtlWrite m g v s
  else if o = 0x1D0 then eqOvrWrite m g v s
  else if 0x400 ≤ o ∧ o < 0x600 ∧ o % 0x40 = 0x08 then linkCmdWrite g ((o - 0x400) / 0x40) v s
  else if 0x800 ≤ o ∧ o < 0xA00 ∧ o % 0x40 = 0x04 then pcieCmd g ((o - 0x800) / 0x40) v s
  else s.store m a v

/-- Of a den, of WEN, of SLC and QOS, of TBL. -/
def writeDen (m a : Nat) (v : Word) (s : State) : State :=
  let d := (a - 0x300000) / 0x10000
  match a % 0x10000 with
  | 0x200 => progCtl m d v s
  | 0x300 => mtrIdx m d v s
  | 0x310 => ctrIdx m d v s
  | _ => s.store m a v
def writeWen (m a : Nat) (v : Word) (s : State) : State :=
  if a = R.WEN_ABORT then abortCmd m v s
  else if a = R.WEN_WIN_CMD then winCmd m v s
  else if a = R.WEN_CTX_SEL then ctxCmd m v s
  else s.store m a v
def writeSlc (m a : Nat) (v : Word) (s : State) : State :=
  let k := (a - 0x500000) / 0x100
  let o := a % 0x100
  if o = 0 then slcCmd m k (wfld v F.SLC_CMD_OP) (won v F.SLC_CMD_FORCE) s
  else if 0x40 ≤ o ∧ o < 0x80 ∧ o % 16 = 12 then irqCtl m k ((o - 0x40) / 16) v s
  else s.store m a v
def writeQos (m a : Nat) (v : Word) (s : State) : State :=
  let k := a % 0x10000 / 16
  if a % 16 = 4 then (if a < 0x610000 then shpCommit m k v s else polCommit m k v s) else s.store m a v
def writeTbl (m a : Nat) (v : Word) (s : State) : State :=
  if a = R.TBL_WR_CMD then tblWrCmd m v s
  else if a = R.TBL_PLOAD_CMD then tblPloadCmd m v s
  else if a = R.TBL_PSWITCH then tblPswitch m v s
  else s.store m a v

/-- A whole word written to the register at an address: its effect where it has one, else its fields by their types. -/
def writeReg (s : State) (m a : Nat) (v : Word) : State :=
  match blockBit a with
  | some 0 => writeGlb m a v s
  | some 1 => writePwr m a v s
  | some 2 => writeFlt m a v s
  | some 3 => writeSec m a v s
  | some 4 => writeMgt m a v s
  | some 5 => writeTel m a v s
  | some 6 => writeChk m a v s
  | some 7 => writeSlot m a v s
  | some 9 => writeGrp m a v s
  | some 10 => if a = R.SETT_CFG then settCfg m v s else s.store m a v
  | some 11 => writeDen m a v s
  | some 12 => writeWen m a v s
  | some 13 => writeSlc m a v s
  | some 14 => writeQos m a v s
  | some 15 => writeTbl m a v s
  | some _ => s.store m a v
  | none => s

/-- The address of a slot's SLOT_STAT. -/
def isSlotStat (a : Nat) : Bool := decide (0x70000 ≤ a) && decide (a < 0x70400) && a % 64 == 0x20

/-- Registers whose value is worked out when they are read. -/
def refreshReg (s : State) (a : Nat) : State :=
  if a = R.FLT_DOM_STAT then s.refreshDomStat
  else if a = R.GLB_BOOT_CONFIRM then s.refreshConfirm
  else if isSlotStat a then s.slotBindErr ((a - 0x70000) / 64)
  else if 0x600000 ≤ a ∧ a < 0x620000 ∧ a % 16 = 8 then s.showTokens (a % 0x10000 / 16)
  else s

/-- The record ring, which the FLT block shows (R458). -/
def inRing (a : Nat) : Bool := decide (0x22000 ≤ a) && decide (a < 0x24000)

/-- A read of a whole register: the value it shows, and its RC fields cleared (R569). -/
def readReg (s : State) (m a : Nat) : State × Word :=
  if inRing a then (s, BitVec.ofNat 32 (fieldAt (bytesAt zeroByte s.owl.ring (a - 0x22000) 4) 0 4))
  else if (blockBit a).isNone || (blockBit a == some 9 && !s.grpShown a) then (s, 0)
  else
    let s := s.refreshReg a
    (s.clearRc m a, if isSlotStat a then s.slotStatWord ((a - 0x70000) / 64) (s.peek m a) else s.peek m a)

/-! ### Byte spaces (R569, R570) -/

/-- The views: of the table master, and of the sett. -/
def inMaster (a : Nat) : Bool := decide (0xA00000 ≤ a) && decide (a < 0xC00000)
def inSettView (a : Nat) : Bool := decide (0x280000 ≤ a) && decide (a < 0x300000)

/-- Accessed by bytes, not by registers. -/
def byteSpace (a : Nat) : Bool := inCmem a || inMaster a || inSettView a

/-- The sett view: in modes 6 and 7 the cell bytes as stored. A row that holds no cell of a packet has free contents. -/
def viewByte (s : State) (a i : Nat) : Byte :=
  if s.mode ≠ 6 ∧ s.mode ≠ 7 then 0
  else
    let b := s.get R.SETT_VIEW F.SETT_VIEW_BANK
    let o := s.get R.SETT_VIEW F.SETT_VIEW_PART * 0x80000 + (a - 0x280000)
    match s.sett.cells.find? fun e => e.1 / 8192 == b && Config.cellRow b (e.1 % 8192) % 8192 == o / 256 with
    | some e => e.2.data.getD (o % 256) 0
    | none => BitVec.ofNat 8 (Config.freeNat (s.free + i))

/-- Bytes read from a byte space. -/
def spaceRead (s : State) (a n : Nat) : State × List Byte :=
  if inCmem a then (s.wakeFor a, s.cmemBytes (a - 0x1000000) n)
  else if !s.powered a then (s.inc R.PWR_LP_STAT F.PWR_LP_STAT_OFF_ACC 1, List.replicate n 0)
  else if inMaster a then (s.wakeFor a, bytesAt zeroByte s.tblw.master (a - 0xA00000) n)
  else ((s.wakeFor a).usedN n, (upTo n).map fun i => s.viewByte (a + i) i)

/-! ### Accesses of any width (R569) -/

/-- The word addresses that `n` bytes from `a` on touch. -/
def wordsOf (a n : Nat) : List Nat := if n = 0 then [] else (upTo ((a % 4 + n + 3) / 4)).map fun i => a / 4 * 4 + 4 * i

/-- The byte a write carries for an address. -/
def carried (a : Nat) (data : List (Option Byte)) (x : Nat) : Option Byte := if x < a then none else (data.getD (x - a) none)

/-- A write of one register as an access carries it: one that covers only part of it is discarded, as is one of a register
whose domain is off, which is counted (R505). -/
def putWord (s : State) (m a : Nat) (data : List (Option Byte)) (w : Nat) : State :=
  if !s.powered w then s.inc R.PWR_LP_STAT F.PWR_LP_STAT_OFF_ACC 1
  else
    let s := s.wakeFor w
    match carried a data w, carried a data (w + 1), carried a data (w + 2), carried a data (w + 3) with
    | some b0, some b1, some b2, some b3 => s.writeReg m w (BitVec.ofNat 32 (leNat [b0, b1, b2, b3]))
    | _, _, _, _ => s

/-- A read of one register. -/
def getWord (s : State) (m w : Nat) : State × Word :=
  if !s.powered w then (s.inc R.PWR_LP_STAT F.PWR_LP_STAT_OFF_ACC 1, 0) else (s.wakeFor w).readReg m w

/-- Bytes written to control memory where they are enabled. -/
def cmemWrite (s : State) (off : Nat) : List (Option Byte) → State
  | [] => s
  | some b :: t => cmemWrite (s.cmemPut off [b]) (off + 1) t
  | none :: t => cmemWrite s (off + 1) t

/-- A write that has passed its checks. -/
def busWrite (s : State) (m a : Nat) (data : List (Option Byte)) : State :=
  if inCmem a then (s.wakeFor a).cmemWrite (a - 0x1000000) data
  else if byteSpace a then s
  else forAll (wordsOf a data.length) (fun w s => s.putWord m a data w) s

/-- Words read in ascending order. -/
def getWords (m : Nat) : List Nat → State → State × List Byte
  | [], s => (s, [])
  | w :: t, s =>
    let (s, v) := s.getWord m w
    let (s, bs) := getWords m t s
    (s, leBytes 4 v.toNat ++ bs)

/-- A read that has passed its checks. -/
def busRead (s : State) (m a n : Nat) : State × List Byte :=
  if byteSpace a then s.spaceRead a n
  else
    let (s, bs) := getWords m (wordsOf a n) s
    (s, (bs.drop (a % 4)).take n)

/-- Whether a word read by a master passes its checks. -/
def wordOk (s : State) (m w : Nat) : Bool := (s.checkAcc (.word m false w 0)).isNone

/-- Where a read of `n` words by a master is held at a fence, when no word in front of it is refused. -/
def wordsHold (s : State) (m a n : Nat) : Option (List Nat × Nat × List Nat) := s.fenceSplit m (s.wordOk m) true (wordsOf a (4 * n))

/-- A word written or read by a master under all checks: whether it passed, and what it read. -/
def wordWrite (s : State) (m a : Nat) (v : Word) : Bool × State :=
  match s.checkAcc (.word m true a v.toNat) with
  | some (k, i, x) => (false, s.violate (.word m true a v.toNat) k i x)
  | none => (true, s.busWrite m a ((leBytes 4 v.toNat).map some))
def wordRead (s : State) (m a : Nat) : Bool × State × Word :=
  match s.checkAcc (.word m false a 0) with
  | some (k, i, x) => (false, s.violate (.word m false a 0) k i x, 0)
  | none =>
    let (s, bs) := s.busRead m a 4
    (true, s, BitVec.ofNat 32 (leNat bs))

/-- Words written in ascending order until one is refused: how many were performed (R350, R579). -/
def wordsWrite (m : Nat) : Nat → List Word → State → Nat × State
  | _, [], s => (0, s)
  | a, v :: t, s =>
    match s.wordWrite m a v with
    | (true, s) => let r := wordsWrite m (a + 4) t s; (r.1 + 1, r.2)
    | (false, s) => (0, s)

/-- Words read in ascending order until one is refused: the words performed. -/
def wordsRead (m : Nat) : Nat → Nat → State → List Word × State
  | 0, _, s => ([], s)
  | n + 1, a, s =>
    match s.wordRead m a with
    | (true, s, v) => let r := wordsRead m n (a + 4) s; (v :: r.1, r.2)
    | (false, s, _) => ([], s)

/-- An access of a control processor (R450, R569). -/
def cpAccess (s : State) (x : CpAcc) : State :=
  let acc : Acc := {
    m := x.cp, write := decide (x.kind = .write), fetch := decide (x.kind = .fetch), user := x.user, cacheable := x.cacheable
    ordered := x.ordered, addr := x.addr, size := x.size, val := leNat x.data }
  s.checked acc fun s =>
    if x.kind = .write then s.busWrite x.cp x.addr (x.data.map some)
    else match (if byteSpace x.addr then none else s.fenceSplit x.cp (fun _ => true) false (wordsOf x.addr x.size)) with
    | some (pre, w, t) =>
      let r := getWords x.cp pre s
      r.1.fenceHold (r.1.fenceRd x.cp w (.cp x) r.2 t)
    | none =>
      let r := s.busRead x.cp x.addr x.size
      r.1.emit (.readData x.cp x.addr r.2)

end State

/-! ### The commands -/

/-- REGISTER_WRITE (R10): a word written by a master. -/
def execRegisterWrite (m addr : Nat) (v : Word) (s : State) : Res' :=
  run (.registerWrite m addr v) s fun s =>
    s.checked (.word m true addr v.toNat) fun s => s.busWrite m addr ((leBytes 4 v.toNat).map some)

/-- CP_ACCESS (R450). -/
def execCpAccess (a : CpAcc) (s : State) : Res' := run (.cpAccess a) s fun s => s.cpAccess a

end Sys2Proof.Machine
end

