-- ==== Sys2Proof/Machine/FabCsr.lean ====
section
/-! DEFINITION. CSR_READ, CSR_WRITE and TABLE_WRITE of the fabric (R350, R351, 10_fabric.md), and a step of the table writer with
what a changed VF map shows (R189) and the answers that wait for the fence (R264). -/

namespace Sys2Proof.Machine

namespace State

/-- The body of the answer to a CSR_READ of `n` words: 4 when a word was refused. -/
def readBody (n : Nat) (bs : List Byte) : List Byte := [if bs.length = 4 * n then 0 else 4, 0, 0, 0] ++ padTo (4 * n) bs

/-- CSR_READ: the words up to the first refused one (R350, R448). -/
def fabRead (s : State) (k : CtlMsg) : State :=
  s.mgrRequest k 5 fun s =>
    let n := fieldAt k.body 4 1
    let a := fieldAt k.body 0 4
    if n = 0 ∨ 16 < n then s.ctlAnswer k [6]
    else match s.wordsHold 10 a n with
      | some (pre, w, t) =>
        let r := wordsRead 10 pre.length a s
        r.2.fenceHold (r.2.fenceRd 10 w (.fab k.src k.tag) (r.1.flatMap fun w => leBytes 4 w.toNat) t)
      | none =>
        let r := wordsRead 10 n a s
        r.2.ctlAnswer k (readBody n (r.1.flatMap fun w => leBytes 4 w.toNat))

/-- CSR_WRITE: the words up to the first refused one. -/
def fabWrite (s : State) (k : CtlMsg) : State :=
  s.mgrRequest k 8 fun s =>
    let n := fieldAt k.body 4 1
    if n = 0 ∨ 16 < n ∨ k.body.length < 8 + 4 * n then s.ctlAnswer k [6]
    else
      let r := wordsWrite 10 (fieldAt k.body 0 4) ((upTo n).map fun i => BitVec.ofNat 32 (fieldAt k.body (8 + 4 * i) 4)) s
      r.2.ctlAnswer k [if r.1 = n then 0 else 4]

/-- TABLE_WRITE: one command of the table writer; with FENCE its response follows the fence. -/
def fabTable (s : State) (k : CtlMsg) : State :=
  s.mgrRequest k 8 fun s =>
    let off := fieldAt k.body 0 4
    let len := 8 * 2 ^ fieldAt k.body 4 1
    let fence := bit (fieldAt k.body 5 1) 0
    let acc := Acc.word 10 true R.TBL_WR_CMD 0
    if 3 < fieldAt k.body 4 1 ∨ k.body.length < 8 + len then s.ctlAnswer k [6]
    else match s.checkAcc acc with
      | some (kd, i, a) => (s.violate acc kd i a).ctlAnswer k [4]
      | none =>
        if !s.powered R.TBL_WR_CMD then (s.inc R.PWR_LP_STAT F.PWR_LP_STAT_OFF_ACC 1).ctlAnswer k [5]
        else if 0x200000 < off + len then s.ctlAnswer k [5]
        else
          let t := s.entryWrite off ((k.body.drop 8).take len) (if fence then some (k.src, leBytes 2 k.tag) else none)
          if t.tblw.q.length = s.tblw.q.length then t.ctlAnswer k [5]
          else if fence then t else t.ctlAnswer k [0]

/-- Responses that waited for the fence. -/
def fenceAnswers (s : State) : State :=
  let l := s.tblw.answers.filter fun x => s.jobsDone x.2.2
  forAll l (fun x s => s.ctlSend x.1 0x22 true false (leNat x.2.1) [0])
    { s with tblw := { s.tblw with answers := s.tblw.answers.filter fun x => !s.jobsDone x.2.2 } }

/-- The table writer's next step. -/
def writerStep (s : State) : State :=
  (vfMoved s s.tblStep).fenceAnswers

end State

/-! ### The commands -/

/-- CSR_READ of the fabric (R350, R351). -/
def execCtlCsrRead (msg : List Byte) (s : State) : Res' :=
  run (.ctlCsrRead msg) s fun s => s.ctlTake none msg 0x20 false fun k _ s => s.fabRead k

/-- CSR_WRITE of the fabric (R350, R351). -/
def execCtlCsrWrite (msg : List Byte) (s : State) : Res' :=
  run (.ctlCsrWrite msg) s fun s => s.ctlTake none msg 0x21 false fun k _ s => s.fabWrite k

/-- TABLE_WRITE (R350, R351). -/
def execTableWrite (msg : List Byte) (s : State) : Res' :=
  run (.tableWrite msg) s fun s => s.ctlTake none msg 0x22 false fun k _ s => s.fabTable k

/-- TABLE_WRITER_STEP (R261, R266, R267). -/
def execTableWriterStep (s : State) : Res' := run .tableWriterStep s fun s => s.writerStep

end Sys2Proof.Machine
end

