-- ==== Sys2Proof/Machine/ChanCmd.lean ====
section
/-! DEFINITION. The commands of the channel that access the CSR space (R579, R581, 20_management_registers.md). -/

namespace Sys2Proof.Machine

namespace State

/-- The operands of CSR_READ and CSR_WRITE are valid (R577). -/
def csrOperands (b : List Byte) : Bool :=
  decide (fieldAt b 8 4 % 4 = 0) && decide (1 ≤ fieldAt b 12 1) && decide (fieldAt b 12 1 ≤ 12)

/-- Words as bytes. -/
def wordBytes (ws : List Word) : List Byte := ws.flatMap fun w => leBytes 4 w.toNat

/-- The answer to a CSR_READ of `n` words of which some were read. -/
def chReadEnd (s : State) (path n : Nat) (bs : List Byte) : State :=
  s.chAnswer path (if bs.length = 4 * n then 0 else 3) (bs.length / 4) bs

/-- CSR_READ on a path (R579); a read that a fence holds has not returned. -/
def chRead (s : State) (path : Nat) (b : List Byte) : State :=
  let a := fieldAt b 8 4
  let n := fieldAt b 12 1
  let m := pathMaster path
  if !csrOperands b then s.chAnswer path 2 0 []
  else match s.wordsHold m a n with
    | some (pre, w, t) =>
      let r := wordsRead m pre.length a s
      let s := r.2.fenceHold (r.2.fenceRd m w (.chan path) (wordBytes r.1) t)
      { s with chan := { s.chan with cmds := s.chan.cmds.upd dNone path fun c => c.map fun (x : ChCmd) => { x with stage := .fence } } }
    | none =>
      let r := wordsRead m n a s
      r.2.chReadEnd path n (wordBytes r.1)

/-- CSR_WRITE on a path (R579). -/
def chWrite (s : State) (path : Nat) (b : List Byte) : State :=
  let n := fieldAt b 12 1
  if !csrOperands b then s.chAnswer path 2 0 []
  else
    let r := wordsWrite (pathMaster path) (fieldAt b 8 4) ((upTo n).map fun i => BitVec.ofNat 32 (fieldAt b (16 + 4 * i) 4)) s
    r.2.chAnswer path (if r.1 = n then 0 else 3) r.1 []

/-- The word that RESET writes to GLB_RESET. -/
def resetWrite (b : List Byte) : Word := BitVec.ofNat 32 (fieldAt b 8 1 + 65536 * fieldAt b 10 2)

/-- RESET (R581): judged as a write of GLB_RESET on the path; H00 passes in Recovery. The response is written, then the reset
starts. -/
def chReset (s : State) (path : Nat) (b : List Byte) : State :=
  let v := resetWrite b
  let acc := Acc.word (pathMaster path) true R.GLB_RESET v.toNat
  if (fieldAt b 8 1 ≠ 1 ∧ fieldAt b 8 1 ≠ 2) ∨ fieldAt b 10 2 ≠ 0xD2C7 then s.chAnswer path 2 0 []
  else match (if s.mode = 1 ∧ path = 0 then none else s.checkAcc acc) with
    | some (k, i, a) => (s.violate acc k i a).chAnswer path 3 0 []
    | none => s.answerWith path (rspBytes b 0 0 []) (some v)

/-- A command of the channel that accesses the CSR space acts: none while its path makes no access (R513). DEDUCED: one that was taken
before waits, and is run when the entry to Night is abandoned (notes/assumptions/130.md). -/
def csrCmd (path op : Nat) (f : List Byte → State → State) (s : State) : State :=
  doIf (!s.nightShut (pathMaster path)) (fun s => s.cmdRun path (· == op) f) s

end State

/-! ### The commands -/

/-- CSR_READ (R579). -/
def execCsrReadCmd (path : Nat) (s : State) : Res' :=
  runOk (okCsrReadCmd path) s (State.csrCmd path 0x02 fun b s => s.chRead path b)

/-- CSR_WRITE (R579). -/
def execCsrWriteCmd (path : Nat) (s : State) : Res' :=
  runOk (okCsrWriteCmd path) s (State.csrCmd path 0x03 fun b s => s.chWrite path b)

/-- RESET (R581). -/
def execResetCmd (path : Nat) (s : State) : Res' :=
  runOk (okResetCmd path) s (State.csrCmd path 0x08 fun b s => s.chReset path b)

end Sys2Proof.Machine
end

