-- ==== Sys2Proof/Machine/Domains.lean ====
section
/-! DEFINITION. What a host does to its domain (05_pcie_host_domains.md): configuration requests (R176 to R180, R186), accesses to
BAR0 of the DMF (R180, R181), Bus Master Enable (R199, R200), and the ends of the DMF's host reads (R183, R199, R202). -/

namespace Sys2Proof.Machine

/-- The bits of a register of a virtual port or of the DMF that a host can write; their places are those of the PCI Express
standard (notes/assumptions/27.md). -/
def cfgMask (dmf : Bool) : CfgReg → Word
  | .command => 0x0547
  | .busNumbers => if dmf then 0 else 0x00FFFFFF
  | .memWindow => if dmf then 0 else 0xFFF0FFF0
  | .prefWindow => if dmf then 0 else 0xFFF0FFF0
  | .bridgeControl => if dmf then 0 else 0x0043
  | .prefBaseHigh | .prefLimitHigh => if dmf then 0 else 0xFFFFFFFF
  | .linkControl => 0x03DF
  | .deviceControl => 0x7FFF
  | .deviceControl2 => 0xFFEF
  | .acsControl => if dmf then 0 else 0x005F
  | .ptmControl => if dmf then 0 else 0xFF03
  | .l1ssControl => if dmf then 0 else 0xE3FFFF0F
  | .doeControl => if dmf then 0x0002 else 0
  | .interruptLine => 0xFF
  | .aerUncMask | .aerUncSeverity => 0x04F7F030
  | .aerCorMask => 0x0000F1C1
  | .linkControl2 => 0xFFFF
  | .slotControl => if dmf then 0 else 0x1FFF
  | .dpcControl => if dmf then 0 else 0x003F
  | .msixControl => if dmf then 0xC000 else 0
  | _ => 0

/-- Where a configuration request goes in a domain's hierarchy. -/
inductive CfgTo | own (fn : Nat) | below (v : Nat) | nowhere
  deriving DecidableEq, Repr

namespace State

/-! ### Interrupts of the DMF (R180) -/

/-- Pending vectors that may be sent now are sent. -/
def msixFlush (s : State) (h : Nat) : State :=
  forAll (upTo 32) (fun v s =>
    let e := (s.dom h).msix.get (fun _ => {}) v
    if e.pend && !e.mask && s.msixOn h && s.dmfOk h then
      (s.setDom h fun d => { d with msix := d.msix.put (fun _ => {}) v { e with pend := false } }).msix h v
    else s) s

/-- A word of the MSI-X table or of the pending-bit array. -/
def msixRead (s : State) (h o : Nat) : Nat :=
  if o < 512 then
    let e := (s.dom h).msix.get (fun _ => {}) (o / 16)
    match o % 16 / 4 with
    | 0 => e.addr % 2 ^ 32
    | 1 => e.addr / 2 ^ 32
    | 2 => e.data
    | _ => b2n e.mask
  else if o = 0x8000 then (upTo 32).foldl (fun a v => a + b2n ((s.dom h).msix.get (fun _ => {}) v).pend * 2 ^ v) 0
  else 0

/-- A word of the MSI-X table written. -/
def msixWrite (s : State) (h o v : Nat) : State :=
  if 512 ≤ o then s
  else
    let s := s.setDom h fun d => { d with msix := d.msix.upd (fun _ => {}) (o / 16) fun e =>
      match o % 16 / 4 with
      | 0 => { e with addr := e.addr / 2 ^ 32 * 2 ^ 32 + v / 4 * 4 }
      | 1 => { e with addr := e.addr % 2 ^ 32 + v * 2 ^ 32 }
      | 2 => { e with data := v }
      | _ => { e with mask := bit v 0 } }
    s.msixFlush h

/-! ### Bus Master Enable of the DMF (R199, R200) -/

/-- Host reads outstanding when Bus Master Enable is cleared: the messages, served READs and scans that need them fail. -/
def readLost (s : State) (r : HostRead) : State :=
  match r.pur with
  | .gather slot _ => s.endMsg slot stHOST_ACCESS_DISABLED true 255 (s.lastPath slot) false
  | .inbound id =>
    (match s.wen.rds.find? (fun x => x.id == id) with
     | some x => (s.setWen fun w => { w with rds := w.rds.filter fun y => y.id != id }).nak (fabHdrOf x.hdr) stHOST_ACCESS_DISABLED
         (some x.slice)
     | none => s)
  | .check j => match s.chkJob j with
    | some x => if x.result.isSome then s else s.chkDecide x 5 0
    | none => s

/-- The host changes Bus Master Enable of the DMF. -/
def bmeWrite (s : State) (h : Nat) (on : Bool) : State :=
  let was := s.on (R.GLB_HD_STAT h) F.GLB_HD_STAT_BME
  let s := s.set (R.GLB_HD_STAT h) F.GLB_HD_STAT_BME (b2n on)
  if was = on then s
  else if on then
    let s := forAll (upTo 256) (fun _ s => s.eventOut h) s
    ((s.msixFlush h).answerOut h).irqsResume h
  else
    let l := (s.dom h).reads.filter fun (r : HostRead) => r.drop == 0
    let s := s.setDom h fun d => { d with reads := d.reads.map fun (r : HostRead) => if r.drop = 0 then { r with drop := 1 } else r }
    forAll l (fun r s => s.readLost r) s

/-! ### The ends of host reads (R183, R199, R202) -/

/-- A host read ends: discarded and counted, or used; in the safe state nothing is done with what it brings (R472). -/
def readEnd (s : State) (h tag : Nat) (st : CplStatus) (data : List Byte) : State :=
  match (s.dom h).reads.find? (fun r => r.tag == tag) with
  | none =>
    let P := (s.dom h).upPort
    if st = .timeout ∨ (s.dom h).on = false then s
    else s.unexpected P
  | some r =>
    let s := s.setDom h fun d => { d with reads := d.reads.filter fun (x : HostRead) => x.tag != tag }
    let n := if st = .timeout then 0 else 1
    if s.mode = 7 then s
    else if r.drop = 1 then s.inc (R.GLB_HD_CNT h) F.GLB_HD_CNT_BME_DISC n
    else if r.drop = 2 then
      let scan := (match r.pur with | .check _ => true | _ => false)
        && !(s.dom h).reads.any (fun (x : HostRead) => x.pur == r.pur && x.drop == 0)
      (if scan then s.readLost r else s).inc (R.GLB_HD_CNT2 h) F.GLB_HD_CNT2_FLR_DISC n
    else if r.drop = 3 then s
    else match r.pur with
      | .gather slot _ =>
        if st = .sc then s.gathered slot (padTo r.len data) else s.endMsg slot stHOST_ERROR true 255 (s.lastPath slot) false
      | .inbound id => s.readServed id st (padTo r.len data)
      | .check j => s.chkServed j st (padTo r.len data)

/-! ### Configuration requests -/

/-- The answer to a request of a domain's host. -/
def cfgAnswer (s : State) (h : Nat) (c : CfgReq) (st : CplStatus) (v : Word) : State :=
  s.emit (.dmfAnswer h c.reqId c.tag st (if st = .sc && !c.write then leBytes 4 v.toNat else []))

/-- A refused configuration request (R177, R191, R192): Unsupported Request, counted at the upstream port, logged in function `fn`. -/
def cfgRefuse (s : State) (h fn : Nat) (c : CfgReq) : State :=
  let P := (s.dom h).upPort
  ((s.urSent P).aerIn P h fn 1).cfgAnswer h c .ur 0

/-- A BAR of the DMF: a register of a pair, with the bits that say 64 bits and prefetchable. -/
def barRead (s : State) (h n : Nat) (high : Bool) : Nat :=
  let b := (s.dmfBar h n).1
  if high then b / 2 ^ 32 else b % 2 ^ 32 + 4 + (if n = 4 then 8 else 0)

/-- A capability register: the bits of `m` read `v`, the others are open (`Config.capBits`). -/
def capWord (fn : Nat) (r : CfgReg) (m v : Nat) : Nat :=
  ((Config.capBits (b2n (fn == 1)) (cfgRegNo r) &&& ~~~BitVec.ofNat 32 m) ||| BitVec.ofNat 32 v).toNat

/-- The physical port whose link a virtual port shows. -/
def cfgPort (s : State) (h fn : Nat) : Option Nat := if fn = 0 then some (s.dom h).upPort else if fn = 1 then none else s.portOfVdev h (fn - 2)

/-- Link Capabilities, Link Capabilities 2 and Link Status of a virtual port with a physical link (R173, R178): highest and current speed
and width, L1 without L0s, the link layer's state. -/
def linkWord (s : State) (fn P : Nat) (r : CfgReg) : Nat :=
  let top := s.pcieTop P
  let a := statA P
  match r with
  | .linkCap => capWord fn r 0xFFF (top + 1 + 16 * 2 ^ fldOf (s.layout P) F.GRP_PORT_CFG_WIDTH + 0x800)
  | .linkCap2 => capWord fn r 0xFE (2 ^ (top + 2) - 2)
  | _ => capWord fn r 0x23FF (s.get a F.GRP_PCIE_STAT_RATE + 1 + 16 * 2 ^ s.get a F.GRP_PCIE_STAT_WIDTH
      + 0x2000 * s.get a F.GRP_PCIE_STAT_UP)

/-- The capabilities of R173, R180, R183 and R497, at the places of the standard (notes/assumptions/27.md); the bits of features that the
table of R173 does not list (phantom functions, ARI forwarding, AtomicOp completer, LTR, TPH, OBFF and others) read 0. -/
def capRead (s : State) (h fn : Nat) (r : CfgReg) : Nat :=
  let dmf := decide (fn = 1)
  match r with
  | .headerType => if fn = 0 then 0x81 else if dmf then 0x80 else 0x01
  | .acsCap => if dmf then 0 else capWord fn r 0x7F 0x5F
  | .ptmCap => if dmf then 0 else capWord fn r 0x06 (if fn = 0 then 0x06 else 0x02)
  | .l1ssCap => if dmf then 0 else capWord fn r 0x1F 0x1F
  | .deviceCap => if dmf then capWord fn r 0x1000003F 0x10000025 else capWord fn r 0x3F 0x25
  | .deviceCap2 => if dmf then capWord fn r 0x873F3BFF 0x00330003 else capWord fn r 0x873F3BE0 0x00310040
  | .deviceCap3 => if dmf then capWord fn r 0x06 0x06 else capWord fn r 0x0A 0x0A
  | .linkCap | .linkCap2 | .linkStatus => (match s.cfgPort h fn with
    | some P => s.linkWord fn P r
    | none => capWord fn r 0 0)
  | .dpcCap => if fn < 2 then 0 else capWord fn r 0xA0 0x80
  | .slotCap => (match (if fn < 2 then none else s.slotOf h (fn - 2)) with
    | some sc => capWord fn r 0xFFFE007F (0x62 + s.get (R.SLOT_CFG sc) F.SLOT_CFG_PSN * 0x80000)
    | none => capWord fn r 0x7F 0)
  | .resizeCap n => if dmf then (if n = 2 then 0x001FFFF0 else if n = 4 then 0x7FFFC000 else 0) else 0
  | .doeCap => if dmf then capWord fn r 0 0 else 0
  | .doeStatus => if dmf then (if (s.dom h).doeR.isEmpty then 0 else 0x80000000) else 0
  | .doeRead => if dmf then ((s.dom h).doeR.headD 0).toNat else 0
  | _ => 0

/-- A register of a function read: 0 the virtual upstream port, 1 the DMF, 2 + n device n of the internal bus. Registers the
spec does not describe read a free value. -/
def cfgRead (s : State) (h fn : Nat) (r : CfgReg) : Nat :=
  let w := (s.cfgWord h fn r).toNat
  match r with
  | .vendorDevice => Config.vendorId.toNat + 65536 * (if fn = 0 then 0xF250 else if fn = 1 then 0xF256 else 0xF251)
  | .classRevision => (if fn = 1 then 0x088000 else 0x060400) * 256 + 0xB1
  | .bar n => if fn = 1 then (if n % 2 = 0 then s.barRead h n false else s.barRead h (n - 1) true) else 0
  | .barHigh n => if fn = 1 ∧ n % 2 = 0 then s.barRead h n true else 0
  | .prefWindow => if fn = 1 then 0 else w + 0x00010001
  | .slotStatus => match (if fn < 2 then none else s.slotOf h (fn - 2)) with
    | some sc => w % 64 + w / 128 * 128 + 64 * s.sst sc F.SLOT_STAT_PRSNT
    | none => 0
  | .slotControl => if fn < 2 ∨ (s.slotOf h (fn - 2)).isNone = true then 0 else w
  | .msixControl => if fn = 1 then w + 31 else w
  | .resizeBar n => if fn = 1 ∧ (n = 2 ∨ n = 4) then n + 64 + 256 * ((s.dmfBar h n).2 - 20) else 0
  | .status => w + 0x10
  | .aerUncMask | .aerUncSeverity | .aerCorMask => (s.cfgWord h fn r ^^^ cfgBase r).toNat
  | .headerType | .acsCap | .ptmCap | .l1ssCap | .deviceCap | .deviceCap2 | .deviceCap3 | .linkCap | .linkCap2 | .linkStatus | .dpcCap
  | .slotCap | .resizeCap _ | .doeCap | .doeStatus | .doeRead => s.capRead h fn r
  | .doeWrite => 0
  | .other _ => Config.freeNat s.free % 2 ^ 32
  | _ => w

/-- The writable bits of a register are stored. -/
def cfgStore (s : State) (h fn : Nat) (r : CfgReg) (v : Word) : State :=
  let m := cfgMask (fn == 1) r
  s.setCfg h fn r ((s.cfgWord h fn r &&& ~~~m) ||| ((v ^^^ cfgBase r) &&& m))

/-- Link Control of a virtual downstream port: Link Disable and Retrain Link (bit 5, which reads 0) act on a dedicated port's link alone
(R178). -/
def linkControl (s : State) (h n : Nat) (was v : Word) : State :=
  match s.portOfVdev h n with
  | some P =>
    if s.role P = 2 then
      (if bit v.toNat 4 then (if bit was.toNat 4 then s else s.linkGone P 1)
       else if bit v.toNat 5 && s.portUp P then s.emit (.linkRetrain P) else s)
    else s
  | none => s

/-- The DOE mailbox of the DMF (R182): a discovery object is answered with the types it supports (0 discovery, 1 SPDM, 2 secured SPDM of
vendor 1); of the SPDM type, the requests that open an exchange are answered at once (R534); any other object of the two SPDM types leaves
for the device's SPDM responder, whose requests are commands of their own. -/
def doeGo (s : State) (h : Nat) : State :=
  let l := (s.dom h).doeW
  let s := s.setDom h fun d => { d with doeW := [] }
  match l with
  | hd :: len :: body =>
    let ty := bits hd.toNat 16 8
    if bits hd.toNat 0 16 ≠ 1 then s
    else if ty = 0 then
      let i := (body.headD 0).toNat % 256
      if 2 < i then s
      else s.setDom h fun d => { d with doeR := d.doeR ++ [BitVec.ofNat 32 1, BitVec.ofNat 32 3, BitVec.ofNat 32 (1 + 65536 * i + 2 ^ 24 * ((i + 1) % 3))] }
    else
      match (if ty = 1 ∧ s.spdmUp (.doe h) = true then s.spdmHello (.doe h) (body.flatMap fun w => leBytes 4 w.toNat) else none) with
      | some t => t
      | none => if ty = 1 ∨ ty = 2 then s.emit (.doeObject h ty (hd :: len :: body)) else s
  | _ => s

/-- A register of the DMF written. -/
def dmfWrite (s : State) (h : Nat) (r : CfgReg) (v : Word) : State :=
  match r with
  | .command => (s.cfgStore h 1 r v).bmeWrite h (bit v.toNat 2)
  | .bar n => if n % 2 = 0 then s.setCfg h 1 (.bar n) v else s.setCfg h 1 (.barHigh (n - 1)) v
  | .barHigh n => if n % 2 = 0 then s.setCfg h 1 (.barHigh n) v else s
  | .initiateFlr => if bit v.toNat 15 then s.flrStart h 1 else s
  | .deviceControl => let s := s.cfgStore h 1 r v; if bit v.toNat 15 then s.flrStart h 1 else s
  | .doeWrite => s.setDom h fun d => { d with doeW := d.doeW ++ [v] }
  | .doeRead => s.setDom h fun d => { d with doeR := d.doeR.tail }
  | .doeControl =>
    let s := s.cfgStore h 1 r v
    let s := if bit v.toNat 0 then s.setDom h fun d => { d with doeW := [], doeR := [] } else s
    if bit v.toNat 31 then s.doeGo h else s
  | .msixControl => (s.cfgStore h 1 r v).msixFlush h
  | .resizeBar n =>
    let z := 20 + bits v.toNat 8 6
    if n = 2 ∧ 20 ≤ z ∧ z ≤ 36 then s.setDom h fun d => { d with apnSz := z }
    else if n = 4 ∧ 30 ≤ z ∧ z ≤ 46 then s.setDom h fun d => { d with appSz := z }
    else s
  | .aerUncorrectable | .aerCorrectable => s.cfgW1c h 1 r v
  | .status => s.cfgW1c h 1 r (v &&& 0xF900)
  | .deviceStatus => s.cfgW1c h 1 r (v &&& 0xF)
  | _ => s.cfgStore h 1 r v

/-- A register of a virtual port written: function 0, or 2 + n. Secondary Bus Reset of the virtual upstream port resets what lies
behind every virtual downstream port. -/
def vportWrite (s : State) (h fn : Nat) (r : CfgReg) (v : Word) : State :=
  let n := fn - 2
  match r with
  | .bridgeControl =>
    let go := bit v.toNat 6 && !bit (s.cfgWord h fn r).toNat 6
    let s := s.cfgStore h fn r v
    if go then (if fn = 0 then forAll (upTo 32) (fun k s => s.busReset h k) s else s.busReset h n) else s
  | .linkControl =>
    let was := s.cfgWord h fn r
    let s := s.cfgStore h fn r v
    if fn = 0 then s else s.linkControl h n was v
  | .slotControl =>
    (match (if fn = 0 then none else s.slotOf h n) with
     | some sc =>
       let was := s.cfgWord h fn r
       let s := s.cfgStore h fn r v
       let st := (s.cfgWord h fn .slotStatus).toNat
       let s := if hotPlugDue (s.cfgWord h fn r).toNat st && !hotPlugDue was.toNat st then s.emit (.hotPlug h n) else s
       s.slotHostReq sc (bit v.toNat 10)
     | none => s)
  | .slotStatus => if fn = 0 ∨ (s.slotOf h n).isNone = true then s else s.cfgW1c h fn r (v &&& 0x013F)
  | .dpcControl =>
    let s := s.cfgStore h fn r v
    (match (if fn = 0 then none else s.portOfVdev h n) with
     | some P => if bit v.toNat 6 then s.dpcGo P .software else s
     | none => s)
  | .dpcStatus => if fn ≠ 0 ∧ bit v.toNat 0 = true then s.dpcClear h n else s
  | .aerUncorrectable | .aerCorrectable | .laneError => s.cfgW1c h fn r v
  | .status | .secondaryStatus => s.cfgW1c h fn r (v &&& 0xF900)
  | .deviceStatus => s.cfgW1c h fn r (v &&& 0xF)
  | _ => s.cfgStore h fn r v

/-- A request that one of the device's own functions serves. -/
def cfgServe (s : State) (h fn : Nat) (c : CfgReq) : State :=
  if c.write then (if fn = 1 then s.dmfWrite h c.reg c.value else s.vportWrite h fn c.reg c.value).cfgAnswer h c .sc 0
  else
    let v := s.cfgRead h fn c.reg
    let s := match c.reg with | .other _ => s.used | _ => s
    s.cfgAnswer h c .sc (BitVec.ofNat 32 v)

/-- The guest's BARs of a forwarded VF stand in its VF map entry (R186): BAR0, BAR2 and BAR4 by 0, 1, 2. -/
def guestBar (s : State) (e : VfEnt) (k : Nat) (high : Bool) : Nat :=
  let g := fieldAt (bytesAt zeroByte s.tblw.master (e.off + 40 + 8 * k) 8) 0 8
  if e.size.getD k 0 = 0 then 0 else if high then g / 2 ^ 32 else g % 2 ^ 32 + 4

/-- A guest writes a BAR of a forwarded VF: GBASE is updated in its entry, by the table writer. -/
def guestBarPut (s : State) (e : VfEnt) (k : Nat) (high : Bool) (v : Nat) : State :=
  let sz := e.size.getD k 0
  let o := e.off + 40 + 8 * k
  let g := fieldAt (bytesAt zeroByte s.futureMaster o 8) 0 8
  let g := if high then g % 2 ^ 32 + v * 2 ^ 32 else g / 2 ^ 32 * 2 ^ 32 + v
  s.entryOwn o (leBytes 8 (if sz = 0 then 0 else g / 2 ^ sz * 2 ^ sz))

/-- The BAR register a configuration register is: number of the pair, and whether the high half. -/
def barOf : CfgReg → Option (Nat × Bool)
  | .bar n => some (n / 2, n % 2 == 1)
  | .barHigh n => if n % 2 = 0 then some (n / 2, true) else none
  | _ => none

/-- A configuration request as the TLP it came in as; one for the secondary bus of the virtual port it goes through is type 0 from
there on (notes/assumptions/27.md). -/
def cfgTlp (c : CfgReq) (zero : Bool) : Tlp :=
  let o := tlpHdr c.flit c.bytes
  { kind := if c.write then .cfgWr else .cfgRd, reqId := c.reqId, tag := c.tag, len := 4, tc := 0, flit := c.flit, poisoned := c.poisoned
    nullified := false, ide := c.ide, digest := c.digest, pasid := none, cplLen := 0
    bytes := if zero then c.bytes.set o (c.bytes.getD o 0 &&& 0xFE) else c.bytes }

/-- A request below virtual port v: it goes on as a packet of class 4 to the device or forwarded VF behind it (R186, R238); the guest's
view of a VF's BARs is the device's own. The owner's request does not reach a VF that is forwarded (R184), and a guest's to a VF whose port
is down is answered as R195 states (R479). -/
def cfgBelow (s : State) (h v : Nat) (c : CfgReq) : State :=
  let P := (s.dom h).upPort
  let on := fun (s : State) => s.tlpArrive P (cfgTlp c (c.bus == s.secBus h v))
  let up := fun (Q : Nat) => s.forwarding && (s.portUp Q || s.on (statA Q) F.GRP_PCIE_STAT_DPC)
  match s.portOfVdev h v with
  | some Q =>
    if (s.vfEntOf Q (256 * c.bus + 8 * c.dev + c.fnc)).isSome then s.cfgRefuse h (2 + v) c
    else if up Q then on s else s.cfgRefuse h (2 + v) c
  | none =>
    match (if c.bus = s.secBus h v ∧ c.dev = 0 then (s.vfsBehind h v).find? (fun e => e.gfn == c.fnc) else none) with
    | none => s.cfgRefuse h (2 + v) c
    | some e =>
      match barOf c.reg with
      | some (k, hi) =>
        if c.write then (s.guestBarPut e k hi c.value.toNat).cfgAnswer h c .sc 0
        else s.cfgAnswer h c .sc (BitVec.ofNat 32 (s.guestBar e k hi))
      | none =>
        if up e.pport then on s
        else (s.inc (cnt2A e.pport) F.GRP_PCIE_CNT2_CTO_SYN 1).cfgAnswer h c (s.dpcStatus h v) 0

/-- A virtual port stands at device n of a domain's internal bus (R176, R184). -/
def hasVport (s : State) (h n : Nat) : Bool := (s.portOfVdev h n).isSome || !(s.vfsBehind h n).isEmpty

/-- The target of a configuration request (R176 to R178): type 0 names the upstream device; type 1 the internal bus, which is the
secondary bus of the virtual upstream port, or a bus behind a virtual port whose bus numbers hold it. -/
def cfgTarget (s : State) (h : Nat) (c : CfgReq) : CfgTo :=
  if !c.ty1 then (if c.dev = 0 ∧ c.fnc < 2 then .own c.fnc else .nowhere)
  else
    let w := (s.cfgWord h 0 .busNumbers).toNat
    if c.bus = bits w 8 8 then (if c.fnc = 0 ∧ s.hasVport h c.dev = true then .own (2 + c.dev) else .nowhere)
    else if bits w 8 8 < c.bus ∧ c.bus ≤ bits w 16 8 then
      match (upTo 32).find? fun n =>
          let x := (s.cfgWord h (2 + n) .busNumbers).toNat
          s.hasVport h n && decide (bits x 8 8 ≤ c.bus ∧ c.bus ≤ bits x 16 8) with
      | some n => .below n
      | none => .nowhere
    else .nowhere

/-- A configuration request of a domain's host (R176 to R178, R201). One that arrives before the domain is ready is answered with Request
Retry Status (R63). -/
def cfgIn (s : State) (h : Nat) (c : CfgReq) : State :=
  if !(s.dom h).on || !s.portUp (s.dom h).upPort then s
  else if s.hdState h < 2 then s.cfgAnswer h c .rrs 0
  else match s.cfgTarget h c with
    | .nowhere => s.cfgRefuse h 0 c
    | .own fn => if fn = 1 ∧ s.hdState h = 3 then s.cfgAnswer h c .rrs 0 else s.cfgServe h fn c
    | .below v => s.cfgBelow h v c

/-! ### BAR0 of the DMF (R180, R181, R569) -/

/-- One register's part of an access, as the checks see it. -/
def barPiece (m : Nat) (x : BarAcc) (w : Nat) : Acc :=
  let lo := max w x.off
  let v := leNat ((upTo 4).map fun i => (carried x.off x.data (w + i)).getD 0)
  { Acc.word m x.write lo v with size := min (w + 4) (x.off + x.size) - lo }

/-- A piece of a byte-space access: up to 64 bytes. -/
def barChunk (m : Nat) (x : BarAcc) (o n : Nat) : Acc := { Acc.word m x.write o 0 with size := n }

/-- The first and the last register of an access, at which the whole is checked (R449). -/
def barEnds (x : BarAcc) : List Nat := let ws := wordsOf x.off x.size; [ws.head?, ws.getLast?].filterMap id

/-- A write of the CSR window: refused whole when one of its ends is (R449), else register by register. -/
def csrBarWrite (s : State) (m : Nat) (x : BarAcc) : State :=
  if byteSpace x.off then
    forAll (chunksOf x.off x.size) (fun p s =>
      s.checked (barChunk m x p.1 p.2) fun s => s.busWrite m p.1 ((x.data.drop (p.1 - x.off)).take p.2)) s
  else
    let ws := wordsOf x.off x.size
    let ends := barEnds x
    match ends.find? (fun w => (s.checkAcc (barPiece m x w)).isSome) with
    | some w => s.checked (barPiece m x w) id
    | none => forAll ws (fun w s =>
        if ends.contains w then s.putWord m x.off x.data w
        else s.checked (barPiece m x w) fun s => s.putWord m x.off x.data w) s

/-- Registers read in ascending order; one that is refused reads 0. -/
def barWords (m : Nat) (x : BarAcc) (ends : List Nat) : List Nat → State → State × List Byte
  | [], s => (s, [])
  | w :: t, s =>
    let (s, v) := if ends.contains w || (s.checkAcc (barPiece m x w)).isNone then s.getWord m w
      else (s.checked (barPiece m x w) id, 0)
    let (s, bs) := barWords m x ends t s
    (s, leBytes 4 v.toNat ++ bs)

/-- Pieces of a byte space read in ascending order; one that is refused reads 0. -/
def barChunks (m : Nat) (x : BarAcc) : List (Nat × Nat) → State → State × List Byte
  | [], s => (s, [])
  | p :: t, s =>
    let (s, b) := if (s.checkAcc (barChunk m x p.1 p.2)).isNone then s.busRead m p.1 p.2
      else (s.checked (barChunk m x p.1 p.2) id, List.replicate p.2 0)
    let (s, bs) := barChunks m x t s
    (s, b ++ bs)

/-- Where a read of the CSR window is held at a fence. -/
def barHold (s : State) (h : Nat) (x : BarAcc) : Option (List Nat × Nat × List Nat) :=
  let m := 16 + h
  let ok := fun w => (s.checkAcc (barPiece m x w)).isNone
  if decide (0x4000000 ≤ x.off) || byteSpace x.off || (barEnds x).any (fun w => !ok w) then none
  else s.fenceSplit m ok false (wordsOf x.off x.size)

/-- A read of the CSR window. -/
def csrBarRead (s : State) (m : Nat) (x : BarAcc) : State × List Byte :=
  if byteSpace x.off then barChunks m x (chunksOf x.off x.size) s
  else
    let ws := wordsOf x.off x.size
    let ends := barEnds x
    match ends.find? (fun w => (s.checkAcc (barPiece m x w)).isSome) with
    | some w => (s.checked (barPiece m x w) id, List.replicate x.size 0)
    | none =>
      let (s, bs) := barWords m x ends ws s
      (s, (bs.drop (x.off % 4)).take x.size)

/-- A write to a doorbell page (R423): which doorbell it is, none for another offset, size or alignment. -/
def bellOf (x : BarAcc) : Option Bool :=
  if x.size ≠ 4 ∨ x.data.all (·.isSome) = false then none
  else if x.off % 4096 = 0 then some false
  else if x.off % 4096 = 8 then some true
  else none

/-- A write to BAR0. -/
def barWrite (s : State) (h : Nat) (x : BarAcc) : State :=
  if x.off < 0x4000000 then s.csrBarWrite (16 + h) x
  else if x.off < 0x5000000 then
    s.doorbell h ((x.off - 0x4000000) / 4096) (bellOf x) (BitVec.ofNat 32 (leNat (x.data.map fun b => b.getD 0)))
  else if 0x7000000 ≤ x.off ∧ x.off < 0x7000200 then
    forAll (wordsOf x.off x.size) (fun w s =>
      match carried x.off x.data w, carried x.off x.data (w + 1), carried x.off x.data (w + 2), carried x.off x.data (w + 3) with
      | some a, some b, some c, some d => s.msixWrite h (w - 0x7000000) (leNat [a, b, c, d])
      | _, _, _, _ => s) s
  else s

/-- A read of BAR0: reserved offsets and doorbell pages read 0. -/
def barReadAll (s : State) (h : Nat) (x : BarAcc) : State × List Byte :=
  if x.off < 0x4000000 then s.csrBarRead (16 + h) x
  else if 0x7000000 ≤ x.off then
    (s, (((wordsOf x.off x.size).flatMap fun w => leBytes 4 (s.msixRead h (w - 0x7000000))).drop (x.off % 4)).take x.size)
  else (s, List.replicate x.size 0)

/-- An access of a host to BAR0 of its DMF, which decodes it while Memory Space Enable is 1; otherwise no route matches it
(R191). A read of a fence that is not met has not returned. -/
def barIn (s : State) (h : Nat) (x : BarAcc) : State :=
  let P := (s.dom h).upPort
  if !(s.dom h).on || !s.portUp P || s.nightShut (16 + h) then s
  else if !bit (s.cfgWord h 1 .command).toNat 1 then
    let v := s.reqVport h x.reqId
    let s := (s.urSent v.1).aerIn v.1 h v.2 1
    if x.write then s else s.emit (.dmfAnswer h x.reqId x.tag .ur [])
  else if x.write then s.barWrite h x
  else match s.barHold h x with
    | some (pre, w, t) =>
      let r := barWords (16 + h) x (barEnds x) pre s
      r.1.fenceHold (r.1.fenceRd (16 + h) w (.bar h x) r.2 t)
    | none =>
      let r := s.barReadAll h x
      r.1.emit (.dmfAnswer h x.reqId x.tag .sc r.2)

end State

/-! ### The commands -/

/-- CONFIG_REQUEST (R176). -/
def execConfigRequest (h : Nat) (c : CfgReq) (s : State) : Res' := run (.configRequest h c) s fun s => s.cfgIn h c

/-- DMF_BAR_ACCESS (R181). -/
def execDmfBarAccess (h : Nat) (a : BarAcc) (s : State) : Res' := run (.dmfBarAccess h a) s fun s => s.barIn h a

/-- DMF_BME_WRITE (R199): the DMF's Command register, written with Bus Master Enable changed and the rest as it stands. -/
def execDmfBmeWrite (h : Nat) (on : Bool) (s : State) : Res' :=
  run (.dmfBmeWrite h on) s fun s =>
    if !(s.dom h).on || !s.portUp (s.dom h).upPort || s.hdState h == 3 then s
    else
      let w := s.cfgWord h 1 .command
      s.dmfWrite h .command (if on then w ||| 4 else w &&& ~~~4)

/-- HOST_READ_COMPLETION (R199). -/
def execHostReadCompletion (h tag : Nat) (st : CplStatus) (data : List Byte) (s : State) : Res' :=
  run (.hostReadCompletion h tag st data) s fun s => s.readEnd h tag st data

/-- DMF_COMPLETION_TIMEOUT (R183). -/
def execDmfCompletionTimeout (h tag : Nat) (s : State) : Res' :=
  runOk (okDmfCompletionTimeout h) s fun s => s.readEnd h tag .timeout []

end Sys2Proof.Machine
end

