-- ==== Sys2Proof/Machine/Dmf.lean ====
section
/-! DEFINITION. Requests forwarded to an upstream port that reach the DMF (R329): they act as the accesses of a host to the BAR that holds
their address (R181, R403). Header fields are at the places of the PCI Express standard (notes/assumptions/27.md). -/

namespace Sys2Proof.Machine

/-- The bytes of the words behind a FLIT-mode header that its OHC bits announce. -/
def ohcBytes (b : List Byte) : Nat := if 0 < (b.getD 1 0).toNat % 32 then
    4 * ((upTo 3).filter fun i => bit (b.getD 1 0).toNat i).length + 4 * [0, 1, 2, 4].getD (bits (b.getD 1 0).toNat 3 2) 0
  else 0

/-- The byte enables of a memory request's first and last word: byte 7 of a non-FLIT header, byte 3 of OHC-A in FLIT mode; a FLIT-mode
request without OHC-A has all bytes enabled. -/
def byteEnables (t : Tlp) : Nat :=
  let o := tlpHdr t.flit t.bytes
  let n := if bit (t.bytes.getD o 0).toNat 5 then 16 else 12
  if !t.flit then (t.bytes.getD (o + 7) 0).toNat
  else if bit (t.bytes.getD 1 0).toNat 0 then (t.bytes.getD (n + 3) 0).toNat
  else if t.len ≤ 4 then 0x0F else 0xFF

/-- Whether byte `i` of a memory request's words is enabled. -/
def enabledAt (t : Tlp) (i : Nat) : Bool :=
  let be := byteEnables t
  if i < 4 then bit be i else if t.len ≤ i + 4 then bit be (4 + i % 4) else true

/-- The bytes of the words that a memory write carries, absent where they are not enabled. -/
def writeData (t : Tlp) : List (Option Byte) :=
  let o := tlpHdr t.flit t.bytes
  let p := o + (if bit (t.bytes.getD o 0).toNat 5 then 16 else 12) + (if t.flit then ohcBytes t.bytes else 0)
  (upTo t.len).map fun i => if enabledAt t i then t.bytes[p + i]? else none

/-- The enabled bytes of a memory request as an offset into its words and a length; both 0 where none is. -/
def enabledSpan (t : Tlp) : Nat × Nat :=
  let l := (upTo t.len).filter (enabledAt t)
  match l.head?, l.getLast? with
  | some a, some b => (a, b + 1 - a)
  | _, _ => (0, 0)

namespace State

/-- One request delivered to domain h's DMF: an access to BAR0, or to an aperture of BAR2 or BAR4. -/
def dmfServe (s : State) (h : Nat) (t : Tlp) : State :=
  let a := tlpAddr t.flit t.bytes / 4 * 4
  match s.inDmf h a with
  | none => s
  | some n =>
    let off := a - (s.dmfBar h n).1
    let sp := enabledSpan t
    let d := writeData t
    let w := decide (t.kind = .mwr)
    if n = 0 then
      (if w && sp.2 == 0 then s
       else s.barIn h { write := w, off := off + sp.1, size := sp.2, data := if w then (d.drop sp.1).take sp.2 else [], reqId := t.reqId, tag := t.tag })
    else if s.get R.GLB_MODE F.GLB_MODE_CUR = 7 then s
    else if w then s.apWrite h { bar := n, off := off, tc := t.tc, data := d, reqId := t.reqId }
    else s.apRead h { bar := n, off := off + sp.1, len := sp.2, tc := t.tc, reqId := t.reqId, tag := t.tag }

/-- Every request that the command delivered to a DMF is served, in order. -/
def dmfDrain (s : State) : State :=
  forAll s.sett.dmfIn (fun x s => s.dmfServe x.1 x.2) (s.setSett fun t => { t with dmfIn := [] })

end State

open State

/-- TLP_RECEIVE (R238). -/
def execTlpReceive (port : Nat) (t : Tlp) (s : State) : Res' := runLive (.tlpReceive port t) s fun s => (s.tlpIn port t).dmfDrain

/-- DESCRIPTOR_RELEASE (R23, R329). -/
def execDescriptorRelease (port tc : Nat) (s : State) : Res' :=
  runLive (.descriptorRelease port tc) s fun s => (s.releaseNext port tc).dmfDrain

end Sys2Proof.Machine
end

