-- ==== Sys2Proof/Machine/Guards.lean ====
section
/-! DEFINITION. The fence and the lock of the guards (13_access_control.md). The checks themselves stand in Access.lean. -/

namespace Sys2Proof.Machine

/-- GUARD_FENCE (R454): the read returns 0 once every access checked before it has retired, and is held until then: FLASH_READs that
have not written their buffer, and reads that a fence holds. -/
def execGuardFence (m : Nat) (s : State) : Res' :=
  run (.guardFence m) s fun s => s.checked (.word m false R.GRD_FENCE 0) fun s => s.fenceWord m R.GRD_FENCE

/-- GATE_LOCK (R444): a write of a gate's control register; a locked gate ignores it until the next warm or cold reset. -/
def execGateLock (m k : Nat) (v : Word) (s : State) : Res' := run (.gateLock m k v) s fun s =>
  s.cmdWrite m (R.GRD_GATE_CTL k) v fun s => s.store m (R.GRD_GATE_CTL k) v

end Sys2Proof.Machine
end

