-- ==== Sys2Proof/Machine/Kolzen.lean ====
section
/-! DEFINITION. The Kolzen instructions (08_kolzen_isa.md), one meaning for each: the named thread issues its next
instruction, which acts when it has the row's opcode and the thread is the one its fox issues next (R281, R283, R291, R316;
notes/assumptions/21.md). -/

namespace Sys2Proof.Machine

open State

/-- Set a register and the flags from a result. -/
def withResult (w : DWord) (j : Job) (f : Flagged) : Job := (j.setReg (kD w) f.r).setFlags f

/-- NOP (R287). -/
def execKNop (th : Thr) (s : State) : Res' := run (.kNop th) s fun s => s.issueReg th 0x00 fun _ j => j

/-- MOV: D := s (R282, R287). -/
def execKMov (th : Thr) (s : State) : Res' :=
  run (.kMov th) s fun s => s.issueReg th 0x01 fun w j => j.setReg (kD w) (j.opS w)

/-- MOVH: IMM to bits 63:32 of D, bits 31:0 kept (R288). -/
def execKMovh (th : Thr) (s : State) : Res' :=
  run (.kMovh th) s fun s => s.issueReg th 0x02 fun w j =>
    j.setReg (kD w) (BitVec.ofNat 64 (kImm w * 2 ^ 32 + (j.reg (kD w)).toNat % 2 ^ 32))

/-- ADD (R288, R289). -/
def execKAdd (th : Thr) (s : State) : Res' :=
  run (.kAdd th) s fun s => s.issueReg th 0x03 fun w j => withResult w j (addFlags (j.reg (kA w)) (j.opS w))

/-- SUB (R288, R289). -/
def execKSub (th : Thr) (s : State) : Res' :=
  run (.kSub th) s fun s => s.issueReg th 0x04 fun w j => withResult w j (subFlags (j.reg (kA w)) (j.opS w))

/-- AND (R282, R289). -/
def execKAnd (th : Thr) (s : State) : Res' :=
  run (.kAnd th) s fun s => s.issueReg th 0x05 fun w j => withResult w j (logicFlags (j.reg (kA w) &&& j.opZ w))

/-- OR. -/
def execKOr (th : Thr) (s : State) : Res' :=
  run (.kOr th) s fun s => s.issueReg th 0x06 fun w j => withResult w j (logicFlags (j.reg (kA w) ||| j.opZ w))

/-- XOR. -/
def execKXor (th : Thr) (s : State) : Res' :=
  run (.kXor th) s fun s => s.issueReg th 0x07 fun w j => withResult w j (logicFlags (j.reg (kA w) ^^^ j.opZ w))

/-- SHL (R288, R289). -/
def execKShl (th : Thr) (s : State) : Res' :=
  run (.kShl th) s fun s => s.issueReg th 0x08 fun w j => withResult w j (shlFlags (j.reg (kA w)) (j.opZ w))

/-- SHR. -/
def execKShr (th : Thr) (s : State) : Res' :=
  run (.kShr th) s fun s => s.issueReg th 0x09 fun w j => withResult w j (shrFlags (j.reg (kA w)) (j.opZ w))

/-- SAR. -/
def execKSar (th : Thr) (s : State) : Res' :=
  run (.kSar th) s fun s => s.issueReg th 0x0A fun w j => withResult w j (sarFlags (j.reg (kA w)) (j.opZ w))

/-- CMP: the result is discarded (R289). -/
def execKCmp (th : Thr) (s : State) : Res' :=
  run (.kCmp th) s fun s => s.issueReg th 0x0B fun w j => j.setFlags (subFlags (j.reg (kA w)) (j.opS w))

/-- TST: the result is discarded. -/
def execKTst (th : Thr) (s : State) : Res' :=
  run (.kTst th) s fun s => s.issueReg th 0x0C fun w j => j.setFlags (logicFlags (j.reg (kA w) &&& j.opZ w))

/-- CRC: the low 32 bits of D updated with the 8 bytes of gA, no final XOR, bits 63:32 become 0 (R302). -/
def execKCrc (th : Thr) (s : State) : Res' :=
  run (.kCrc th) s fun s => s.issueReg th 0x0D fun w j =>
    j.setReg (kD w) (BitVec.ofNat 64 (crc32cFrom ((j.reg (kD w)).toNat % 2 ^ 32) (leBytes 8 (j.reg (kA w)).toNat)))

/-- TIME: D := timebase in ns (R288). -/
def execKTime (th : Thr) (s : State) : Res' :=
  run (.kTime th) s fun s => s.issue th 0x0E fun w j s => s.goOn th (j.setReg (kD w) (BitVec.ofNat 64 s.now))

/-- EXT (R292, R294, R296). -/
def execKExt (th : Thr) (s : State) : Res' :=
  run (.kExt th) s fun s => s.issue th 0x10 fun w j s =>
    let off := j.viewOff w
    if 128 < off + fN w + 1 then s.except th j 4 0
    else s.goOn th (j.setReg (kD w) (BitVec.ofNat 64 (bits (j.viewVal w off) (fS w) (fW w + 1))))

/-- INS (R292, R295, R296). -/
def execKIns (th : Thr) (s : State) : Res' :=
  run (.kIns th) s fun s => s.issue th 0x11 fun w j s =>
    let off := j.viewOff w
    if 128 < off + fN w + 1 then s.except th j 4 0
    else
      let old := j.viewVal w off
      let n := fW w + 1
      s.goOn th (j.viewPut w off (old - bits old (fS w) n * 2 ^ fS w + (j.reg (kB w)).toNat % 2 ^ n * 2 ^ fS w))

/-- Bcc (R290): taken to IMM[13:0], else the next instruction. A taken branch enters the path hash and count of the spoor
record (R562). -/
def execKBcc (th : Thr) (s : State) : Res' :=
  run (.kBcc th) s fun s => s.issue th 0x18 fun w j s =>
    let taken := condHolds (kX w % 16) j.z j.n j.c j.v
    let j := { j with bcc := j.bcc + 1, path := (j.path * 2 + b2n taken) % 2 ^ 32 }
    if taken then s.setJob th (some { j with pc := kImm w % 16384, ready := j.ready + 1 }) else s.goOn th j

/-- LKD (R255, R297, R299). -/
def execKLkd (th : Thr) (s : State) : Res' :=
  run (.kLkd th) s fun s => s.issue th 0x20 fun w j s =>
    s.lookupStart th w j 1 fun d s => s.request th 0 1 w d j fun j s => s.lkd th w d j

/-- LKH (R256, R297): two accesses. -/
def execKLkh (th : Thr) (s : State) : Res' :=
  run (.kLkh th) s fun s => s.issue th 0x21 fun w j s =>
    s.lookupStart th w j 2 fun d s => s.request th 0 2 w d j fun j s => s.lkh th w d j

/-- LKR (R256, R300). -/
def execKLkr (th : Thr) (s : State) : Res' :=
  run (.kLkr th) s fun s => s.issue th 0x22 fun w j s => s.lookupStart th w j 3 fun d s => s.lkr th w d j

/-- LKT (R257, R297). -/
def execKLkt (th : Thr) (s : State) : Res' :=
  run (.kLkt th) s fun s => s.issue th 0x23 fun w j s =>
    s.lookupStart th w j 4 fun d s => s.request th 1 1 w d j fun j s => s.lkt th w d j

/-- RESOURCE_SLOT_SERVE (R285). -/
def execResourceSlotServe (d : Nat) (res : Res) (s : State) : Res' :=
  run (.resourceSlotServe d res) s fun s => s.serve d (resNum res)

/-- MTR (R304 to R306). -/
def execKMtr (th : Thr) (s : State) : Res' :=
  run (.kMtr th) s fun s => s.issue th 0x28 fun w j s =>
    let i := if kV w then idxV j w else kImm w
    if 1023 < i then s.except th j 5 0 else s.request th 2 1 w {} j fun j s => s.mtr th w j i

/-- CNT (R309, R310). -/
def execKCnt (th : Thr) (s : State) : Res' :=
  run (.kCnt th) s fun s => s.issue th 0x29 fun w j s =>
    if 8191 < (cntOperands j w).1 then s.except th j 5 0 else s.cnt th w j

/-- COUNTER_UPDATE_APPLY (R310). -/
def execCounterUpdateApply (d : Nat) (s : State) : Res' := run (.counterUpdateApply d) s fun s => s.applyPost d

/-- SETD (R246, R312). -/
def execKSetd (th : Thr) (s : State) : Res' :=
  run (.kSetd th) s fun s => s.issue th 0x30 fun w j s =>
    let v := opD j w
    if fieldMax (kX w) < v then s.except th j 6 0 else s.goOn th { j with desc := j.desc.put (kX w) v }

/-- PUSH (R313). -/
def execKPush (th : Thr) (s : State) : Res' :=
  run (.kPush th) s fun s => s.issue th 0x31 fun w j s =>
    let n := j.desc.pushn
    if 4 ≤ n then s.except th j 6 0
    else s.goOn th { j with desc := (j.desc.put (10 + n) (opD j w % 2 ^ 32)).put 9 (n + 1) }

/-- SMPL (R314). -/
def execKSmpl (th : Thr) (s : State) : Res' :=
  run (.kSmpl th) s fun s => s.issueReg th 0x38 fun w j =>
    { j with tag := opD j w % 2 ^ 32, desc := if kX w % 2 = 1 then j.desc.put 5 1 else j.desc }

/-- END (R243, R315). -/
def execKEnd (th : Thr) (s : State) : Res' := run (.kEnd th) s fun s => s.issue th 0x3F fun _ j s => s.endJob th j

/-- JOB_WATCHDOG (R273): a job that has not ended LIMIT cycles after its dispatch ends with exception WATCHDOG. -/
def execJobWatchdog (th : Thr) (s : State) : Res' :=
  run (.jobWatchdog th) s fun s => match s.job th with
    | some j => s.except th { j with act := j.begun + max 64 (s.get (R.DEN_EXC_CFG th.den) F.DEN_EXC_CFG_LIMIT) } 1 0
    | none => s

/-- JOB_DISPATCH (R242). -/
def execJobDispatch (d : Nat) (s : State) : Res' := runLive (.jobDispatch d) s fun s => s.dispatch d

end Sys2Proof.Machine
end

