-- ==== Sys2Proof/Machine/Settings.lean ====
section
/-! DEFINITION. The settings records of Boot (R71 to R74, 02_modes_and_boot.md), and what of the check-value engine reads the CSR
space (R544, R549, 18_check_values.md). -/

namespace Sys2Proof.Machine

/-- The fields of a settings record (R71). -/
structure SetRec where
  off : Nat
  mask : Word
  value : Word
  delay : Nat
  poll : Bool
  deriving DecidableEq, Repr

def setRec (b : List Byte) : SetRec :=
  ⟨fieldAt b 0 4, BitVec.ofNat 32 (fieldAt b 4 4), BitVec.ofNat 32 (fieldAt b 8 4), fieldAt b 12 2, bit (fieldAt b 14 2) 0⟩

/-- Registers that no record may name (R72). -/
def SetRec.forbidden (r : SetRec) : Bool :=
  let a := r.off / 4 * 4
  blockBit a == some 3
    || [R.GLB_MODE, R.GLB_RESET, R.GLB_GRP_RESET, R.GLB_BOOT_STATUS, R.GLB_BOOT_CONFIRM].contains a

namespace State

/-! ### Settings records -/

def setStage (s : State) (t : BootStage) : State := { s with boot := { s.boot with stage := t } }

/-- The record at hand, with whether it comes from the image. -/
def recAt (s : State) : Option (SetRec × Bool) :=
  (s.boot.recs[s.boot.recIdx]?).map fun b => (setRec b, decide (s.boot.factory ≤ s.boot.recIdx))

/-- Code 7 at the record at hand (R65, R72, R73). -/
def recFail (s : State) : State :=
  (s.set R.GLB_BOOT_STATUS F.GLB_BOOT_STATUS_REC (s.boot.recIdx - s.boot.factory)).failLate 7 4

/-- On to the next record, or to loading. -/
def recGo (s : State) : State := s.setStage (if s.boot.recIdx < s.boot.recs.length then .settings else .load)

/-- The record at hand is done; its delay, if any, follows. -/
def recDone (s : State) (delay : Nat) : State :=
  let s := { s with boot := { s.boot with recIdx := s.boot.recIdx + 1 } }
  if delay = 0 then s.recGo else s.setStage .delay

/-- A POLL record reads its register once: met, or waiting. -/
def recPoll (s : State) (r : SetRec) : Bool × State :=
  let x := s.wordRead 8 r.off
  ((x.2.2 &&& r.mask) == (r.value &&& r.mask), x.2.1)

/-- The record at hand is applied by the security core, master 8 (R72, R73). -/
def recApply (s : State) : State :=
  if s.boot.stage ≠ .settings ∧ s.boot.stage ≠ .poll then s
  else match s.recAt with
    | none => s.setStage .load
    | some (r, img) =>
      let first := decide (s.boot.stage = .settings)
      let total := s.boot.delays + (if img && first then r.delay else 0)
      if r.forbidden || (img && (decide (16384 ≤ s.boot.recIdx - s.boot.factory) || decide (100000 < total))) then s.recFail
      else
        let s := { s with boot := { s.boot with delays := total } }
        if r.poll then
          let x := s.recPoll r
          if x.1 then x.2.recDone 0 else x.2.setStage .poll
        else
          let x := s.wordRead 8 r.off
          (x.2.1.wordWrite 8 r.off ((x.2.2 &&& ~~~r.mask) ||| (r.value &&& r.mask))).2.recDone r.delay

/-- The delay after a record ends. -/
def recDelayEnd (s : State) : State := if s.boot.stage = .delay then s.recGo else s

/-- A POLL record's time is over: unmet, it fails the image. -/
def recPollEnd (s : State) : State :=
  if s.boot.stage ≠ .poll then s
  else match s.recAt with
    | none => s
    | some (r, _) =>
      let x := s.recPoll r
      if x.1 then x.2.recDone 0 else x.2.recFail

/-! ### Reads of the check-value engine (R438, R544) -/

/-- Bytes of the CSR space in accesses of up to 64 B that never cross 4 KiB, made by master 4: none once one is refused. -/
def chkRead : Nat → Nat → Nat → State → State × Option (List Byte)
  | 0, _, _, s => (s, some [])
  | fuel + 1, a, n, s =>
    if n = 0 then (s, some [])
    else
      let k := min n (min 64 (4096 - a % 4096))
      let acc : Acc := { Acc.word 4 false a 0 with size := k }
      match s.checkAcc acc with
      | some (kd, i, x) => (s.violate acc kd i x, none)
      | none =>
        let r := s.busRead 4 a k
        match chkRead fuel (a + k) (n - k) r.1 with
        | (s, some bs) => (s, some (r.2 ++ bs))
        | (s, none) => (s, none)

/-- The range passes the end of the space (R545 result 7). -/
def rangeBad (space addr len : Nat) : Bool := decide ((if space = 0 then csrSpan else 2 ^ 64) < addr + len)

/-- The first started job runs, when none runs (R544, R545). -/
def jobRun (s : State) : State :=
  match s.chk.jobs with
  | [] => s
  | x :: _ =>
    if x.running || x.result.isSome then s
    else
      let x := { x with running := true }
      let s := (s.setChkJob x).set (R.CHK_JSTAT x.j) F.CHK_JSTAT_STATE 2
      let sp := fldOf x.cfg F.CHK_JOB_CFG_SPACE
      if rangeBad sp x.addr x.len || (sp == 1 && !(s.dom (fldOf x.cfg F.CHK_JOB_CFG_HD)).on) then s.chkDecide x 7 0
      else if sp = 1 then s.chkHostNext x
      else match chkRead (x.len + 1) x.addr x.len s with
        | (s, some bs) => s.chkTaken x bs
        | (s, none) => s.chkDecide x 4 0

/-- A record's bytes, from the CSR space or as the host read gave them; none when the read fails (R550). -/
def recRead (s : State) (r : Nat) (data : HostBytes) : State × Option (List Byte) :=
  let a := s.recAddr r
  let c := R.CHK_REC_CFG r
  let h := s.get c F.CHK_REC_CFG_HD
  if s.on c F.CHK_REC_CFG_SPACE then
    (if rangeBad 1 a 12 || !(s.dom h).on || !s.dmfOk h then (s, none)
     else match data with
      | .ok b => (s.emit (.fetched h a (12 + fieldAt b 4 2 % 4085)), some (b.take 4096))
      | .error => (s.emit (.fetched h a 12), none))
  else if rangeBad 0 a 12 then (s, none)
  else match chkRead 9 a 8 s with
    | (s, none) => (s, none)
    | (s, some hd) =>
      let n := fieldAt hd 4 2
      if n < 4 ∨ 4084 < n ∨ n % 4 ≠ 0 then (s, some hd)
      else if rangeBad 0 a (12 + n) then (s, none)
      else match chkRead (n + 5) (a + 8) (n + 4) s with
        | (s, some bs) => (s, some (hd ++ bs))
        | (s, none) => (s, none)

/-- A read of a watched record (R549). -/
def recCheck (s : State) (r : Nat) (data : HostBytes) (repeated : Bool) : State :=
  if !s.on (R.CHK_REC_CFG r) F.CHK_REC_CFG_EN || (repeated && !(s.chkRec r).again) then s
  else
    let x := s.recRead r data
    x.1.recVerdict r repeated x.2

end State

/-! ### The commands -/

/-- SETTINGS_RECORD_APPLY (R72). -/
def execSettingsRecordApply (s : State) : Res' := run .settingsRecordApply s fun s => s.recApply

/-- SETTINGS_DELAY_END (R72). -/
def execSettingsDelayEnd (s : State) : Res' := run .settingsDelayEnd s fun s => s.recDelayEnd

/-- SETTINGS_POLL_TIMEOUT (R72). -/
def execSettingsPollTimeout (s : State) : Res' := run .settingsPollTimeout s fun s => s.recPollEnd

/-- CHECK_JOB_RUN (R544). -/
def execCheckJobRun (s : State) : Res' := runOk okCheckJobRun s fun s => s.jobRun

/-- RECORD_CHECK (R549). -/
def execRecordCheck (r : Nat) (data : HostBytes) (s : State) : Res' :=
  runOk (okRecordCheck r) s fun s => s.recCheck r data false

/-- RECORD_RECHECK (R549). -/
def execRecordRecheck (r : Nat) (data : HostBytes) (s : State) : Res' :=
  runOk (okRecordRecheck r) s fun s => s.recCheck r data true

end Sys2Proof.Machine
end

