-- ==== Sys2Proof/Machine/Dispatch.lean ====
section
/-! DEFINITION. The one dispatch: each command to its meaning, in the table's order. -/

namespace Sys2Proof.Machine

/-- A command's effect on everything but the queue. -/
def exec (i : Instr) (s : State) : Host.Outcome State Fault Refusal :=
  match i with
  | .registerWrite m addr v => Sys2Proof.Machine.execRegisterWrite m addr v s
  | .cpAccess a => Sys2Proof.Machine.execCpAccess a s
  | .guardFence m => Sys2Proof.Machine.execGuardFence m s
  | .gateLock m k v => Sys2Proof.Machine.execGateLock m k v s
  | .resetPinLow pin ns => Sys2Proof.Machine.execResetPinLow pin ns s
  | .coldReset m v => Sys2Proof.Machine.execColdReset m v s
  | .warmReset m v => Sys2Proof.Machine.execWarmReset m v s
  | .strapSample boot flash i3c => Sys2Proof.Machine.execStrapSample boot flash i3c s
  | .bootStart testsPass flashAnswers => Sys2Proof.Machine.execBootStart testsPass flashAnswers s
  | .imageHeaderCheck answers => Sys2Proof.Machine.execImageHeaderCheck answers s
  | .segmentCheck answers => Sys2Proof.Machine.execSegmentCheck answers s
  | .signatureVerify => Sys2Proof.Machine.execSignatureVerify s
  | .settingsRecordApply => Sys2Proof.Machine.execSettingsRecordApply s
  | .settingsDelayEnd => Sys2Proof.Machine.execSettingsDelayEnd s
  | .settingsPollTimeout => Sys2Proof.Machine.execSettingsPollTimeout s
  | .bootComplete => Sys2Proof.Machine.execBootComplete s
  | .bootConfirm m v => Sys2Proof.Machine.execBootConfirm m v s
  | .confirmTimeout => Sys2Proof.Machine.execConfirmTimeout s
  | .modeRequest m v => Sys2Proof.Machine.execModeRequest m v s
  | .modeTransitionComplete => Sys2Proof.Machine.execModeTransitionComplete s
  | .groupReset m v => Sys2Proof.Machine.execGroupReset m v s
  | .groupResetDone g => Sys2Proof.Machine.execGroupResetDone g s
  | .pcieLinkTrain port t => Sys2Proof.Machine.execPcieLinkTrain port t s
  | .pcieEqPhase g n rate rejected => Sys2Proof.Machine.execPcieEqPhase g n rate rejected s
  | .partnerPresetRequest g n tx => Sys2Proof.Machine.execPartnerPresetRequest g n tx s
  | .laneLock g n => Sys2Proof.Machine.execLaneLock g n s
  | .laneAligned g n inverted => Sys2Proof.Machine.execLaneAligned g n inverted s
  | .laneAlignLoss g n => Sys2Proof.Machine.execLaneAlignLoss g n s
  | .alignTimeout g n => Sys2Proof.Machine.execAlignTimeout g n s
  | .laneTrainingRecord g p n bytes => Sys2Proof.Machine.execLaneTrainingRecord g p n bytes s
  | .propose g p => Sys2Proof.Machine.execPropose g p s
  | .switchRate g p => Sys2Proof.Machine.execSwitchRate g p s
  | .rateIdleEnd g p => Sys2Proof.Machine.execRateIdleEnd g p s
  | .verifyEnd g p => Sys2Proof.Machine.execVerifyEnd g p s
  | .laneErrorWindow g n => Sys2Proof.Machine.execLaneErrorWindow g n s
  | .spareCmd m g v => Sys2Proof.Machine.execSpareCmd m g v s
  | .spareAligned g p => Sys2Proof.Machine.execSpareAligned g p s
  | .eyeScan m g v => Sys2Proof.Machine.execEyeScan m g v s
  | .eyeScanDone g errs => Sys2Proof.Machine.execEyeScanDone g errs s
  | .marginCommand g n c => Sys2Proof.Machine.execMarginCommand g n c s
  | .eqOverride m g v => Sys2Proof.Machine.execEqOverride m g v s
  | .flitTransmit g p => Sys2Proof.Machine.execFlitTransmit g p s
  | .flitReceive g p f errs => Sys2Proof.Machine.execFlitReceive g p f errs s
  | .replayTimeout g p => Sys2Proof.Machine.execReplayTimeout g p s
  | .creditTimeout g p cls => Sys2Proof.Machine.execCreditTimeout g p cls s
  | .initTimeout g p => Sys2Proof.Machine.execInitTimeout g p s
  | .retrainPortResetDone g p => Sys2Proof.Machine.execRetrainPortResetDone g p s
  | .swapReq g p lane => Sys2Proof.Machine.execSwapReq g p lane s
  | .swapReady g p lane => Sys2Proof.Machine.execSwapReady g p lane s
  | .swapGo g p lane => Sys2Proof.Machine.execSwapGo g p lane s
  | .swapAbort g p lane reason => Sys2Proof.Machine.execSwapAbort g p lane reason s
  | .retrainReq g p op => Sys2Proof.Machine.execRetrainReq g p op s
  | .swapBlockEnd g p => Sys2Proof.Machine.execSwapBlockEnd g p s
  | .swapTimeout g p => Sys2Proof.Machine.execSwapTimeout g p s
  | .linkCmdRetrain m g p => Sys2Proof.Machine.execLinkCmdRetrain m g p s
  | .linkCmdRetrainFull m g p => Sys2Proof.Machine.execLinkCmdRetrainFull m g p s
  | .linkCmdDisable m g p => Sys2Proof.Machine.execLinkCmdDisable m g p s
  | .linkCmdEnable m g p => Sys2Proof.Machine.execLinkCmdEnable m g p s
  | .hostDomainEnable m h v => Sys2Proof.Machine.execHostDomainEnable m h v s
  | .hostDomainDisable m h v => Sys2Proof.Machine.execHostDomainDisable m h v s
  | .tlpReceive port t => Sys2Proof.Machine.execTlpReceive port t s
  | .configRequest h c => Sys2Proof.Machine.execConfigRequest h c s
  | .upstreamReset h linkDown => Sys2Proof.Machine.execUpstreamReset h linkDown s
  | .secondaryBusReset h vdev => Sys2Proof.Machine.execSecondaryBusReset h vdev s
  | .portReset m g p => Sys2Proof.Machine.execPortReset m g p s
  | .pciePortDisable m g p => Sys2Proof.Machine.execPciePortDisable m g p s
  | .pciePortEnable m g p => Sys2Proof.Machine.execPciePortEnable m g p s
  | .dmfBarAccess h a => Sys2Proof.Machine.execDmfBarAccess h a s
  | .trackedTimeout port tag => Sys2Proof.Machine.execTrackedTimeout port tag s
  | .dpcTrigger port cause => Sys2Proof.Machine.execDpcTrigger port cause s
  | .dpcRelease h vdev => Sys2Proof.Machine.execDpcRelease h vdev s
  | .dmfBmeWrite h on => Sys2Proof.Machine.execDmfBmeWrite h on s
  | .hostReadCompletion h tag st data => Sys2Proof.Machine.execHostReadCompletion h tag st data s
  | .dmfFlr h => Sys2Proof.Machine.execDmfFlr h s
  | .flrComplete h limit => Sys2Proof.Machine.execFlrComplete h limit s
  | .apertureYield a b => Sys2Proof.Machine.execApertureYield a b s
  | .apertureReissue a b => Sys2Proof.Machine.execApertureReissue a b s
  | .ingressResume port => Sys2Proof.Machine.execIngressResume port s
  | .jobDispatch d => Sys2Proof.Machine.execJobDispatch d s
  | .descriptorRelease port tc => Sys2Proof.Machine.execDescriptorRelease port tc s
  | .admissionRetry q => Sys2Proof.Machine.execAdmissionRetry q s
  | .egressSchedule port => Sys2Proof.Machine.execEgressSchedule port s
  | .cellRead port fails => Sys2Proof.Machine.execCellRead port fails s
  | .cutThroughWaitTimeout port => Sys2Proof.Machine.execCutThroughWaitTimeout port s
  | .quarterControl m v => Sys2Proof.Machine.execQuarterControl m v s
  | .quarterPowerUpDone q => Sys2Proof.Machine.execQuarterPowerUpDone q s
  | .jobWatchdog th => Sys2Proof.Machine.execJobWatchdog th s
  | .kNop th => Sys2Proof.Machine.execKNop th s
  | .kMov th => Sys2Proof.Machine.execKMov th s
  | .kMovh th => Sys2Proof.Machine.execKMovh th s
  | .kAdd th => Sys2Proof.Machine.execKAdd th s
  | .kSub th => Sys2Proof.Machine.execKSub th s
  | .kAnd th => Sys2Proof.Machine.execKAnd th s
  | .kOr th => Sys2Proof.Machine.execKOr th s
  | .kXor th => Sys2Proof.Machine.execKXor th s
  | .kShl th => Sys2Proof.Machine.execKShl th s
  | .kShr th => Sys2Proof.Machine.execKShr th s
  | .kSar th => Sys2Proof.Machine.execKSar th s
  | .kCmp th => Sys2Proof.Machine.execKCmp th s
  | .kTst th => Sys2Proof.Machine.execKTst th s
  | .kCrc th => Sys2Proof.Machine.execKCrc th s
  | .kTime th => Sys2Proof.Machine.execKTime th s
  | .kExt th => Sys2Proof.Machine.execKExt th s
  | .kIns th => Sys2Proof.Machine.execKIns th s
  | .kBcc th => Sys2Proof.Machine.execKBcc th s
  | .kLkd th => Sys2Proof.Machine.execKLkd th s
  | .kLkh th => Sys2Proof.Machine.execKLkh th s
  | .kLkr th => Sys2Proof.Machine.execKLkr th s
  | .kLkt th => Sys2Proof.Machine.execKLkt th s
  | .resourceSlotServe d res => Sys2Proof.Machine.execResourceSlotServe d res s
  | .kMtr th => Sys2Proof.Machine.execKMtr th s
  | .kCnt th => Sys2Proof.Machine.execKCnt th s
  | .counterUpdateApply d => Sys2Proof.Machine.execCounterUpdateApply d s
  | .kSetd th => Sys2Proof.Machine.execKSetd th s
  | .kPush th => Sys2Proof.Machine.execKPush th s
  | .kSmpl th => Sys2Proof.Machine.execKSmpl th s
  | .kEnd th => Sys2Proof.Machine.execKEnd th s
  | .eccRepair d loc => Sys2Proof.Machine.execEccRepair d loc s
  | .tableEntryWrite m v => Sys2Proof.Machine.execTableEntryWrite m v s
  | .tableWriterStep => Sys2Proof.Machine.execTableWriterStep s
  | .tableFence m => Sys2Proof.Machine.execTableFence m s
  | .programLoad m v => Sys2Proof.Machine.execProgramLoad m v s
  | .programSwitch m v => Sys2Proof.Machine.execProgramSwitch m v s
  | .denDrained d => Sys2Proof.Machine.execDenDrained d s
  | .progSelWrite m d v => Sys2Proof.Machine.execProgSelWrite m d v s
  | .meterCommit m d v => Sys2Proof.Machine.execMeterCommit m d v s
  | .meterRead m d v => Sys2Proof.Machine.execMeterRead m d v s
  | .counterSnap m d v => Sys2Proof.Machine.execCounterSnap m d v s
  | .heartbeatPeriod => Sys2Proof.Machine.execHeartbeatPeriod s
  | .heartbeat port msg => Sys2Proof.Machine.execHeartbeat port msg s
  | .heartbeatResponse msg => Sys2Proof.Machine.execHeartbeatResponse msg s
  | .heartbeatTick => Sys2Proof.Machine.execHeartbeatTick s
  | .managerListenEnd => Sys2Proof.Machine.execManagerListenEnd s
  | .probeReq msg => Sys2Proof.Machine.execProbeReq msg s
  | .probe port msg => Sys2Proof.Machine.execProbe port msg s
  | .probeResponse port msg => Sys2Proof.Machine.execProbeResponse port msg s
  | .probeTimeout => Sys2Proof.Machine.execProbeTimeout s
  | .assign port msg => Sys2Proof.Machine.execAssign port msg s
  | .ctlCsrRead msg => Sys2Proof.Machine.execCtlCsrRead msg s
  | .ctlCsrWrite msg => Sys2Proof.Machine.execCtlCsrWrite msg s
  | .tableWrite msg => Sys2Proof.Machine.execTableWrite msg s
  | .fabEvent msg => Sys2Proof.Machine.execFabEvent msg s
  | .eventResponse msg => Sys2Proof.Machine.execEventResponse msg s
  | .eventResendTimeout => Sys2Proof.Machine.execEventResendTimeout s
  | .takeover msg => Sys2Proof.Machine.execTakeover msg s
  | .windowOpen m v => Sys2Proof.Machine.execWindowOpen m v s
  | .windowRevoke m v => Sys2Proof.Machine.execWindowRevoke m v s
  | .revokeSlotStart => Sys2Proof.Machine.execRevokeSlotStart s
  | .revokeDrainDone w => Sys2Proof.Machine.execRevokeDrainDone w s
  | .windowFence m => Sys2Proof.Machine.execWindowFence m s
  | .sqDoorbell h page v => Sys2Proof.Machine.execSqDoorbell h page v s
  | .cqDoorbell h page v => Sys2Proof.Machine.execCqDoorbell h page v s
  | .wqeFetch sq bytes => Sys2Proof.Machine.execWqeFetch sq bytes s
  | .shaperRelease sl => Sys2Proof.Machine.execShaperRelease sl s
  | .requestPacketSend slot => Sys2Proof.Machine.execRequestPacketSend slot s
  | .rmWrite pkt => Sys2Proof.Machine.execRmWrite pkt s
  | .rmWriteNotify pkt => Sys2Proof.Machine.execRmWriteNotify pkt s
  | .rmRead pkt => Sys2Proof.Machine.execRmRead pkt s
  | .rmCancel pkt => Sys2Proof.Machine.execRmCancel pkt s
  | .hostWriteIssued id => Sys2Proof.Machine.execHostWriteIssued id s
  | .rmAck pkt => Sys2Proof.Machine.execRmAck pkt s
  | .rmNak pkt => Sys2Proof.Machine.execRmNak pkt s
  | .rmReadData pkt => Sys2Proof.Machine.execRmReadData pkt s
  | .retransmitTimeout slot k => Sys2Proof.Machine.execRetransmitTimeout slot k s
  | .backoffExpiry slot k => Sys2Proof.Machine.execBackoffExpiry slot k s
  | .pathHoldExpiry dst path => Sys2Proof.Machine.execPathHoldExpiry dst path s
  | .cqRecordWrite cq => Sys2Proof.Machine.execCqRecordWrite cq s
  | .retainExpiry src msgId => Sys2Proof.Machine.execRetainExpiry src msgId s
  | .inboundIdleTimeout src msgId => Sys2Proof.Machine.execInboundIdleTimeout src msgId s
  | .messageAbort m v => Sys2Proof.Machine.execMessageAbort m v s
  | .contextCommit m v => Sys2Proof.Machine.execContextCommit m v s
  | .contextRead m v => Sys2Proof.Machine.execContextRead m v s
  | .apertureWrite h a => Sys2Proof.Machine.execApertureWrite h a s
  | .apertureRead h a => Sys2Proof.Machine.execApertureRead h a s
  | .apertureReadRelease h => Sys2Proof.Machine.execApertureReadRelease h s
  | .prefetchExpiry h range chunk => Sys2Proof.Machine.execPrefetchExpiry h range chunk s
  | .sliceCreate m sl => Sys2Proof.Machine.execSliceCreate m sl s
  | .sliceQuiesce m sl => Sys2Proof.Machine.execSliceQuiesce m sl s
  | .sliceResume m sl => Sys2Proof.Machine.execSliceResume m sl s
  | .sliceDisable m sl force => Sys2Proof.Machine.execSliceDisable m sl force s
  | .sliceReset m sl force => Sys2Proof.Machine.execSliceReset m sl force s
  | .sliceReassign m sl => Sys2Proof.Machine.execSliceReassign m sl s
  | .sliceResize m sl => Sys2Proof.Machine.execSliceResize m sl s
  | .sliceDestroy m sl => Sys2Proof.Machine.execSliceDestroy m sl s
  | .sliceQuiesced sl => Sys2Proof.Machine.execSliceQuiesced sl s
  | .sliceStoppingDone sl => Sys2Proof.Machine.execSliceStoppingDone sl s
  | .sliceResetDone sl => Sys2Proof.Machine.execSliceResetDone sl s
  | .irqWrite sl n => Sys2Proof.Machine.execIrqWrite sl n s
  | .irqUnmask m sl n v => Sys2Proof.Machine.execIrqUnmask m sl n v s
  | .shaperCommit m sl v => Sys2Proof.Machine.execShaperCommit m sl v s
  | .policerCommit m sl v => Sys2Proof.Machine.execPolicerCommit m sl v s
  | .faultMessage f => Sys2Proof.Machine.execFaultMessage f s
  | .classCContainment f => Sys2Proof.Machine.execClassCContainment f s
  | .faultTimerExpiry seq => Sys2Proof.Machine.execFaultTimerExpiry seq s
  | .faultAck m v => Sys2Proof.Machine.execFaultAck m v s
  | .quietPeriodEnd sp idx => Sys2Proof.Machine.execQuietPeriodEnd sp idx s
  | .domainClear m v => Sys2Proof.Machine.execDomainClear m v s
  | .owlParity off inRing => Sys2Proof.Machine.execOwlParity off inRing s
  | .fwSafe m v => Sys2Proof.Machine.execFwSafe m v s
  | .slotPowerControlWrite sc off => Sys2Proof.Machine.execSlotPowerControlWrite sc off s
  | .slotOn m sc => Sys2Proof.Machine.execSlotOn m sc s
  | .slotOff m sc => Sys2Proof.Machine.execSlotOff m sc s
  | .presenceOccupied sc => Sys2Proof.Machine.execPresenceOccupied sc s
  | .presenceEmpty sc => Sys2Proof.Machine.execPresenceEmpty sc s
  | .slotRampStart sc => Sys2Proof.Machine.execSlotRampStart sc s
  | .slotPgLevel sc vsl => Sys2Proof.Machine.execSlotPgLevel sc vsl s
  | .slotPgQualified sc vsl => Sys2Proof.Machine.execSlotPgQualified sc vsl s
  | .perstRelease sc => Sys2Proof.Machine.execPerstRelease sc s
  | .feedGood sc f volt => Sys2Proof.Machine.execFeedGood sc f volt s
  | .feedLost sc f volt => Sys2Proof.Machine.execFeedLost sc f volt s
  | .switchBbmEnd sc shunt => Sys2Proof.Machine.execSwitchBbmEnd sc shunt s
  | .switchComplete sc vsl => Sys2Proof.Machine.execSwitchComplete sc vsl s
  | .switchTimeout sc vsl => Sys2Proof.Machine.execSwitchTimeout sc vsl s
  | .pwrbrkRelease sc => Sys2Proof.Machine.execPwrbrkRelease sc s
  | .fastTrip sc f => Sys2Proof.Machine.execFastTrip sc f s
  | .slowTripTimerStart sc f shunt => Sys2Proof.Machine.execSlowTripTimerStart sc f shunt s
  | .slowTripTimerStop sc f shunt => Sys2Proof.Machine.execSlowTripTimerStop sc f shunt s
  | .slowTrip sc f => Sys2Proof.Machine.execSlowTrip sc f s
  | .rampTimeout sc => Sys2Proof.Machine.execRampTimeout sc s
  | .pgLost sc vsl => Sys2Proof.Machine.execPgLost sc vsl s
  | .turnOffWaitEnd sc => Sys2Proof.Machine.execTurnOffWaitEnd sc s
  | .drainEnd sc vsl => Sys2Proof.Machine.execDrainEnd sc vsl s
  | .drainTimeout sc => Sys2Proof.Machine.execDrainTimeout sc s
  | .powerDomainControl m v => Sys2Proof.Machine.execPowerDomainControl m v s
  | .domainPowerUpDone k => Sys2Proof.Machine.execDomainPowerUpDone k s
  | .duskEntry ci => Sys2Proof.Machine.execDuskEntry ci s
  | .islandWake ci => Sys2Proof.Machine.execIslandWake ci s
  | .pllLockLoss l => Sys2Proof.Machine.execPllLockLoss l s
  | .supplyOutOfRange pd => Sys2Proof.Machine.execSupplyOutOfRange pd s
  | .tempThreshold sensor degC => Sys2Proof.Machine.execTempThreshold sensor degC s
  | .nightIdleTimeout => Sys2Proof.Machine.execNightIdleTimeout s
  | .nightGo m v => Sys2Proof.Machine.execNightGo m v s
  | .nightDrainEnd limit => Sys2Proof.Machine.execNightDrainEnd limit s
  | .nightDigestDone => Sys2Proof.Machine.execNightDigestDone s
  | .nightWake src => Sys2Proof.Machine.execNightWake src s
  | .nightAlarmExpiry => Sys2Proof.Machine.execNightAlarmExpiry s
  | .padHoldRelease m v => Sys2Proof.Machine.execPadHoldRelease m v s
  | .getRandom m => Sys2Proof.Machine.execGetRandom m s
  | .provisionKey m => Sys2Proof.Machine.execProvisionKey m s
  | .lockProv m => Sys2Proof.Machine.execLockProv m s
  | .revokeKey m => Sys2Proof.Machine.execRevokeKey m s
  | .advanceFloor m => Sys2Proof.Machine.execAdvanceFloor m s
  | .debugChallenge m => Sys2Proof.Machine.execDebugChallenge m s
  | .debugUnlock m => Sys2Proof.Machine.execDebugUnlock m s
  | .debugNever m => Sys2Proof.Machine.execDebugNever m s
  | .certWrite m => Sys2Proof.Machine.execCertWrite m s
  | .mailboxCommandDone => Sys2Proof.Machine.execMailboxCommandDone s
  | .trngHealthFail => Sys2Proof.Machine.execTrngHealthFail s
  | .getCertificate req certSlot off len => Sys2Proof.Machine.execGetCertificate req certSlot off len s
  | .challenge req certSlot msgToSign => Sys2Proof.Machine.execChallenge req certSlot msgToSign s
  | .getMeasurements req signed msgToSign => Sys2Proof.Machine.execGetMeasurements req signed msgToSign s
  | .keyExchange req certSlot msgToSign => Sys2Proof.Machine.execKeyExchange req certSlot msgToSign s
  | .vendorDefinedRequest req cmd => Sys2Proof.Machine.execVendorDefinedRequest req cmd s
  | .slhSignatureReady => Sys2Proof.Machine.execSlhSignatureReady s
  | .checkJobStart m v => Sys2Proof.Machine.execCheckJobStart m v s
  | .checkJobAbort m v => Sys2Proof.Machine.execCheckJobAbort m v s
  | .checkJobRun => Sys2Proof.Machine.execCheckJobRun s
  | .checkJobEnd => Sys2Proof.Machine.execCheckJobEnd s
  | .recordCheck r data => Sys2Proof.Machine.execRecordCheck r data s
  | .recordRecheck r data => Sys2Proof.Machine.execRecordRecheck r data s
  | .counterSelect m b n v => Sys2Proof.Machine.execCounterSelect m b n v s
  | .snapshotSet => Sys2Proof.Machine.execSnapshotSet s
  | .spoorRingWrite => Sys2Proof.Machine.execSpoorRingWrite s
  | .sampleRingWrite ring => Sys2Proof.Machine.execSampleRingWrite ring s
  | .ringEnable m h v => Sys2Proof.Machine.execRingEnable m h v s
  | .ringDisable m h v => Sys2Proof.Machine.execRingDisable m h v s
  | .commandDoorbell m h v => Sys2Proof.Machine.execCommandDoorbell m h v s
  | .commandFetch h entry => Sys2Proof.Machine.execCommandFetch h entry s
  | .cmdNop path => Sys2Proof.Machine.execCmdNop path s
  | .getInfo path => Sys2Proof.Machine.execGetInfo path s
  | .csrReadCmd path => Sys2Proof.Machine.execCsrReadCmd path s
  | .csrWriteCmd path => Sys2Proof.Machine.execCsrWriteCmd path s
  | .flashInfo path => Sys2Proof.Machine.execFlashInfo path s
  | .flashRead path => Sys2Proof.Machine.execFlashRead path s
  | .flashWrite path data => Sys2Proof.Machine.execFlashWrite path data s
  | .flashErase path => Sys2Proof.Machine.execFlashErase path s
  | .flashOpDone res => Sys2Proof.Machine.execFlashOpDone res s
  | .resetCmd path => Sys2Proof.Machine.execResetCmd path s
  | .fwCommand path => Sys2Proof.Machine.execFwCommand path s
  | .fwPostResponse m v => Sys2Proof.Machine.execFwPostResponse m v s
  | .fwPostEvent m v => Sys2Proof.Machine.execFwPostEvent m v s
  | .fwTimeout path => Sys2Proof.Machine.execFwTimeout path s
  | .eventRingWrite h => Sys2Proof.Machine.execEventRingWrite h s
  | .mctpCommand entry => Sys2Proof.Machine.execMctpCommand entry s
  | .i3cAddressAssign addr => Sys2Proof.Machine.execI3cAddressAssign addr s
  | .setEndpointId eid => Sys2Proof.Machine.execSetEndpointId eid s
  | .pwrokAndSysRstNHigh => Sys2Proof.Machine.execPwrokAndSysRstNHigh s
  | .dmfCompletionTimeout h tag => Sys2Proof.Machine.execDmfCompletionTimeout h tag s
  | .flowControlUpdate port cls hdrCr dataCr => Sys2Proof.Machine.execFlowControlUpdate port cls hdrCr dataCr s
  | .injectedPacket den bytes => Sys2Proof.Machine.execInjectedPacket den bytes s
  | .unknownControlOpcode port msg => Sys2Proof.Machine.execUnknownControlOpcode port msg s
  | .jtagAccess k => Sys2Proof.Machine.execJtagAccess k s
  | .endSession id => Sys2Proof.Machine.execEndSession id s

end Sys2Proof.Machine
end

