-- ==== Sys2Proof/Machine/Fence.lean ====
section
/-! DEFINITION. Reads that a fence holds return by themselves (R264, R399, R454), and what the block does when no command waits. -/

namespace Sys2Proof.Machine

namespace State

/-- A read held at a fence goes on: the fence reads 0, and the words behind it are read now. A host whose link has gone gets no answer. -/
def fenceBack (s : State) (x : FenceRd) : State :=
  let all := fun (bs : List Byte) => x.got ++ leBytes 4 0 ++ bs
  let cut := fun (a n : Nat) (bs : List Byte) => ((all bs).drop (a % 4)).take n
  let n := x.got.length / 4 + 1 + x.rest.length
  match x.via with
  | .word => s.emit (.readData x.m x.addr (leBytes 4 0))
  | .cp c => let r := getWords x.m x.rest s; r.1.emit (.readData x.m c.addr (cut c.addr c.size r.2))
  | .bar h b =>
    if (s.dom h).on && s.portUp (s.dom h).upPort then
      let r := barWords x.m b (barEnds b) x.rest s
      r.1.emit (.dmfAnswer h b.reqId b.tag .sc (cut b.off b.size r.2))
    else s
  | .chan path => let r := wordsRead x.m x.rest.length (x.addr + 4) s; r.2.chReadEnd path n (all (wordBytes r.1))
  | .fab src tag =>
    let r := wordsRead x.m x.rest.length (x.addr + 4) s
    let body := readBody n (all (wordBytes r.1))
    r.2.ctlSend src 0x20 true (decide (fieldAt body 0 1 ≠ 0)) tag body

/-- The held reads in order: those that may return do, the others stay. -/
def fencesGo : List FenceRd → List FenceRd → State → List FenceRd × State
  | [], kept, s => (kept, s)
  | x :: t, kept, s => if s.fenceMet kept x then fencesGo t kept (s.fenceBack x) else fencesGo t (kept ++ [x]) s

/-- Every held read whose fence is met returns (R264, R399, R454), and so does a response that waits for the fence (R351). -/
def fencesReturn (s : State) : State :=
  let r := fencesGo s.tblw.fences [] s
  ({ r.2 with tblw := { r.2.tblw with fences := r.1 } }).fenceAnswers

end State

/-- What a step does when no command waits (notes/assumptions/1.md): the timebase counts, and reads whose fence is met return
(notes/assumptions/97.md). -/
def idle (s : State) : State := (tick s).fencesReturn

end Sys2Proof.Machine
end

