-- ==== Sys2Proof/Machine/LineCode.lean ====
section
/-! DEFINITION. The Woell line code as pure functions (R100 to R108, R110, R128, 03_lanes.md and 04_woell_link.md): bit order,
Gray code, scrambler, stuffing, comma, polarity, striping. No command acts on symbols: a lane's commands report what the
receiver found (notes/assumptions/22.md). -/

namespace Sys2Proof.Machine.LineCode

/-- The bits of a byte string, least significant bit of each byte first (R100). -/
def bitsOf (bs : List Byte) : List Bool := bs.flatMap (fun b => (upTo 8).map (fun i => b.getLsbD i))

/-- The PAM4 level of a bit pair in transmit order (R100). -/
def gray (a b : Bool) : Nat := match a, b with | false, false => 0 | false, true => 1 | true, true => 2 | true, false => 3

/-- PAM4 symbols of a bit stream (R100). -/
def pam4 : List Bool → List Nat
  | a :: b :: t => gray a b :: pam4 t
  | _ => []

/-- NRZ symbols of a bit stream (R100). -/
def nrz (l : List Bool) : List Nat := l.map b2n

/-- The scrambler's seed for logical lane k (R101, R102). -/
def seed (k : Nat) : Nat := (0x5A5A5A5A ^^^ k) % 2 ^ 31

/-- The scrambler (R101): x^31 + x^28 + 1, additive, one step for each data bit. -/
def scramble : Nat → List Bool → List Bool
  | _, [] => []
  | s, d :: t =>
    let o := xor (bit s 30) (bit s 27)
    xor d o :: scramble ((s * 2 + b2n o) % 2 ^ 31) t

/-- The stuff symbol after a run of value v (R103). -/
def stuffOf (p4 : Bool) (v : Nat) : Nat := if p4 then (v + 2) % 4 else 1 - v

/-- Transmit stuffing (R103): `run` identical data symbols of value `last` have been sent. -/
def stuff (p4 : Bool) : Nat → Nat → List Nat → List Nat
  | _, _, [] => []
  | last, run, d :: t =>
    if run = 24 then stuffOf p4 last :: d :: stuff p4 d 1 t
    else d :: stuff p4 d (if d = last ∧ run ≠ 0 then run + 1 else 1) t

/-- Receive unstuffing (R104): the symbol after 24 identical data symbols is discarded, a violation when it equals them. -/
def unstuff : Nat → Nat → List Nat → List Nat × Nat
  | _, _, [] => ([], 0)
  | last, run, d :: t =>
    if run = 24 then
      let r := unstuff last 0 t
      (r.1, r.2 + b2n (d == last))
    else
      let r := unstuff d (if d = last ∧ run ≠ 0 then run + 1 else 1) t
      (d :: r.1, r.2)

/-- The comma (R106). -/
def comma (p4 : Bool) : List Nat :=
  if p4 then 0 :: (List.replicate 28 3 ++ [0, 1, 2]) else 0 :: (List.replicate 28 1 ++ [0, 1, 0])

/-- The pad: 1, 2, 1, … at PAM4 and 1, 0, 1, … at NRZ (R105). -/
def pad (p4 : Bool) (n : Nat) : List Nat := (upTo n).map (fun i => if i % 2 = 0 then 1 else if p4 then 2 else 0)

/-- The stuff symbols that a lane sends among the data symbols of a block (R103): the block starts after a comma. -/
def stuffCount (p4 : Bool) (d : List Nat) : Nat := (stuff p4 0 0 d).length - d.length

/-- The blocks that the lanes of a link send together, from the data symbols of each (R105): every lane pads up to the lane with most
stuff symbols, so that the commas begin in one symbol period. DESIGN CHOICE: the pad starts with 1 as R105 says, also where that makes a run longer than
R107's 25 (notes/assumptions/119.md). -/
def blocks (p4 : Bool) (lanes : List (List Nat)) : List (List Nat) :=
  let most := (lanes.map (stuffCount p4)).foldl max 0
  lanes.map fun d => stuff p4 0 0 d ++ pad p4 (most - stuffCount p4 d) ++ comma p4

/-- The first `n` data symbols of a block with the stuff symbols taken out and its violations counted, and what follows them (R104). -/
def takeData : Nat → Nat → Nat → List Nat → List Nat × Nat × List Nat
  | _, _, _, [] => ([], 0, [])
  | n, last, run, d :: t =>
    if n = 0 then ([], 0, d :: t)
    else if run = 24 then
      let r := takeData n last 0 t
      (r.1, r.2.1 + b2n (d == last), r.2.2)
    else
      let r := takeData (n - 1) d (if d = last ∧ run ≠ 0 then run + 1 else 1) t
      (d :: r.1, r.2)

/-- A received block: its 8,192 data symbols and its violations; the pad is discarded, and a comma that is missing from its place or
malformed counts one more (R104, R105, R108). -/
def readBlock (p4 : Bool) (b : List Nat) : List Nat × Nat :=
  let r := takeData 8192 0 0 b
  (r.1, r.2.1 + b2n (r.2.2.drop (r.2.2.length - 32) != comma p4))

/-- Inverted polarity (R110). -/
def invert (p4 : Bool) (v : Nat) : Nat := if p4 then 3 - v else 1 - v

/-- The logical lane of byte j of a block's stream, and its place there (R128). -/
def laneOf (w j : Nat) : Nat × Nat := (j % w, j / w)

/-- Flits per block (R109). -/
def flitsPerBlock (w : Nat) (p4 : Bool) : Nat := if p4 then 4 * w else 2 * w

end Sys2Proof.Machine.LineCode
end

