-- ==== Sys2Proof/Machine/Stock.lean ====
section
/-! DEFINITION. The stock segment (R324 to R338, 09_stock_programs.md): the den program that an image carries for every den, the tables
it reads and the layouts of their entries. The listings the spec prints stand here word for word (upa, fab, ctl); of the other paths the
spec gives the decisions and no words: the words are the model's own (notes/assumptions/110.md). A machine runs them once an image or a
program load has put them into its dens (R61, R266). -/

namespace Sys2Proof.Machine

/-- An instruction word from its fields (R280). -/
def kWord (op d a b v x imm : Nat) : DWord :=
  BitVec.ofNat 64 (op * 2 ^ 56 + d * 2 ^ 51 + a * 2 ^ 46 + b * 2 ^ 41 + v * 2 ^ 40 + x * 2 ^ 32 + imm)

namespace Stock

/-! ### Tables (R325) -/

/-- A table of the stock program: number, TYPE, entry size, KEYLEN, BASE in units of 64 B, COUNT. -/
structure Table where
  n : Nat
  ty : Nat
  esize : Nat
  keylen : Nat
  base : Nat
  count : Nat
  deriving DecidableEq, Repr

/-- ROUTE stands in one of two halves and holds up to 2,048 entries. -/
def route (half : Bool) (count : Nat) : Table := ⟨0, 3, 32, 0, if half then 2064 else 16, count⟩
def idrt : Table := ⟨1, 1, 8, 0, 4112, 4096⟩
def ports : Table := ⟨2, 1, 8, 0, 4624, 128⟩
def vfx : Table := ⟨3, 1, 16, 0, 4640, 4096⟩
def vfreq : Table := ⟨4, 2, 32, 3, 5664, 10⟩
def paths : Table := ⟨8, 1, 8, 0, 7712, 256⟩

/-- A table's descriptor (R253). -/
def desc (t : Table) : List Byte :=
  leBytes 1 (t.ty + 8 * (if t.esize = 8 then 0 else if t.esize = 16 then 1 else if t.esize = 32 then 2 else 3)) ++ leBytes 1 t.keylen
    ++ [0, 0] ++ leBytes 4 t.base ++ leBytes 4 t.count ++ [0, 0, 0, 0]

/-! ### Keys and entries -/

/-- The ROUTE key of a host domain's address (R327). -/
def routeKey (hd addr : Nat) : DWord := BitVec.ofNat 64 (hd * 2 ^ 52) ||| BitVec.ofNat 64 (addr / 2 ^ 12)

/-- The result of ROUTE: PORT, KIND, SLOT (R327). -/
def routePort (w : DWord) : Nat := bits w.toNat 0 7
def routeKind (w : DWord) : Nat := bits w.toNat 7 3
def routeSlot (w : DWord) : Nat := bits w.toNat 12 12

/-- The IDRT key of a bus in a domain, and an entry's PORT, KIND and SLOT (R333). -/
def idrtKey (hd bus : Nat) : Nat := hd * 2 ^ 8 + bus
def idrtPort (e : List Byte) : Nat := fieldAt e 1 1
def idrtKind (e : List Byte) : Nat := fieldAt e 2 1 % 8
def idrtSlot (e : List Byte) : Nat := fieldAt e 4 2

/-- A PORTS entry (R331): ACS enables 0 SV, 1 TB, 2 RR, 3 CR, 4 UF, 5 DT; buses; owner, SHARED; the owner's upstream port. -/
def portsAcs (e : List Byte) (k : Nat) : Bool := bit (fieldAt e 1 1) k
def portsSec (e : List Byte) : Nat := fieldAt e 2 1
def portsSub (e : List Byte) : Nat := fieldAt e 3 1
def portsOwner (e : List Byte) : Nat := fieldAt e 4 1 % 16
def portsShared (e : List Byte) : Bool := bit (fieldAt e 4 1) 4
def portsUp (e : List Byte) : Nat := fieldAt e 5 1

/-- A VFX entry (R330) for a VF map entry's BAR: PPORT, PROXY, PRID and DELTA. -/
def vfxEntry (pport proxy prid pbase gbase : Nat) : List Byte :=
  [1] ++ leBytes 1 pport ++ leBytes 2 proxy ++ leBytes 2 prid ++ [0, 0] ++ leBytes 8 ((pbase + 2 ^ 64 - gbase) % 2 ^ 64)

/-- The VFREQ key of a request of a shared port (R330): its port, then its Requester ID. -/
def vfreqKey (port rid : Nat) : List Byte := leBytes 1 port ++ leBytes 2 rid

/-! ### Words -/

/-- Classes 0, 1 and 8 from an upstream port, routed by address (R327, R328, R330): the printed listing, the other kinds, and the skip of prefixes. Part 1 of 2. -/
def upa0 : List DWord :=
  [ kWord 0x0c 0 21 0 1 0 0x1,  -- 0 upa: TST m5, 1
    kWord 0x18 0 0 0 0 0 0x3a,  -- 1 BEQ nflit
    kWord 0x09 1 21 0 1 0 0x8,  -- 2 SHR g1, m5, 8
    kWord 0x05 1 1 0 1 0 0xf,  -- 3 AND g1, g1, 0xF
    kWord 0x10 2 0 0 0 0 0x7f0388,  -- 4 EXT.BE g2, [8], 8
    kWord 0x10 3 0 0 0 0 0x470000,  -- 5 EXT.BE g3, [0], 1
    kWord 0x0c 0 3 0 1 0 0x20,  -- 6 TST g3, 0x20
    kWord 0x18 0 0 0 0 0 0x14,  -- 7 BEQ a32
    kWord 0x09 4 2 0 1 0 0xc,  -- 8 akey: SHR g4, g2, 12
    kWord 0x08 5 1 0 1 0 0x34,  -- 9 SHL g5, g1, 52
    kWord 0x06 4 4 5 0 0 0x0,  -- 10 OR g4, g4, g5
    kWord 0x22 6 4 0 0 0 0x0,  -- 11 LKR g6, ROUTE, g4
    kWord 0x18 0 0 0 0 0 0x16,  -- 12 BEQ noroute
    kWord 0x0c 0 6 0 1 0 0x380,  -- 13 TST g6, 0x380
    kWord 0x18 0 0 0 0 1 0x19,  -- 14 BNE special
    kWord 0x05 7 6 0 1 0 0x7f,  -- 15 AND g7, g6, 0x7F
    kWord 0x30 0 0 7 0 1 0x0,  -- 16 SETD DEST, g7
    kWord 0x30 0 0 0 1 0 0x0,  -- 17 SETD ACTION, FORWARD
    kWord 0x29 0 1 18 1 0 0x200,  -- 18 CNT [g1+512], m2
    kWord 0x3f 0 0 0 0 0 0x0,  -- 19 END
    kWord 0x09 2 2 0 1 0 0x20,  -- 20 a32: SHR g2, g2, 32
    kWord 0x18 0 0 0 0 14 0x8,  -- 21 BAL akey
    kWord 0x30 0 0 0 1 6 0x1,  -- 22 noroute: SETD REASON, 1
    kWord 0x30 0 0 0 1 0 0x1,  -- 23 SETD ACTION, DROP
    kWord 0x3f 0 0 0 0 0 0x0,  -- 24 END
    kWord 0x0c 0 6 0 1 0 0x300,  -- 25 special: TST g6, 0x300
    kWord 0x18 0 0 0 0 1 0x2d,  -- 26 BNE kdmf
    kWord 0x09 9 6 0 1 0 0xc,  -- 27 vf: SHR g9, g6, 12
    kWord 0x05 9 9 0 1 0 0xfff,  -- 28 AND g9, g9, 0xFFF
    kWord 0x20 10 9 0 0 3 0x0,  -- 29 LKD g10, VFX, g9
    kWord 0x18 0 0 0 0 0 0x16,  -- 30 BEQ noroute
    kWord 0x03 2 2 11 0 0 0x0,  -- 31 vfadd: ADD g2, g2, g11
    kWord 0x0c 0 3 0 1 0 0x20,  -- 32 TST g3, 0x20
    kWord 0x18 0 0 0 0 0 0x2b,  -- 33 BEQ v32
    kWord 0x11 0 8 2 1 0 0x7f0388,  -- 34 INS.BE g2, [g8+8], 8
    kWord 0x09 12 10 0 1 0 0x10,  -- 35 vfid: SHR g12, g10, 16
    kWord 0x11 0 8 12 1 0 0x4f0084,  -- 36 INS.BE g12, [g8+4], 2
    kWord 0x09 12 10 0 1 0 0x8,  -- 37 SHR g12, g10, 8
    kWord 0x05 12 12 0 1 0 0x7f,  -- 38 AND g12, g12, 0x7F
    kWord 0x30 0 0 12 0 1 0x0 ]  -- 39 SETD DEST, g12

/-- Classes 0, 1 and 8 from an upstream port, routed by address (R327, R328, R330): the printed listing, the other kinds, and the skip of prefixes. Part 2 of 2. -/
def upa1 : List DWord :=
  [ kWord 0x30 0 0 0 1 0 0x0,  -- 40 SETD ACTION, FORWARD
    kWord 0x29 0 1 18 1 0 0x200,  -- 41 CNT [g1+512], m2
    kWord 0x3f 0 0 0 0 0 0x0,  -- 42 END
    kWord 0x11 0 8 2 1 0 0x5f0188,  -- 43 v32: INS.BE g2, [g8+8], 4
    kWord 0x18 0 0 0 0 14 0x23,  -- 44 BAL vfid
    kWord 0x0c 0 6 0 1 0 0x280,  -- 45 kdmf: TST g6, 0x280
    kWord 0x18 0 0 0 0 1 0x37,  -- 46 BNE refrange
    kWord 0x0b 0 17 0 1 0 0x8,  -- 47 CMP m1, 8
    kWord 0x18 0 0 0 0 0 0x34,  -- 48 BEQ atomic
    kWord 0x30 0 0 16 0 1 0x0,  -- 49 SETD DEST, m0
    kWord 0x30 0 0 0 1 0 0x0,  -- 50 SETD ACTION, FORWARD
    kWord 0x3f 0 0 0 0 0 0x0,  -- 51 END
    kWord 0x30 0 0 0 1 6 0x5,  -- 52 atomic: SETD REASON, 5
    kWord 0x30 0 0 0 1 0 0x1,  -- 53 SETD ACTION, DROP
    kWord 0x3f 0 0 0 0 0 0x0,  -- 54 END
    kWord 0x30 0 0 0 1 6 0x4,  -- 55 refrange: SETD REASON, 4
    kWord 0x30 0 0 0 1 0 0x1,  -- 56 SETD ACTION, DROP
    kWord 0x3f 0 0 0 0 0 0x0,  -- 57 END
    kWord 0x10 3 8 0 1 0 0x470000,  -- 58 nflit: EXT.BE g3, [g8], 1
    kWord 0x0c 0 3 0 1 0 0x80,  -- 59 TST g3, 0x80
    kWord 0x18 0 0 0 0 1 0x44,  -- 60 BNE npfx
    kWord 0x09 1 21 0 1 0 0x8,  -- 61 nmain: SHR g1, m5, 8
    kWord 0x05 1 1 0 1 0 0xf,  -- 62 AND g1, g1, 0xF
    kWord 0x10 2 8 0 1 0 0x7f0388,  -- 63 EXT.BE g2, [g8+8], 8
    kWord 0x0c 0 3 0 1 0 0x20,  -- 64 TST g3, 0x20
    kWord 0x18 0 0 0 0 1 0x8,  -- 65 BNE akey
    kWord 0x09 2 2 0 1 0 0x20,  -- 66 SHR g2, g2, 32
    kWord 0x18 0 0 0 0 14 0x8,  -- 67 BAL akey
    kWord 0x0b 0 3 0 1 0 0xa0,  -- 68 npfx: CMP g3, 0xA0
    kWord 0x18 0 0 0 0 2 0x3d,  -- 69 BHS nmain
    kWord 0x0b 0 8 0 1 0 0x10,  -- 70 CMP g8, 16
    kWord 0x18 0 0 0 0 2 0x3d,  -- 71 BHS nmain
    kWord 0x03 8 8 0 1 0 0x4,  -- 72 ADD g8, g8, 4
    kWord 0x10 3 8 0 1 0 0x470000,  -- 73 EXT.BE g3, [g8], 1
    kWord 0x0c 0 3 0 1 0 0x80,  -- 74 TST g3, 0x80
    kWord 0x18 0 0 0 0 1 0x44,  -- 75 BNE npfx
    kWord 0x18 0 0 0 0 14 0x3d ]  -- 76 BAL nmain

/-- Classes 0, 1 and 8 from an upstream port, routed by address (R327, R328, R330): the printed listing, the other kinds, and the skip of prefixes. -/
def upa : List DWord := upa0 ++ upa1

/-- Classes 2 and 3 from a downstream port, with the checks of ACS in their order (R328, R330, R331). Part 1 of 4. -/
def dna0 : List DWord :=
  [ kWord 0x0c 0 21 0 1 0 0x1,  -- 77 dna: TST m5, 1
    kWord 0x18 0 0 0 0 0 0x74,  -- 78 BEQ dnn
    kWord 0x01 9 0 16 0 0 0x0,  -- 79 MOV g9, m0
    kWord 0x20 15 9 0 0 2 0x0,  -- 80 LKD g15, PORTS, g9
    kWord 0x18 0 0 0 0 0 0x16,  -- 81 BEQ noroute
    kWord 0x09 10 15 0 1 0 0x8,  -- 82 SHR g10, g15, 8
    kWord 0x0c 0 10 0 1 0 0x1000003f,  -- 83 TST g10, 0x1000003F
    kWord 0x18 0 0 0 0 1 0x8a,  -- 84 BNE dslow
    kWord 0x10 2 0 0 0 0 0x7f0388,  -- 85 EXT.BE g2, [8], 8
    kWord 0x10 3 0 0 0 0 0x470000,  -- 86 EXT.BE g3, [0], 1
    kWord 0x0c 0 3 0 1 0 0x20,  -- 87 TST g3, 0x20
    kWord 0x18 0 0 0 0 0 0x68,  -- 88 BEQ d32
    kWord 0x09 1 21 0 1 0 0x8,  -- 89 dkey: SHR g1, m5, 8
    kWord 0x05 1 1 0 1 0 0xf,  -- 90 AND g1, g1, 0xF
    kWord 0x09 4 2 0 1 0 0xc,  -- 91 SHR g4, g2, 12
    kWord 0x08 5 1 0 1 0 0x34,  -- 92 SHL g5, g1, 52
    kWord 0x06 4 4 5 0 0 0x0,  -- 93 OR g4, g4, g5
    kWord 0x22 6 4 0 0 0 0x0,  -- 94 LKR g6, ROUTE, g4
    kWord 0x18 0 0 0 0 0 0x6a,  -- 95 BEQ toup
    kWord 0x0c 0 6 0 1 0 0x380,  -- 96 TST g6, 0x380
    kWord 0x18 0 0 0 0 1 0x6f,  -- 97 BNE dspec
    kWord 0x05 7 6 0 1 0 0x7f,  -- 98 AND g7, g6, 0x7F
    kWord 0x0b 0 7 9 0 0 0x0,  -- 99 CMP g7, g9
    kWord 0x18 0 0 0 0 0 0x16,  -- 100 BEQ noroute
    kWord 0x30 0 0 7 0 1 0x0,  -- 101 SETD DEST, g7
    kWord 0x30 0 0 0 1 0 0x0,  -- 102 SETD ACTION, FORWARD
    kWord 0x3f 0 0 0 0 0 0x0,  -- 103 END
    kWord 0x09 2 2 0 1 0 0x20,  -- 104 d32: SHR g2, g2, 32
    kWord 0x18 0 0 0 0 14 0x59,  -- 105 BAL dkey
    kWord 0x09 7 15 0 1 0 0x28,  -- 106 toup: SHR g7, g15, 40
    kWord 0x05 7 7 0 1 0 0x7f,  -- 107 AND g7, g7, 0x7F
    kWord 0x30 0 0 7 0 1 0x0,  -- 108 SETD DEST, g7
    kWord 0x30 0 0 0 1 0 0x0,  -- 109 SETD ACTION, FORWARD
    kWord 0x3f 0 0 0 0 0 0x0,  -- 110 END
    kWord 0x0c 0 6 0 1 0 0x300,  -- 111 dspec: TST g6, 0x300
    kWord 0x18 0 0 0 0 0 0xc7,  -- 112 BEQ dvfx
    kWord 0x0c 0 6 0 1 0 0x280,  -- 113 TST g6, 0x280
    kWord 0x18 0 0 0 0 1 0x37,  -- 114 BNE refrange
    kWord 0x18 0 0 0 0 14 0x6a,  -- 115 BAL toup
    kWord 0x10 3 8 0 1 0 0x470000 ]  -- 116 dnn: EXT.BE g3, [g8], 1

/-- Classes 2 and 3 from a downstream port, with the checks of ACS in their order (R328, R330, R331). Part 2 of 4. -/
def dna1 : List DWord :=
  [ kWord 0x0c 0 3 0 1 0 0x80,  -- 117 TST g3, 0x80
    kWord 0x18 0 0 0 0 1 0x81,  -- 118 BNE dpfx
    kWord 0x01 9 0 16 0 0 0x0,  -- 119 dmain: MOV g9, m0
    kWord 0x20 15 9 0 0 2 0x0,  -- 120 LKD g15, PORTS, g9
    kWord 0x18 0 0 0 0 0 0x16,  -- 121 BEQ noroute
    kWord 0x09 10 15 0 1 0 0x8,  -- 122 SHR g10, g15, 8
    kWord 0x0c 0 10 0 1 0 0x1000003f,  -- 123 TST g10, 0x1000003F
    kWord 0x18 0 0 0 0 1 0x8a,  -- 124 BNE dslow
    kWord 0x10 2 8 0 1 0 0x7f0388,  -- 125 EXT.BE g2, [g8+8], 8
    kWord 0x0c 0 3 0 1 0 0x20,  -- 126 TST g3, 0x20
    kWord 0x18 0 0 0 0 1 0x59,  -- 127 BNE dkey
    kWord 0x18 0 0 0 0 14 0x68,  -- 128 BAL d32
    kWord 0x0b 0 3 0 1 0 0xa0,  -- 129 dpfx: CMP g3, 0xA0
    kWord 0x18 0 0 0 0 2 0x77,  -- 130 BHS dmain
    kWord 0x0b 0 8 0 1 0 0x10,  -- 131 CMP g8, 16
    kWord 0x18 0 0 0 0 2 0x77,  -- 132 BHS dmain
    kWord 0x03 8 8 0 1 0 0x4,  -- 133 ADD g8, g8, 4
    kWord 0x10 3 8 0 1 0 0x470000,  -- 134 EXT.BE g3, [g8], 1
    kWord 0x0c 0 3 0 1 0 0x80,  -- 135 TST g3, 0x80
    kWord 0x18 0 0 0 0 1 0x81,  -- 136 BNE dpfx
    kWord 0x18 0 0 0 0 14 0x77,  -- 137 BAL dmain
    kWord 0x10 11 8 0 1 0 0x4f0084,  -- 138 dslow: EXT.BE g11, [g8+4], 2
    kWord 0x10 2 8 0 1 0 0x7f0388,  -- 139 EXT.BE g2, [g8+8], 8
    kWord 0x10 3 8 0 1 0 0x470000,  -- 140 EXT.BE g3, [g8], 1
    kWord 0x0c 0 3 0 1 0 0x20,  -- 141 TST g3, 0x20
    kWord 0x18 0 0 0 0 1 0x90,  -- 142 BNE dsv
    kWord 0x09 2 2 0 1 0 0x20,  -- 143 SHR g2, g2, 32
    kWord 0x0c 0 10 0 1 0 0x1,  -- 144 dsv: TST g10, 1
    kWord 0x18 0 0 0 0 0 0x9b,  -- 145 BEQ dat
    kWord 0x09 12 11 0 1 0 0x8,  -- 146 SHR g12, g11, 8
    kWord 0x09 13 15 0 1 0 0x10,  -- 147 SHR g13, g15, 16
    kWord 0x05 13 13 0 1 0 0xff,  -- 148 AND g13, g13, 0xFF
    kWord 0x0b 0 12 13 0 0 0x0,  -- 149 CMP g12, g13
    kWord 0x18 0 0 0 0 3 0xd8,  -- 150 BLO acssv
    kWord 0x09 13 15 0 1 0 0x18,  -- 151 SHR g13, g15, 24
    kWord 0x05 13 13 0 1 0 0xff,  -- 152 AND g13, g13, 0xFF
    kWord 0x0b 0 12 13 0 0 0x0,  -- 153 CMP g12, g13
    kWord 0x18 0 0 0 0 8 0xd8,  -- 154 BHI acssv
    kWord 0x05 14 2 0 1 0 0x3,  -- 155 dat: AND g14, g2, 3
    kWord 0x0c 0 21 0 1 0 0x1 ]  -- 156 TST m5, 1

/-- Classes 2 and 3 from a downstream port, with the checks of ACS in their order (R328, R330, R331). Part 3 of 4. -/
def dna2 : List DWord :=
  [ kWord 0x18 0 0 0 0 1 0x9f,  -- 157 BNE dtb
    kWord 0x10 14 8 0 1 0 0x410802,  -- 158 EXT.BE g14, [g8+2], 1, 2, 2
    kWord 0x0c 0 10 0 1 0 0x2,  -- 159 dtb: TST g10, 2
    kWord 0x18 0 0 0 0 0 0xa3,  -- 160 BEQ dvf
    kWord 0x0c 0 14 0 1 0 0x3,  -- 161 TST g14, 3
    kWord 0x18 0 0 0 0 1 0xdb,  -- 162 BNE acstb
    kWord 0x0c 0 10 0 1 0 0x10000000,  -- 163 dvf: TST g10, 0x10000000
    kWord 0x18 0 0 0 0 0 0xb0,  -- 164 BEQ droute
    kWord 0x08 12 11 0 1 0 0x8,  -- 165 SHL g12, g11, 8
    kWord 0x06 12 12 9 0 0 0x0,  -- 166 OR g12, g12, g9
    kWord 0x21 13 12 0 0 4 0x0,  -- 167 LKH g13, VFREQ, g12
    kWord 0x18 0 0 0 0 0 0xb0,  -- 168 BEQ droute
    kWord 0x09 12 13 0 1 0 0x10,  -- 169 vfup: SHR g12, g13, 16
    kWord 0x11 0 8 12 1 0 0x4f0084,  -- 170 INS.BE g12, [g8+4], 2
    kWord 0x09 12 13 0 1 0 0x8,  -- 171 SHR g12, g13, 8
    kWord 0x05 12 12 0 1 0 0x7f,  -- 172 AND g12, g12, 0x7F
    kWord 0x30 0 0 12 0 1 0x0,  -- 173 SETD DEST, g12
    kWord 0x30 0 0 0 1 0 0x0,  -- 174 SETD ACTION, FORWARD
    kWord 0x3f 0 0 0 0 0 0x0,  -- 175 END
    kWord 0x09 1 21 0 1 0 0x8,  -- 176 droute: SHR g1, m5, 8
    kWord 0x05 1 1 0 1 0 0xf,  -- 177 AND g1, g1, 0xF
    kWord 0x09 4 2 0 1 0 0xc,  -- 178 SHR g4, g2, 12
    kWord 0x08 5 1 0 1 0 0x34,  -- 179 SHL g5, g1, 52
    kWord 0x06 4 4 5 0 0 0x0,  -- 180 OR g4, g4, g5
    kWord 0x22 6 4 0 0 0 0x0,  -- 181 LKR g6, ROUTE, g4
    kWord 0x18 0 0 0 0 0 0x6a,  -- 182 BEQ toup
    kWord 0x0c 0 6 0 1 0 0x300,  -- 183 TST g6, 0x300
    kWord 0x18 0 0 0 0 1 0xd5,  -- 184 BNE dkind
    kWord 0x0c 0 10 0 1 0 0x4,  -- 185 TST g10, 4
    kWord 0x18 0 0 0 0 0 0xbf,  -- 186 BEQ duf
    kWord 0x0c 0 10 0 1 0 0x20,  -- 187 TST g10, 0x20
    kWord 0x18 0 0 0 0 0 0x6a,  -- 188 BEQ toup
    kWord 0x0b 0 14 0 1 0 0x2,  -- 189 CMP g14, 2
    kWord 0x18 0 0 0 0 1 0x6a,  -- 190 BNE toup
    kWord 0x0c 0 6 0 1 0 0x80,  -- 191 duf: TST g6, 0x80
    kWord 0x18 0 0 0 0 1 0xc7,  -- 192 BNE dvfx
    kWord 0x05 7 6 0 1 0 0x7f,  -- 193 AND g7, g6, 0x7F
    kWord 0x0b 0 7 9 0 0 0x0,  -- 194 CMP g7, g9
    kWord 0x18 0 0 0 0 1 0xd2,  -- 195 BNE dgo
    kWord 0x0c 0 10 0 1 0 0x10 ]  -- 196 TST g10, 0x10

/-- Classes 2 and 3 from a downstream port, with the checks of ACS in their order (R328, R330, R331). Part 4 of 4. -/
def dna3 : List DWord :=
  [ kWord 0x18 0 0 0 0 1 0x6a,  -- 197 BNE toup
    kWord 0x18 0 0 0 0 14 0x16,  -- 198 BAL noroute
    kWord 0x09 9 6 0 1 0 0xc,  -- 199 dvfx: SHR g9, g6, 12
    kWord 0x05 9 9 0 1 0 0xfff,  -- 200 AND g9, g9, 0xFFF
    kWord 0x20 10 9 0 0 3 0x0,  -- 201 LKD g10, VFX, g9
    kWord 0x18 0 0 0 0 0 0x16,  -- 202 BEQ noroute
    kWord 0x09 12 10 0 1 0 0x8,  -- 203 SHR g12, g10, 8
    kWord 0x05 12 12 0 1 0 0x7f,  -- 204 AND g12, g12, 0x7F
    kWord 0x0b 0 12 16 0 0 0x0,  -- 205 CMP g12, m0
    kWord 0x18 0 0 0 0 1 0x1f,  -- 206 BNE vfadd
    kWord 0x0c 0 15 0 1 0 0x1000,  -- 207 TST g15, 0x1000
    kWord 0x18 0 0 0 0 1 0x6a,  -- 208 BNE toup
    kWord 0x18 0 0 0 0 14 0x16,  -- 209 BAL noroute
    kWord 0x30 0 0 7 0 1 0x0,  -- 210 dgo: SETD DEST, g7
    kWord 0x30 0 0 0 1 0 0x0,  -- 211 SETD ACTION, FORWARD
    kWord 0x3f 0 0 0 0 0 0x0,  -- 212 END
    kWord 0x0c 0 6 0 1 0 0x280,  -- 213 dkind: TST g6, 0x280
    kWord 0x18 0 0 0 0 1 0x37,  -- 214 BNE refrange
    kWord 0x18 0 0 0 0 14 0x6a,  -- 215 BAL toup
    kWord 0x30 0 0 0 1 6 0x2,  -- 216 acssv: SETD REASON, 2
    kWord 0x30 0 0 0 1 0 0x1,  -- 217 SETD ACTION, DROP
    kWord 0x3f 0 0 0 0 0 0x0,  -- 218 END
    kWord 0x30 0 0 0 1 6 0x3,  -- 219 acstb: SETD REASON, 3
    kWord 0x30 0 0 0 1 0 0x1,  -- 220 SETD ACTION, DROP
    kWord 0x3f 0 0 0 0 0 0x0 ]  -- 221 END

/-- Classes 2 and 3 from a downstream port, with the checks of ACS in their order (R328, R330, R331). -/
def dna : List DWord := dna0 ++ dna1 ++ dna2 ++ dna3

/-- Classes 4, 5 and 10, routed by ID (R330, R331 CR, R333). Part 1 of 3. -/
def idr0 : List DWord :=
  [ kWord 0x05 1 21 0 1 0 0x9,  -- 222 idr: AND g1, m5, 9
    kWord 0x0b 0 1 0 1 0 0x9,  -- 223 CMP g1, 9
    kWord 0x18 0 0 0 0 1 0xec,  -- 224 BNE idslow
    kWord 0x05 1 21 0 1 0 0xf00,  -- 225 AND g1, m5, 0xF00
    kWord 0x10 2 0 0 0 0 0x470008,  -- 226 EXT.BE g2, [8], 1
    kWord 0x06 3 1 2 0 0 0x0,  -- 227 OR g3, g1, g2
    kWord 0x20 4 3 0 0 1 0x0,  -- 228 LKD g4, IDRT, g3
    kWord 0x18 0 0 0 0 0 0x16,  -- 229 BEQ noroute
    kWord 0x09 5 4 0 1 0 0x8,  -- 230 SHR g5, g4, 8
    kWord 0x0b 0 5 0 1 0 0x80,  -- 231 CMP g5, 128
    kWord 0x18 0 0 0 0 2 0xf8,  -- 232 BHS idk
    kWord 0x30 0 0 5 0 1 0x0,  -- 233 SETD DEST, g5
    kWord 0x30 0 0 0 1 0 0x0,  -- 234 SETD ACTION, FORWARD
    kWord 0x3f 0 0 0 0 0 0x0,  -- 235 END
    kWord 0x0c 0 21 0 1 0 0x1,  -- 236 idslow: TST m5, 1
    kWord 0x18 0 0 0 0 1 0xf1,  -- 237 BNE idmain
    kWord 0x10 7 8 0 1 0 0x470000,  -- 238 EXT.BE g7, [g8], 1
    kWord 0x0c 0 7 0 1 0 0x80,  -- 239 TST g7, 0x80
    kWord 0x18 0 0 0 0 1 0x118,  -- 240 BNE ipfx
    kWord 0x0b 0 17 0 1 0 0xa,  -- 241 idmain: CMP m1, 10
    kWord 0x18 0 0 0 0 0 0x12e,  -- 242 BEQ ats
    kWord 0x05 1 21 0 1 0 0xf00,  -- 243 idkey: AND g1, m5, 0xF00
    kWord 0x10 2 8 0 1 0 0x470008,  -- 244 EXT.BE g2, [g8+8], 1
    kWord 0x06 3 1 2 0 0 0x0,  -- 245 OR g3, g1, g2
    kWord 0x20 4 3 0 0 1 0x0,  -- 246 LKD g4, IDRT, g3
    kWord 0x18 0 0 0 0 0 0x16,  -- 247 BEQ noroute
    kWord 0x09 5 4 0 1 0 0x8,  -- 248 idk: SHR g5, g4, 8
    kWord 0x05 5 5 0 1 0 0x7f,  -- 249 AND g5, g5, 0x7F
    kWord 0x09 6 4 0 1 0 0x10,  -- 250 SHR g6, g4, 16
    kWord 0x05 6 6 0 1 0 0x7,  -- 251 AND g6, g6, 7
    kWord 0x0b 0 6 0 1 0 0x1,  -- 252 CMP g6, 1
    kWord 0x18 0 0 0 0 0 0x121,  -- 253 BEQ idvf
    kWord 0x18 0 0 0 0 8 0x16,  -- 254 BHI noroute
    kWord 0x0b 0 17 0 1 0 0x5,  -- 255 CMP m1, 5
    kWord 0x18 0 0 0 0 1 0x115,  -- 256 BNE idgo
    kWord 0x0c 0 21 0 1 0 0x8,  -- 257 TST m5, 8
    kWord 0x18 0 0 0 0 1 0x115,  -- 258 BNE idgo
    kWord 0x10 7 8 0 1 0 0x470000,  -- 259 EXT.BE g7, [g8], 1
    kWord 0x0c 0 7 0 1 0 0x40,  -- 260 TST g7, 0x40
    kWord 0x18 0 0 0 0 0 0x115 ]  -- 261 BEQ idgo

/-- Classes 4, 5 and 10, routed by ID (R330, R331 CR, R333). Part 2 of 3. -/
def idr1 : List DWord :=
  [ kWord 0x01 9 0 16 0 0 0x0,  -- 262 MOV g9, m0
    kWord 0x20 15 9 0 0 2 0x0,  -- 263 LKD g15, PORTS, g9
    kWord 0x18 0 0 0 0 0 0x115,  -- 264 BEQ idgo
    kWord 0x0c 0 15 0 1 0 0x800,  -- 265 TST g15, 0x800
    kWord 0x18 0 0 0 0 0 0x115,  -- 266 BEQ idgo
    kWord 0x10 11 8 0 1 0 0x470002,  -- 267 EXT.BE g11, [g8+2], 1
    kWord 0x0c 0 21 0 1 0 0x1,  -- 268 TST m5, 1
    kWord 0x18 0 0 0 0 1 0x10f,  -- 269 BNE idro
    kWord 0x09 11 11 0 1 0 0x2,  -- 270 SHR g11, g11, 2
    kWord 0x0c 0 11 0 1 0 0x8,  -- 271 idro: TST g11, 8
    kWord 0x18 0 0 0 0 1 0x115,  -- 272 BNE idgo
    kWord 0x09 7 15 0 1 0 0x28,  -- 273 SHR g7, g15, 40
    kWord 0x05 7 7 0 1 0 0x7f,  -- 274 AND g7, g7, 0x7F
    kWord 0x0b 0 7 5 0 0 0x0,  -- 275 CMP g7, g5
    kWord 0x18 0 0 0 0 1 0x6a,  -- 276 BNE toup
    kWord 0x30 0 0 5 0 1 0x0,  -- 277 idgo: SETD DEST, g5
    kWord 0x30 0 0 0 1 0 0x0,  -- 278 SETD ACTION, FORWARD
    kWord 0x3f 0 0 0 0 0 0x0,  -- 279 END
    kWord 0x0b 0 7 0 1 0 0xa0,  -- 280 ipfx: CMP g7, 0xA0
    kWord 0x18 0 0 0 0 2 0xf1,  -- 281 BHS idmain
    kWord 0x0b 0 8 0 1 0 0x10,  -- 282 CMP g8, 16
    kWord 0x18 0 0 0 0 2 0xf1,  -- 283 BHS idmain
    kWord 0x03 8 8 0 1 0 0x4,  -- 284 ADD g8, g8, 4
    kWord 0x10 7 8 0 1 0 0x470000,  -- 285 EXT.BE g7, [g8], 1
    kWord 0x0c 0 7 0 1 0 0x80,  -- 286 TST g7, 0x80
    kWord 0x18 0 0 0 0 1 0x118,  -- 287 BNE ipfx
    kWord 0x18 0 0 0 0 14 0xf1,  -- 288 BAL idmain
    kWord 0x09 9 4 0 1 0 0x20,  -- 289 idvf: SHR g9, g4, 32
    kWord 0x10 7 8 0 1 0 0x420009,  -- 290 EXT.BE g7, [g8+9], 1, 0, 3
    kWord 0x05 9 9 0 1 0 0xffff,  -- 291 AND g9, g9, 0xFFFF
    kWord 0x03 9 9 7 0 0 0x0,  -- 292 ADD g9, g9, g7
    kWord 0x20 10 9 0 0 3 0x0,  -- 293 LKD g10, VFX, g9
    kWord 0x18 0 0 0 0 0 0x16,  -- 294 BEQ noroute
    kWord 0x09 12 10 0 1 0 0x20,  -- 295 SHR g12, g10, 32
    kWord 0x11 0 8 12 1 0 0x4f0088,  -- 296 INS.BE g12, [g8+8], 2
    kWord 0x09 12 10 0 1 0 0x8,  -- 297 SHR g12, g10, 8
    kWord 0x05 12 12 0 1 0 0x7f,  -- 298 AND g12, g12, 0x7F
    kWord 0x30 0 0 12 0 1 0x0,  -- 299 SETD DEST, g12
    kWord 0x30 0 0 0 1 0 0x0,  -- 300 SETD ACTION, FORWARD
    kWord 0x3f 0 0 0 0 0 0x0 ]  -- 301 END

/-- Classes 4, 5 and 10, routed by ID (R330, R331 CR, R333). Part 3 of 3. -/
def idr2 : List DWord :=
  [ kWord 0x0c 0 21 0 1 0 0x8,  -- 302 ats: TST m5, 8
    kWord 0x18 0 0 0 0 1 0xf3,  -- 303 BNE idkey
    kWord 0x01 9 0 16 0 0 0x0,  -- 304 MOV g9, m0
    kWord 0x20 15 9 0 0 2 0x0,  -- 305 LKD g15, PORTS, g9
    kWord 0x18 0 0 0 0 0 0x16,  -- 306 BEQ noroute
    kWord 0x09 10 15 0 1 0 0x20,  -- 307 SHR g10, g15, 32
    kWord 0x0c 0 10 0 1 0 0x10,  -- 308 TST g10, 0x10
    kWord 0x18 0 0 0 0 0 0x13b,  -- 309 BEQ atsd
    kWord 0x10 11 8 0 1 0 0x4f0084,  -- 310 EXT.BE g11, [g8+4], 2
    kWord 0x08 12 11 0 1 0 0x8,  -- 311 SHL g12, g11, 8
    kWord 0x06 12 12 9 0 0 0x0,  -- 312 OR g12, g12, g9
    kWord 0x21 13 12 0 0 4 0x0,  -- 313 LKH g13, VFREQ, g12
    kWord 0x18 0 0 0 0 1 0xa9,  -- 314 BNE vfup
    kWord 0x10 7 8 0 1 0 0x470000,  -- 315 atsd: EXT.BE g7, [g8], 1
    kWord 0x0c 0 7 0 1 0 0x10,  -- 316 TST g7, 0x10
    kWord 0x18 0 0 0 0 0 0x6a,  -- 317 BEQ toup
    kWord 0x18 0 0 0 0 14 0xf3 ]  -- 318 BAL idkey

/-- Classes 4, 5 and 10, routed by ID (R330, R331 CR, R333). -/
def idr : List DWord := idr0 ++ idr1 ++ idr2

/-- Messages (R333), the refused classes 7 and 9, and injected packets (R334). Part 1 of 2. -/
def msg0 : List DWord :=
  [ kWord 0x0c 0 21 0 1 0 0x1,  -- 319 msg: TST m5, 1
    kWord 0x18 0 0 0 0 1 0x144,  -- 320 BNE mmain
    kWord 0x10 7 8 0 1 0 0x470000,  -- 321 EXT.BE g7, [g8], 1
    kWord 0x0c 0 7 0 1 0 0x80,  -- 322 TST g7, 0x80
    kWord 0x18 0 0 0 0 1 0x165,  -- 323 BNE mpfx
    kWord 0x10 7 8 0 1 0 0x420000,  -- 324 mmain: EXT.BE g7, [g8], 1, 0, 3
    kWord 0x0b 0 7 0 1 0 0x2,  -- 325 CMP g7, 2
    kWord 0x18 0 0 0 0 0 0xf3,  -- 326 BEQ idkey
    kWord 0x18 0 0 0 0 8 0x15b,  -- 327 BHI mlocal
    kWord 0x0b 0 7 0 1 0 0x0,  -- 328 CMP g7, 0
    kWord 0x18 0 0 0 0 1 0x162,  -- 329 BNE mterm
    kWord 0x0c 0 21 0 1 0 0x8,  -- 330 TST m5, 8
    kWord 0x18 0 0 0 0 1 0x158,  -- 331 BNE mup
    kWord 0x01 9 0 16 0 0 0x0,  -- 332 MOV g9, m0
    kWord 0x20 15 9 0 0 2 0x0,  -- 333 LKD g15, PORTS, g9
    kWord 0x18 0 0 0 0 0 0x16,  -- 334 BEQ noroute
    kWord 0x09 10 15 0 1 0 0x20,  -- 335 SHR g10, g15, 32
    kWord 0x0c 0 10 0 1 0 0x10,  -- 336 TST g10, 0x10
    kWord 0x18 0 0 0 0 0 0x6a,  -- 337 BEQ toup
    kWord 0x10 11 8 0 1 0 0x4f0084,  -- 338 EXT.BE g11, [g8+4], 2
    kWord 0x08 12 11 0 1 0 0x8,  -- 339 SHL g12, g11, 8
    kWord 0x06 12 12 9 0 0 0x0,  -- 340 OR g12, g12, g9
    kWord 0x21 13 12 0 0 4 0x0,  -- 341 LKH g13, VFREQ, g12
    kWord 0x18 0 0 0 0 0 0x6a,  -- 342 BEQ toup
    kWord 0x18 0 0 0 0 14 0xa9,  -- 343 BAL vfup
    kWord 0x30 0 0 16 0 1 0x0,  -- 344 mup: SETD DEST, m0
    kWord 0x30 0 0 0 1 0 0x0,  -- 345 SETD ACTION, FORWARD
    kWord 0x3f 0 0 0 0 0 0x0,  -- 346 END
    kWord 0x0b 0 7 0 1 0 0x3,  -- 347 mlocal: CMP g7, 3
    kWord 0x18 0 0 0 0 1 0x162,  -- 348 BNE mterm
    kWord 0x0c 0 21 0 1 0 0x8,  -- 349 TST m5, 8
    kWord 0x18 0 0 0 0 0 0x162,  -- 350 BEQ mterm
    kWord 0x30 0 0 0 1 6 0x8,  -- 351 SETD REASON, 8
    kWord 0x30 0 0 0 1 0 0x2,  -- 352 SETD ACTION, TRAP
    kWord 0x3f 0 0 0 0 0 0x0,  -- 353 END
    kWord 0x30 0 0 0 1 6 0x9,  -- 354 mterm: SETD REASON, 9
    kWord 0x30 0 0 0 1 0 0x1,  -- 355 SETD ACTION, DROP
    kWord 0x3f 0 0 0 0 0 0x0,  -- 356 END
    kWord 0x0b 0 7 0 1 0 0xa0,  -- 357 mpfx: CMP g7, 0xA0
    kWord 0x18 0 0 0 0 2 0x144 ]  -- 358 BHS mmain

/-- Messages (R333), the refused classes 7 and 9, and injected packets (R334). Part 2 of 2. -/
def msg1 : List DWord :=
  [ kWord 0x0b 0 8 0 1 0 0x10,  -- 359 CMP g8, 16
    kWord 0x18 0 0 0 0 2 0x144,  -- 360 BHS mmain
    kWord 0x03 8 8 0 1 0 0x4,  -- 361 ADD g8, g8, 4
    kWord 0x10 7 8 0 1 0 0x470000,  -- 362 EXT.BE g7, [g8], 1
    kWord 0x0c 0 7 0 1 0 0x80,  -- 363 TST g7, 0x80
    kWord 0x18 0 0 0 0 1 0x165,  -- 364 BNE mpfx
    kWord 0x18 0 0 0 0 14 0x144,  -- 365 BAL mmain
    kWord 0x0b 0 17 0 1 0 0x7,  -- 366 refuse: CMP m1, 7
    kWord 0x18 0 0 0 0 1 0x173,  -- 367 BNE locked
    kWord 0x30 0 0 0 1 6 0x7,  -- 368 SETD REASON, 7
    kWord 0x30 0 0 0 1 0 0x1,  -- 369 SETD ACTION, DROP
    kWord 0x3f 0 0 0 0 0 0x0,  -- 370 END
    kWord 0x30 0 0 0 1 6 0x6,  -- 371 locked: SETD REASON, 6
    kWord 0x30 0 0 0 1 0 0x1,  -- 372 SETD ACTION, DROP
    kWord 0x3f 0 0 0 0 0 0x0,  -- 373 END
    kWord 0x10 1 0 0 0 0 0x70000,  -- 374 inj: EXT.LE g1, [0], 1
    kWord 0x10 2 0 0 0 0 0x20001,  -- 375 EXT.LE g2, [1], 1, 0, 3
    kWord 0x0b 0 1 0 1 0 0x7f,  -- 376 CMP g1, 127
    kWord 0x18 0 0 0 0 8 0x17f,  -- 377 BHI injbad
    kWord 0x30 0 0 0 1 8 0x1,  -- 378 SETD STRIP, 1
    kWord 0x30 0 0 2 0 3 0x0,  -- 379 SETD TC, g2
    kWord 0x30 0 0 1 0 1 0x0,  -- 380 SETD DEST, g1
    kWord 0x30 0 0 0 1 0 0x0,  -- 381 SETD ACTION, FORWARD
    kWord 0x3f 0 0 0 0 0 0x0,  -- 382 END
    kWord 0x30 0 0 0 1 6 0x13,  -- 383 injbad: SETD REASON, 19
    kWord 0x30 0 0 0 1 0 0x1,  -- 384 SETD ACTION, DROP
    kWord 0x3f 0 0 0 0 0 0x0 ]  -- 385 END

/-- Messages (R333), the refused classes 7 and 9, and injected packets (R334). -/
def msg : List DWord := msg0 ++ msg1

/-- Fabric and CTL packets (R335 to R337): the printed listing. -/
def fab : List DWord :=
  [ kWord 0x10 1 0 0 0 0 0x70000,  -- 1024 fab: EXT.LE g1, [0], 1
    kWord 0x20 2 1 0 0 8 0x0,  -- 1025 LKD g2, PATHS, g1
    kWord 0x18 0 0 0 0 0 0x414,  -- 1026 BEQ nopath
    kWord 0x0c 0 2 0 1 0 0x100,  -- 1027 TST g2, 0x100
    kWord 0x18 0 0 0 0 1 0x410,  -- 1028 BNE local
    kWord 0x10 3 0 0 0 0 0x10005,  -- 1029 tr: EXT.LE g3, [5], 1, 0, 2
    kWord 0x08 3 3 0 1 0 0x3,  -- 1030 SHL g3, g3, 3
    kWord 0x03 3 3 0 1 0 0x10,  -- 1031 ADD g3, g3, 16
    kWord 0x09 4 2 3 0 0 0x0,  -- 1032 SHR g4, g2, g3
    kWord 0x05 4 4 0 1 0 0x7f,  -- 1033 AND g4, g4, 0x7F
    kWord 0x30 0 0 4 0 1 0x0,  -- 1034 SETD DEST, g4
    kWord 0x29 0 1 18 1 0 0x0,  -- 1035 CNT [g1], m2
    kWord 0x29 0 4 18 1 0 0x100,  -- 1036 CNT [g4+256], m2
    kWord 0x38 0 0 1 0 0 0x0,  -- 1037 SMPL g1
    kWord 0x30 0 0 0 1 0 0x0,  -- 1038 SETD ACTION, FORWARD
    kWord 0x3f 0 0 0 0 0 0x0,  -- 1039 END
    kWord 0x29 0 1 18 1 0 0x0,  -- 1040 local: CNT [g1], m2
    kWord 0x38 0 0 1 0 0 0x0,  -- 1041 SMPL g1
    kWord 0x30 0 0 0 1 0 0x0,  -- 1042 SETD ACTION, FORWARD
    kWord 0x3f 0 0 0 0 0 0x0,  -- 1043 END
    kWord 0x30 0 0 0 1 6 0x10,  -- 1044 nopath: SETD REASON, 16
    kWord 0x30 0 0 0 1 0 0x1,  -- 1045 SETD ACTION, DROP
    kWord 0x3f 0 0 0 0 0 0x0,  -- 1046 END
    kWord 0x10 1 0 0 0 0 0x70000,  -- 1047 ctl: EXT.LE g1, [0], 1
    kWord 0x20 2 1 0 0 8 0x0,  -- 1048 LKD g2, PATHS, g1
    kWord 0x18 0 0 0 0 0 0x41f,  -- 1049 BEQ ctlnp
    kWord 0x0c 0 2 0 1 0 0x100,  -- 1050 TST g2, 0x100
    kWord 0x18 0 0 0 0 0 0x405,  -- 1051 BEQ tr
    kWord 0x30 0 0 0 1 6 0x11,  -- 1052 SETD REASON, 17
    kWord 0x30 0 0 0 1 0 0x2,  -- 1053 SETD ACTION, TRAP
    kWord 0x3f 0 0 0 0 0 0x0,  -- 1054 END
    kWord 0x30 0 0 0 1 6 0x12,  -- 1055 ctlnp: SETD REASON, 18
    kWord 0x30 0 0 0 1 0 0x2,  -- 1056 SETD ACTION, TRAP
    kWord 0x3f 0 0 0 0 0 0x0 ]  -- 1057 END

/-! ### The segment (R270, R324) -/

/-- The instructions from index 0 on; the gaps hold NOP (R320). -/
def program : List DWord := upa ++ dna ++ idr ++ msg ++ List.replicate 638 0 ++ fab

/-- The vectors it enables: class and entry. -/
def vectors : List (Nat × Nat) :=
  [(0, 0), (1, 0), (2, 77), (3, 77), (4, 222), (5, 222), (6, 319), (7, 366), (8, 0), (9, 366), (10, 222), (11, 319), (16, 1047), (17, 1024), (18, 1024), (19, 1024), (20, 1024), (24, 374), (25, 1024)]

/-- A vector in the DENdd_VEC format; no other class is enabled. -/
def vector (c : Nat) : Word :=
  match vectors.find? fun v => v.1 == c with
  | some v => setFld (setFld 0 F.DEN_VEC_ENTRY v.2) F.DEN_VEC_EN 1
  | none => 0

/-- DENdd_REGION_0: LO 0, HI 8,191. -/
def region : Word := setFld (setFld 0 F.DEN_REGION_LO 0) F.DEN_REGION_HI 8191

/-- Every den takes it, loaded from index 0 on. -/
def inst : Nat := 0xFFFF
def dst : Nat := 0

/-- The segment's bytes. -/
def segment : List Byte :=
  (upTo 64).flatMap (fun c => leBytes 4 (vector c).toNat) ++ leBytes 4 region.toNat ++ leBytes 4 dst ++ program.flatMap (fun w => leBytes 8 w.toNat)

end Stock

end Sys2Proof.Machine
end

