-- ==== Sys2Proof/Safety.lean ====
section
/-! DEFINITION. What a safe run is, and the conditions under which the commands that are register writes and reads take
effect, in the terms the statements use. -/

namespace Sys2Proof.Machine

namespace State

/-- Every waiting command is one the part can be given: nothing in the queue will be refused. -/
abbrev QueueOk (s : State) : Prop := ∀ c ∈ s.pending, c.wf = true

/-- The tables of registers, of control memory, of the flash devices and of messages are in canonical form: keys rising, no entry
that equals what an unlisted key holds; and no request waits for a DMF, which serves each within the command that delivers it (R329). -/
abbrev Tidy (s : State) : Prop :=
  s.sett.dmfIn = [] ∧ s.regs.wf resetWord = true ∧ s.cmem.wf zeroByte = true ∧ s.flash0.wf erasedByte = true ∧ s.flash1.wf erasedByte = true ∧
  s.wen.msgs.wf dNone = true

/-- A write of a word by a master passes every check (R434), the register's power domain is on (R505), and its clock island is not
in Dusk: in Dusk the access first wakes it (R508, Obligations.PowerClocksNight). -/
abbrev takes (s : State) (m a : Nat) (v : Word) : Prop :=
  s.nightShut m = false ∧ s.checkAcc (.word m true a v.toNat) = none ∧ s.powered a = true ∧ s.asleep (islandOf a) = false

/-- A read of a word by a master passes every check; likewise. -/
abbrev readOk (s : State) (m a : Nat) : Prop :=
  s.nightShut m = false ∧ s.checkAcc (.word m false a 0) = none ∧ s.asleep (islandOf a) = false

/-- The part is not in the safe state (R470). -/
abbrev live (s : State) : Prop := s.get R.GLB_MODE F.GLB_MODE_CUR ≠ 7

end State

/-- Registers of blocks GRD, GLB, PWR, FLT and SLOT that a write changes by their field types alone (R10): no write of them does
anything else. -/
def plainReg (a : Nat) : Bool :=
  match blockBit a with
  | some 0 => !([R.GLB_MODE, R.GLB_RESET, R.GLB_GRP_RESET, R.GLB_BOOT_CONFIRM].contains a)
      && !(decide (0x100 ≤ a) && decide (a < 0x200) && decide (a % 16 = 0))
  | some 1 => !([R.PWR_PD_CTL, R.PWR_DUSK_EN_0, R.PWR_DUSK_EN_1, R.PWR_NIGHT_CFG, R.PWR_PAD_HOLD_RELEASE].contains a)
  | some 2 => !([R.FLT_ACK, R.FLT_DOM_SEL, R.FLT_SAFE].contains a)
  | some 7 => decide (a < 0x70400) && !([0x00, 0x04, 0x34].contains (a % 64))
  | some 8 => true
  | _ => false

/-- `n` steps in a row, up to the first that stops. -/
def steps : Nat → State → Res'
  | 0, s => .next s
  | n + 1, s =>
    match step s with
    | .next t => steps n t
    | r => r

/-- A run is safe for `n` steps: no fault and no refusal in it. -/
def SafeFor (n : Nat) (s : State) : Prop := ∃ t, steps n s = .next t

/-! ### Resets (02_modes_and_boot.md) -/

/-- What a cold reset with a cause leaves (R75, R77, R618): every register at its reset value but those that report the reset
and the OTP; control memory 0; nothing in flight anywhere; the OTP kept; every link that was up gone. -/
def ColdLeft (s t : State) (cause : Nat) : Prop :=
  t.mode = 0 ∧ t.get R.GLB_MODE F.GLB_MODE_PREV = s.mode ∧ t.get R.GLB_BOOT_STATUS F.GLB_BOOT_STATUS_CAUSE = cause ∧
  (∀ a, a ≠ R.GLB_MODE → a ≠ R.GLB_BOOT_STATUS → a ≠ R.SEC_KEYS → a ≠ R.SEC_STAT → t.rd a = resetWord a) ∧
  (∀ o, t.cmem.get zeroByte o = 0) ∧ t.now = 0 ∧ (∀ P, P < 128 → s.portUp P = true → Output.linkDown P ∈ t.out) ∧
  (s.chan.flashQ = [] → t.flash0 = s.flash0 ∧ t.flash1 = s.flash1) ∧
  (s.sec.mb = none → t.sec = { keys := s.sec.keys, floor := s.sec.floor, provLock3 := s.sec.provLock3, debugNever3 := s.sec.debugNever3 }) ∧
  t = { State.reset with
    pending := s.pending, free := t.free, regs := t.regs, out := t.out, flash0 := t.flash0, flash1 := t.flash1
    flashSize := s.flashSize, sec := t.sec, boot := t.boot }

/-- What a warm reset with a cause leaves of a state with no flash operation and no mailbox command in progress (R14, R66, R75,
R77, R618): the fields whose scope it covers at their reset values, the others kept; control memory but for the banks to be
retained 0; every link that was up gone; PERST_N asserted at every slot with its power kept, and a slot that is OFF unbound (R477). -/
def WarmLeft (s t : State) (cause : Nat) : Prop :=
  t.mode = 0 ∧ t.get R.GLB_MODE F.GLB_MODE_PREV = s.mode ∧ t.get R.GLB_BOOT_STATUS F.GLB_BOOT_STATUS_CAUSE = cause ∧
  (∀ img, t.get R.GLB_BOOT_STATUS (State.resultFld img)
    = if cause = 4 ∨ cause = 5 then s.get R.GLB_BOOT_STATUS (State.resultFld img) else 0) ∧
  t.get R.GLB_BOOT_STATUS F.GLB_BOOT_STATUS_REC = s.get R.GLB_BOOT_STATUS F.GLB_BOOT_STATUS_REC ∧
  (∀ a f, f ∈ fieldsAt a → a ≠ R.GLB_MODE → a ≠ R.GLB_BOOT_STATUS → a ≠ R.FLT_STAT → a ≠ R.PWR_PD_STAT →
    (∀ sc, sc < 16 → a ≠ R.SLOT_STAT sc) →
    t.get a f = if f.rk = .cold ∨ f.rk = .none then s.get a f else fldOf (resetWord a) f) ∧
  (∀ sc, sc < 16 → t.sst sc F.SLOT_STAT_PERST = 1 ∧ t.slotState sc = s.slotState sc) ∧
  (∀ sc, sc < 16 → t.slot sc = if s.slotState sc = 0 then { s.slot sc with bind := none } else s.slot sc) ∧
  (∀ o, t.cmem.get zeroByte o
    = if bit (s.get R.PWR_NIGHT_KEEP F.PWR_NIGHT_KEEP_KEEP) (o / 0x100000) then s.cmem.get zeroByte o else 0) ∧
  (∀ P, P < 128 → s.portUp P = true → Output.linkDown P ∈ t.out) ∧
  (∀ b i, b < 35 → i < 64 → t.tel.ctr.get dZero (b * 64 + i) = 0) ∧ t.owl.timers = [] ∧
  (∀ d, (t.domSt d).st = if (s.domSt d).st = 1 then 0 else (s.domSt d).st) ∧
  t.sec = { s.sec with nonce := none, mb := none, sessions := [], slh := none, halted := [] } ∧
  t = { State.reset with
    pending := s.pending, now := s.now, free := s.free, regs := t.regs, out := t.out, faults := s.faults
    cmem := t.cmem, flash0 := s.flash0, flash1 := s.flash1, flashSize := s.flashSize, boot := t.boot, pwr := t.pwr, sec := t.sec
    slots := t.slots, owl := t.owl, tel := t.tel }

/-! ### Fabric links (03_lanes.md, 04_woell_link.md) -/

/-- The state `t` that a retrain with a cause leaves from `s` (R155 to R158): RETRAIN, or FAILED when the limit of retrains
within 1 s is passed; the replay buffer, the pools and a swap gone, the lanes kept; a broken link, a protocol error and a loss
of alignment reported. -/
def Retrained (s t : State) (g p cause : Nat) : Prop :=
  let recent := (s.link g p).retrainAt.filter fun x => decide (s.now < x + 1000000000)
  let failed := max 1 (s.get (R.GRP_LINK_CTL g p) F.GRP_LINK_CTL_RT_LIM) < recent.length + 1
  t.linkState g p = (if failed then 6 else 5) ∧ t.get (R.GRP_LINK_STAT g p) F.GRP_LINK_STAT_CAUSE = cause ∧
  t.link g p = { State.cleanLink (s.link g p) (s.link g p).lanes with retrainAt := recent ++ [s.now] } ∧
  (cause = 1 ∨ cause = 2 → ⟨g * 8 + p, 0x01, none, none, cause⟩ ∈ t.faults) ∧
  (cause = 4 ∨ cause = 5 → ⟨g * 8 + p, 0x02, none, none, cause⟩ ∈ t.faults)

/-- The state `t` after a rate step of a link has failed from `s` (R115): the link runs at the rate before the step, which is now its
target, and its lanes repeat DONE. -/
def Stepped (s t : State) (g p : Nat) : Prop :=
  let r := (s.link g p).prevRate
  t.linkState g p = s.linkState g p ∧ t.linkRate g p = r ∧ (t.link g p).phase = 5 ∧ (t.link g p).target = r ∧
  (t.link g p).lanes = (s.link g p).lanes ∧ t.out = .training g p (t.trainingRecs g p) :: s.out ∧
  (∀ n ∈ (s.link g p).lanes, t.get (R.GRP_LANE_CTL g n) F.GRP_LANE_CTL_RATE = r ∧ t.laneAligned g n = false)

/-- The state `t` in which a link has started bring-up from `s` (R112, R113, R120, R162): TRAINING at W1 on the chosen lanes, phase
ALIGN; its island is awake and an entry to Night that had begun is abandoned (R508, R513); every other register of the part, but the
lanes', is left. -/
def Training (s t : State) (g p : Nat) (ks : List Nat) : Prop :=
  let ls := ks.map (s.physLane g p)
  let u := (s.nightFail 1).wakeIsland (8 + g)
  t.linkState g p = 1 ∧ t.linkRate g p = 8 ∧ t.get (R.GRP_LINK_STAT g p) F.GRP_LINK_STAT_WIDTH = widthCode ls.length ∧
  t.link g p = State.cleanLink (s.link g p) ls ∧ t.out = .training g p (t.trainingRecs g p) :: s.out ∧
  (∀ n ∈ ls, t.get (R.GRP_LANE_CTL g n) F.GRP_LANE_CTL_RATE = 8 ∧ t.laneAligned g n = false) ∧
  (∀ a, a ≠ R.GRP_LINK_STAT g p → (∀ n, n < 17 → a ≠ R.GRP_LANE_CTL g n) → t.rd a = u.rd a) ∧
  t = { u with regs := t.regs, lanes := t.lanes, links := t.links, out := t.out }

/-! ### Packets and PCI Express ports (05_pcie_host_domains.md, 06_switch_core.md) -/

/-- The state `t` in which a packet has entered the switch from `s` (R19, R209, R238, R240, R241, R245, R620): it has the next
number, stands last in its ingress port and class, its bytes are written as far as cells were found, and its header waits at its
den; the islands of the switch core and of the den are awake (R31). -/
def Arrived (s t : State) (k : Pkt) : Prop :=
  let pid := s.sett.nextPid
  t.sett.nextPid = pid + 1 ∧
  (∃ cells left, cells.length + left = k.need ∧
    t.pkt pid = some { k with cells := cells, left := left, refs := 0, arr := s.now }) ∧
  t.sett.order.get dNil (k.port * 8 + k.tc) = s.sett.order.get dNil (k.port * 8 + k.tc) ++ [pid] ∧
  (pid ∈ (t.den k.den).prio ∨ pid ∈ (t.den k.den).norm ∨ pid ∈ (t.den k.den).spill ∨ pid ∈ (t.den k.den).spillP) ∧
  t.asleep 7 = false ∧ t.asleep (24 + k.den / 4) = false ∧
  (∀ ci, ci < 32 → ci ≠ 7 → ci ≠ 24 + k.den / 4 → t.asleep ci = s.asleep ci) ∧
  (∀ a, a ≠ R.SETT_STAT → a ≠ R.DEN_HQ_STAT k.den → a ≠ R.PWR_DUSK_STAT_0 → t.rd a = s.rd a) ∧
  t = { s with regs := t.regs, sett := t.sett, dens := t.dens, tel := t.tel }

/-- A downstream port whose configuration gives it, sampled now, the place it has (R168, R172, R207). -/
abbrev Seated (s : State) (P : Nat) : Prop :=
  s.upOf P = none ∧ (s.dom (s.roleHd P)).on = true ∧ s.get (R.GRP_PCIE_CFG (P / 8) (P % 8)) F.GRP_PCIE_CFG_HD = s.roleHd P ∧
  s.get (R.GRP_PCIE_CFG (P / 8) (P % 8)) F.GRP_PCIE_CFG_VDEV = s.roleVdev P ∧
  (s.on (R.GRP_PCIE_CFG (P / 8) (P % 8)) F.GRP_PCIE_CFG_SHARED = true ↔ s.role P = 3) ∧
  ∀ Q, Q < 128 → Q ≠ P → s.isPcie Q = true → 2 ≤ s.role Q → s.roleHd Q = s.roleHd P → s.roleVdev Q ≠ s.roleVdev P

/-- What a port reset leaves of a PCI Express port (R75, R168, R195): the link down, no request tracked, no credit. -/
def PortWasReset (t : State) (P : Nat) : Prop :=
  t.get (State.statA P) F.GRP_PCIE_STAT_UP = 0 ∧ (t.port P).tracked = [] ∧ (t.port P).hdrCr = [] ∧ (t.port P).dataCr = []

/-! ### Dens (07_forwarding_model.md, 08_kolzen_isa.md) -/

/-- The thread's next instruction is the word `w` with opcode `op`, and it is the one its fox issues next: its job does not wait, no
other ready thread of the fox has an older last issue, its program counter lies in its vector set's region, and the word is sound
and legal (R259, R265, R281, R283, R291). -/
abbrev Issues (s : State) (th : Thr) (op : Nat) (w : DWord) (j : Job) : Prop :=
  s.job th = some j ∧ j.wait = none ∧ s.due th = true ∧ s.get (R.DEN_REGION th.den j.set) F.DEN_REGION_LO ≤ j.pc ∧
  j.pc ≤ s.get (R.DEN_REGION th.den j.set) F.DEN_REGION_HI ∧ j.pc < 16384 ∧ (s.den th.den).badProg.contains j.pc = false ∧
  (s.den th.den).sglProg.contains j.pc = false ∧ (s.den th.den).prog.get dInstr j.pc = w ∧ illegal w = false ∧ kOp w = op

/-- The job of a thread that issues, once counted (R283, R284): the cycle of the issue, and the next in which the thread is ready. -/
def Fetched (s : State) (th : Thr) (op : Nat) (j : Job) : Job :=
  let c := (s.den th.den).nextCycle th.fox
  { j with issued := j.issued + 1, act := c, last := c, ready := c + kInterval op }

/-- The state `t` after a thread's instruction has run from `s`: the den is `D` but for the thread's job, now `j`, the cycles its
fox's other ready threads were passed over, the fox's cycle, and the count of instructions in units of 16; every other den, every
other register and everything else are as before. -/
def Ran (s t : State) (D : Den) (th : Thr) (j : Job) : Prop :=
  let c := (s.den th.den).nextCycle th.fox
  let a := R.DEN_JOB_CYC th.den
  t.job th = some j ∧
  t.den th.den = { D with
    jobs := (D.jobs.mapAll dNone (State.passOver th c)).put dNone (thrKey th) (some j)
    cyc := D.cyc.put dZero th.fox (c + 1), cycRem := if D.cycRem = 15 then 0 else D.cycRem + 1 } ∧
  (∀ d, d ≠ th.den → t.den d = s.den d) ∧
  t.get a F.DEN_JOB_CYC_ISSUED
    = (if D.cycRem = 15 then min (2 ^ 32 - 1) (s.get a F.DEN_JOB_CYC_ISSUED + 1) else s.get a F.DEN_JOB_CYC_ISSUED) ∧
  (∀ r, r ≠ a → t.rd r = s.rd r) ∧
  t = { s with regs := t.regs, dens := t.dens, tel := t.tel }

/-- The state `t` after a job has ended from `s` with a descriptor and an exception code, 0 for none (R242, R243, R267, R310): its
thread is free, its descriptor is last in the release buffer unless its packet is gone, it waits for no resource, and PROG_STAT
counts the jobs left. `others` is what an issue does to the other threads' jobs. -/
def Finished (s t : State) (th : Thr) (j : Job) (d : Desc) (view : List Byte) (exc : Nat) (others : Nat → Option Job → Option Job) : Prop :=
  t.job th = none ∧
  (t.den th.den).rel = (s.den th.den).rel ++ (if (s.pkt j.pid).isSome then [⟨j.pid, d, view, exc⟩] else []) ∧
  t.get (R.DEN_PROG_STAT th.den) F.DEN_PROG_STAT_RUNNING = ((t.den th.den).jobs.filterMap (·.2)).length % 256 ∧
  (∀ k, k ≠ thrKey th → (t.den th.den).job k = others k ((s.den th.den).job k)) ∧ (∀ e, e ≠ th.den → t.den e = s.den e) ∧
  (t.den th.den).tbl = (s.den th.den).tbl ∧ (t.den th.den).prog = (s.den th.den).prog ∧
  (t.den th.den).meters = (s.den th.den).meters ∧ (t.den th.den).ctrs = (s.den th.den).ctrs ∧
  (∀ r, (t.den th.den).waitq.get dNil r = ((s.den th.den).waitq.get dNil r).filter (·.2 != thrKey th)) ∧
  (j.wait = none → (t.den th.den).post = (s.den th.den).post) ∧
  (∀ x, j.wait = some x → kOp x.word = 0x29 → (t.den th.den).post = (s.den th.den).post ++ [State.cntOperands j x.word]) ∧
  t = { s with free := t.free, regs := t.regs, faults := t.faults, dens := t.dens, tel := t.tel }

/-- The state `t` after an exception has ended a job (R273 to R275, R316): the descriptor is DROP, or TRAP by EXC_CFG, with
REASON 0x80 + code; the view is the packet's; the first exception is logged and reported, every one is counted. -/
def Excepted (s t : State) (th : Thr) (j : Job) (code : Nat) (others : Nat → Option Job → Option Job) : Prop :=
  let a := R.DEN_EXC_STAT th.den
  let act := if s.get (R.DEN_EXC_CFG th.den) F.DEN_EXC_CFG_ACT = 1 then 2 else 1
  let tc := match s.pkt j.pid with | some k => k.tc | none => 0
  let view := match s.pkt j.pid with | some k => padTo 128 k.bytes | none => []
  Finished s t th j { f := [act, 0, 0, tc, 0, 0, 0x80 + code, 0, 0, 0, 0, 0, 0, 0], actionSet := true } view code others ∧
  t.get (R.DEN_EXC_CNT th.den) F.DEN_EXC_CNT_COUNT = min (2 ^ 32 - 1) (s.get (R.DEN_EXC_CNT th.den) F.DEN_EXC_CNT_COUNT + 1) ∧
  (s.on a F.DEN_EXC_STAT_VALID = false → t.get a F.DEN_EXC_STAT_VALID = 1 ∧ t.get a F.DEN_EXC_STAT_CODE = code % 16 ∧
    t.get a F.DEN_EXC_STAT_PC = j.pc % 16384 ∧ t.get a F.DEN_EXC_STAT_FOX = th.fox % 32 ∧
    t.get a F.DEN_EXC_STAT_THREAD = th.thread % 4 ∧ ⟨0x90 + th.den, 0x18, none, none, code⟩ ∈ t.faults) ∧
  (s.on a F.DEN_EXC_STAT_VALID = true → t.rd a = s.rd a) ∧
  (∀ r, r ≠ a → r ≠ R.DEN_EXC_CNT th.den → r ≠ R.DEN_ECC_CNT th.den → r ≠ R.DEN_PROG_STAT th.den → r ≠ R.DEN_JOB_CYC th.den →
    r ≠ R.TEL_SPOOR_CNT → t.rd r = s.rd r)

/-! ### Slots (15_slot_power.md) -/

/-- The state `t` that a trip of slot `sc` leaves from `s` (R484, R492): DRAIN with both gates off, PERST_N asserted and no
power-good; the cause in TRIP; the count of its class one higher; the fault message sent; Power Fault Detected set and Power
Controller Control off in the bound port, with the hot-plug interrupt where it is enabled (R499); and nothing else changed. -/
def SlotTripped (s t : State) (sc cause feed : Nat) : Prop :=
  t.sst sc F.SLOT_STAT_STATE = 6 ∧ t.sst sc F.SLOT_STAT_FEED = 0 ∧ t.sst sc F.SLOT_STAT_PERST = 1 ∧ t.sst sc F.SLOT_STAT_PG = 0 ∧
  t.sst sc F.SLOT_STAT_HELD = 0 ∧ t.sst sc F.SLOT_STAT_TRIP = cause ∧ t.sst sc F.SLOT_STAT_PRSNT = s.sst sc F.SLOT_STAT_PRSNT ∧
  t.get (R.SLOT_CNT sc) F.SLOT_CNT_TRIPS
    = (if cause ≤ 2 then min 255 (s.get (R.SLOT_CNT sc) F.SLOT_CNT_TRIPS + 1) else s.get (R.SLOT_CNT sc) F.SLOT_CNT_TRIPS) ∧
  t.get (R.SLOT_CNT sc) F.SLOT_CNT_PG_FAIL
    = (if cause ≤ 2 ∨ cause = 5 then s.get (R.SLOT_CNT sc) F.SLOT_CNT_PG_FAIL
       else min 255 (s.get (R.SLOT_CNT sc) F.SLOT_CNT_PG_FAIL + 1)) ∧
  t.faults = s.faults ++ [⟨0xD0 + sc, if cause ≤ 2 then 0x40 else 0x42, none, none, feed + 16 * cause⟩] ∧
  (∀ P, s.slotPort sc = some P →
    bit (t.cfgWord (s.roleHd P) (2 + s.roleVdev P) .slotStatus).toNat 1 = true ∧
    bit (t.cfgWord (s.roleHd P) (2 + s.roleVdev P) .slotControl).toNat 10 = true) ∧
  (s.slotPort sc = none → t.out = s.out) ∧
  (∀ P, s.slotPort sc = some P →
    let ctl := (t.cfgWord (s.roleHd P) (2 + s.roleVdev P) .slotControl).toNat
    let w := s.cfgWord (s.roleHd P) (2 + s.roleVdev P) .slotStatus
    t.out = if State.hotPlugDue ctl (w ||| 2).toNat && !State.hotPlugDue ctl w.toNat
      then .hotPlug (s.roleHd P) (s.roleVdev P) :: s.out else s.out) ∧
  (t.slot sc).turnOff = false ∧ (t.slot sc).want = false ∧ (t.slot sc).slowA = false ∧ (t.slot sc).slowB = false ∧ (∀ k, k ≠ sc → t.slot k = s.slot k) ∧
  (∀ a, a ≠ R.SLOT_STAT sc → a ≠ R.SLOT_CNT sc → t.rd a = s.rd a) ∧
  t = { s with regs := t.regs, out := t.out, doms := t.doms, slots := t.slots, faults := t.faults }

end Sys2Proof.Machine
end

