-- ==== Sys2Proof/Certificates/Slice0/Obligations.lean ====
section
/-! DEFINITION. The statements for the provers: the rules of the spec, family by family, over the states and operands of the
model. A statement says of each command that it answers the next state the rules give, under conditions on the state and the
operands alone; a next state written out in full is also the command's frame. -/

open Sys2Proof Sys2Proof.Machine

/-- A step runs the command at the front of the queue on the state with the queue's rest. On an empty queue the part idles: the
timebase counts and reads held at a fence return (the model's choice, notes/assumptions/1.md and notes/assumptions/97.md); while no read
and no answer is held, nothing but the timebase and the offset being slewed changes (the slew of R367). -/
def Obligations.StepRunsFront : Prop := ∀ (s : State) (c : Instr),
  step (s.withFront c) = exec c s ∧
  (s.pending = [] → step s = .next (tick s).fencesReturn) ∧
  (s.pending = [] → s.tblw.fences = [] → s.tblw.answers = [] → s.fab.slew = 0 → step s = .next { s with now := s.now + 1 }) ∧
  (s.pending = [] → s.tblw.fences = [] → s.tblw.answers = [] → ∃ t, step s = .next t ∧ s.now ≤ t.now ∧ t.now ≤ s.now + 2 ∧ t = { s with now := t.now, fab := t.fab } ∧
    t.fab = { s.fab with slew := t.fab.slew, slewDiv := t.fab.slewDiv } ∧ t.fab.slew.natAbs ≤ s.fab.slew.natAbs)

/-- The state after reset holds no waiting command and keeps its tables in canonical form, so both invariants hold there.
Clauses on points the spec leaves open follow the model's reading: notes/assumptions/3.md, notes/assumptions/4.md,
notes/assumptions/9.md. -/
def Obligations.ResetInvariants : Prop := State.reset.QueueOk ∧ State.reset.pending = [] ∧ State.reset.Tidy

/-- Every step keeps the queue's invariant and gets through: from any state whose waiting commands exist on the part, the
step is a next state, takes at most the front command, and leaves a queue of commands that exist; so runs of any length are safe, and
the queue drains.
Clauses on points the spec leaves open follow the model's reading: notes/assumptions/93.md. -/
def Obligations.QueueInvariant : Prop := ∀ s : State, s.QueueOk →
  (∃ t, step s = .next t ∧ t.QueueOk ∧ t.pending = s.pending.tail) ∧
  (∀ n, SafeFor n s ∧ ∃ t, steps n s = .next t ∧ t.pending = s.pending.drop n ∧ t.QueueOk)

/-- Every step keeps the canonical form of the tables: of registers, of control memory, of both flash devices, of messages; and leaves no
request waiting for a DMF.
Clauses on points the spec leaves open follow the model's reading: notes/assumptions/9.md. -/
def Obligations.TidyInvariant : Prop := ∀ s t : State, s.Tidy → step s = .next t → t.Tidy

/-- What names an object the part does not have, or holds an operand no field can hold, is refused; nothing else ever is.
Clauses on points the spec leaves open follow the model's reading: notes/assumptions/93.md. -/
def Obligations.OnlyIllFormedRefused : Prop := ∀ (c : Instr) (s : State),
  (c.wf = false → exec c s = .refused .illFormed) ∧ (c.wf = true → ∃ t, exec c s = .next t ∧ t.pending = s.pending)

/-- R10, R569: a word written whole to a register with no effect of its own, on a path that may, takes effect field by field;
every other register, and all else, is left. A write that covers only part of a register is discarded; one of a register whose
domain is off is discarded and counted (R505); a write of a reserved range is ignored. -/
def Obligations.WritesByFieldType : Prop := ∀ (s : State) (m a : Nat) (v : Word), masterOk m = true →
  (a % 4 = 0 → plainReg a = true → s.gateLocked a = false → s.takes m a v →
  ∃ t, exec (.registerWrite m a v) s = .next t ∧
    (∀ f ∈ fieldsAt a, t.get a f =
      match f.ty with
      | .rw => fldOf v f
      | .w1c => fldOf (s.rd a &&& ~~~v) f
      | .w1s => fldOf (s.rd a ||| v) f
      | _ => s.get a f) ∧
    (∀ b, b ≠ a → t.rd b = s.rd b) ∧ t = { s with regs := t.regs }) ∧
  (a + 4 ≤ 0x2000000 →
  s.nightShut m = false → s.checkAcc (.word m true a v.toNat) = none → s.asleep (islandOf a) = false →
  s.asleep (islandOf (a / 4 * 4)) = false → s.asleep (islandOf (a / 4 * 4 + 4)) = false →
  (a % 4 ≠ 0 → State.byteSpace a = false → s.powered (a / 4 * 4) = true → s.powered (a / 4 * 4 + 4) = true →
    exec (.registerWrite m a v) s = .next s) ∧
  (a % 4 = 0 → State.byteSpace a = false → s.powered a = false →
    exec (.registerWrite m a v) s = .next (s.inc R.PWR_LP_STAT F.PWR_LP_STAT_OFF_ACC 1)) ∧
  (a % 4 = 0 → blockBit a = none → exec (.registerWrite m a v) s = .next s))

/-- R448, R450, R451: a refused access is not performed; it is counted, and logged and reported when the log is free. -/
def Obligations.RefusedWriteIsLogged : Prop := ∀ (s : State) (m a : Nat) (v : Word) (k i x : Nat), masterOk m = true →
  a % 4 = 0 → a < 0x4000000 → s.nightShut m = false → s.checkAcc (.word m true a v.toNat) = some (k, i, x) →
  ∃ t, exec (.registerWrite m a v) s = .next t ∧
    t.get (R.GRD_VCNT m) F.GRD_VCNT_COUNT = min (2 ^ 32 - 1) (s.get (R.GRD_VCNT m) F.GRD_VCNT_COUNT + 1) ∧
    t.get (R.GRD_VLOG m) F.GRD_VLOG_VALID = 1 ∧
    (s.on (R.GRD_VLOG m) F.GRD_VLOG_VALID = true →
      t.rd (R.GRD_VLOG m) = s.rd (R.GRD_VLOG m) ∧ t.rd (R.GRD_VADDR m) = s.rd (R.GRD_VADDR m) ∧ t.faults = s.faults) ∧
    (s.on (R.GRD_VLOG m) F.GRD_VLOG_VALID = false →
      t.get (R.GRD_VLOG m) F.GRD_VLOG_KIND = k ∧ t.get (R.GRD_VLOG m) F.GRD_VLOG_INDEX = i ∧
      t.get (R.GRD_VLOG m) F.GRD_VLOG_ACC = 1 ∧ t.get (R.GRD_VLOG m) F.GRD_VLOG_PRIV = 1 ∧
      t.get (R.GRD_VADDR m) F.GRD_VADDR_ADDR = x ∧
      t.faults = s.faults ++ [⟨State.violSource m k i, 0x2A, none, some x, m⟩]) ∧
    t.out = (if m < 4 then .accessFault m x :: s.out else s.out) ∧
    (∀ b, b ≠ R.GRD_VLOG m → b ≠ R.GRD_VADDR m → b ≠ R.GRD_VCNT m → t.rd b = s.rd b) ∧
    t = { s with regs := t.regs, faults := t.faults, out := t.out }

/-- R443, R445, R446, R450: what a rights bitmap or a gate does not admit is refused, with its kind and index.
Clauses on points the spec leaves open follow the model's reading: notes/assumptions/15.md. -/
def Obligations.RightsAndGatesRefuse : Prop := ∀ (s : State) (m a b k : Nat) (v : Word), m < 16 → a < 0x4000000 →
  s.nightShut (16 + m) = false →
  (blockBit a = some b → bit (s.rd (R.GRD_HR_WR m)).toNat b = false →
    exec (.registerWrite (16 + m) a v) s = .next (s.violate (.word (16 + m) true a v.toNat) 5 b a)) ∧
  (blockBit a = some b → bit (s.rd (R.GRD_HR_WR m)).toNat b = true →
    s.objectOk (.word (16 + m) true a v.toNat) m a = false →
    exec (.registerWrite (16 + m) a v) s = .next (s.violate (.word (16 + m) true a v.toNat) 6 0 a)) ∧
  (gateOf a = some k → s.rightsEnd (.word (16 + m) true a v.toNat) m a = none →
    s.rightsEnd (.word (16 + m) true a v.toNat) m (a + 3) = none →
    bit (s.rd (R.GRD_GATE_WR k)).toNat (16 + m) = false →
    exec (.registerWrite (16 + m) a v) s = .next (s.violate (.word (16 + m) true a v.toNat) 4 k a)) ∧
  (gateOf a = some k → s.rightsEnd (.word (16 + m) false a 0) m a = none → s.rightsEnd (.word (16 + m) false a 0) m (a + 3) = none →
    a = R.GRD_FENCE →
    bit (s.rd (R.GRD_GATE_RD k)).toNat (16 + m) = false →
    exec (.guardFence (16 + m)) s = .next (s.violate (.word (16 + m) false a 0) 4 k a))

/-- R444, R454: a gate takes a write until LOCK is set, and none after it; a read of GRD_FENCE returns 0 once every access checked before
it has retired, and is held until then. -/
def Obligations.GateLockAndFence : Prop := ∀ (s : State) (m k : Nat) (v : Word), masterOk m = true → k < 6 →
  (s.takes m (R.GRD_GATE_CTL k) v → s.on (R.GRD_GATE_CTL k) F.GRD_GATE_CTL_LOCK = false →
    ∃ t, exec (.gateLock m k v) s = .next t ∧ t.get (R.GRD_GATE_CTL k) F.GRD_GATE_CTL_PRIV = fldOf v F.GRD_GATE_CTL_PRIV ∧
      t.get (R.GRD_GATE_CTL k) F.GRD_GATE_CTL_LOCK = fldOf v F.GRD_GATE_CTL_LOCK ∧
      (∀ a, a ≠ R.GRD_GATE_CTL k → t.rd a = s.rd a) ∧ t = { s with regs := t.regs }) ∧
  (s.takes m (R.GRD_GATE_CTL k) v → s.on (R.GRD_GATE_CTL k) F.GRD_GATE_CTL_LOCK = true →
    exec (.gateLock m k v) s = .next s) ∧
  (∀ a, (a = R.GRD_GATE_RD k ∨ a = R.GRD_GATE_WR k) → s.takes m a v → s.on (R.GRD_GATE_CTL k) F.GRD_GATE_CTL_LOCK = true →
    exec (.registerWrite m a v) s = .next s) ∧
  (s.readOk m R.GRD_FENCE → s.tblw.fences = [] → s.flashFills s.chan.flashNo = false →
    exec (.guardFence m) s = .next (s.emit (.readData m R.GRD_FENCE [0, 0, 0, 0]))) ∧
  (s.readOk m R.GRD_FENCE → (s.tblw.fences ≠ [] ∨ s.flashFills s.chan.flashNo = true) → ∃ x, x.m = m ∧ x.addr = R.GRD_FENCE ∧
    x.flash = s.chan.flashNo ∧ exec (.guardFence m) s = .next { s with tblw := { s.tblw with fences := s.tblw.fences ++ [x] } })

/-- R437 to R441, R449, R450, R569: the accesses of a control processor to control memory, by bytes, and the access fault of
one whose privilege no region allows. -/
def Obligations.CpAccessControlMemory : Prop := ∀ (s : State) (x : CpAcc), x.wf = true → inCmem x.addr = true →
  x.addr + x.size ≤ 0x2000000 → s.nightShut x.cp = false → s.asleep (islandOf x.addr) = false →
  let acc : Acc := ⟨x.cp, decide (x.kind = .write), decide (x.kind = .fetch), x.user, x.cacheable, x.ordered, x.addr, x.size, leNat x.data⟩
  (s.checkAcc acc = none → x.kind = .write →
    ∃ t, exec (.cpAccess x) s = .next t ∧ t.cmemBytes (x.addr - 0x1000000) x.size = x.data ∧
      (∀ o, o < x.addr - 0x1000000 ∨ x.addr - 0x1000000 + x.size ≤ o → t.cmem.get zeroByte o = s.cmem.get zeroByte o) ∧
      t = { s with cmem := t.cmem }) ∧
  (s.checkAcc acc = none → x.kind ≠ .write →
    exec (.cpAccess x) s = .next (s.emit (.readData x.cp x.addr (s.cmemBytes (x.addr - 0x1000000) x.size)))) ∧
  (∀ k i b, s.checkAcc acc = some (k, i, b) →
    exec (.cpAccess x) s = .next (s.violate acc k i b) ∧ Output.accessFault x.cp b ∈ (s.violate acc k i b).out ∧
    (s.violate acc k i b).cmem = s.cmem) ∧
  (x.user = true → (∀ r, r < 16 → s.covers x.cp r x.addr = false) → s.checkAcc acc = some (1, 16, x.addr)) ∧
  (x.user = false → (∀ r, r < 16 → s.covers x.cp r x.addr = false) →
    (∀ r, r < 16 → s.covers x.cp r (x.addr + x.size - 1) = false) → s.checkAcc acc = none)

/-- R75, R78, R611: what starts a cold reset, and what it leaves.
Clauses on points the spec leaves open follow the model's reading: notes/assumptions/3.md, notes/assumptions/52.md. -/
def Obligations.ColdResets : Prop := ∀ (s : State) (m ns : Nat) (v : Word), masterOk m = true →
  (s.takes m R.GLB_RESET v → fldOf v F.GLB_RESET_KEY = 0xD2C7 → fldOf v F.GLB_RESET_COLD = 1 →
    ∃ t, exec (.coldReset m v) s = .next t ∧ exec (.warmReset m v) s = .next t ∧ ColdLeft s t 2) ∧
  (5000 ≤ ns →
    (∃ t, exec (.resetPinLow .pwrok ns) s = .next t ∧ ColdLeft s t 0 ∧ t.boot = { sysRstN := s.boot.sysRstN }) ∧
    (∃ t, exec (.resetPinLow .sysRstN ns) s = .next t ∧ ColdLeft s t 1 ∧ t.boot = { pwrok := s.boot.pwrok })) ∧
  (ns < 5000 → ∀ pin, exec (.resetPinLow pin ns) s = .next s) ∧
  (s.takes m R.GLB_RESET v → fldOf v F.GLB_RESET_KEY ≠ 0xD2C7 → exec (.coldReset m v) s = .next s ∧ exec (.warmReset m v) s = .next s)

/-- R14, R66, R75, R77, R618: what a warm reset leaves.
Clauses on points the spec leaves open follow the model's reading: notes/assumptions/33.md, notes/assumptions/52.md,
notes/assumptions/90.md. -/
def Obligations.WarmResets : Prop := ∀ (s : State) (m : Nat) (v : Word), masterOk m = true → s.takes m R.GLB_RESET v →
  fldOf v F.GLB_RESET_KEY = 0xD2C7 → fldOf v F.GLB_RESET_COLD = 0 → s.chan.flashQ = [] → s.sec.mb = none →
  (fldOf v F.GLB_RESET_WARM = 1 → ∃ t, exec (.warmReset m v) s = .next t ∧ exec (.coldReset m v) s = .next t ∧ WarmLeft s t 3) ∧
  (fldOf v F.GLB_RESET_WARM = 0 → exec (.warmReset m v) s = .next s)

/-- R14, R15, R16, R50, R74, R441, R443, R446: the values of State.reset that the spec states. -/
def Obligations.ResetValues : Prop :=
  State.reset.mode = 0 ∧   (∀ k, k < 6 → State.reset.on (R.GRD_GATE_CTL k) F.GRD_GATE_CTL_PRIV = true ∧ State.reset.on (R.GRD_GATE_CTL k) F.GRD_GATE_CTL_LOCK = false) ∧
  (∀ m r, m < 9 → r < 16 → State.reset.on (R.GRD_RGN_CFG m r) F.GRD_RGN_CFG_EN = false) ∧
  (∀ p, p < 16 → State.reset.rd (R.GRD_HR_RD p) = 0x7030 ∧ State.reset.rd (R.GRD_HR_WR p) = 0x3010) ∧
  (∀ m b, m < 4 → inCmem b = true → State.reset.guardEnd (.word m true b 0) b = none) ∧
  (∀ o, State.reset.cmem.get zeroByte o = 0) ∧ State.reset.now = 0 ∧ (∀ h, h < 16 → State.reset.hdState h = 0) ∧
  (∀ sc, sc < 16 → State.reset.slotState sc = 0) ∧ (∀ sl, sl < 4096 → State.reset.get (R.SLC_STATE sl) F.SLC_STATE_STATE = 0)

/-- R76, R80, R83, R459, R504: a group reset discards what the group holds, and its bit reads 1 until it is done. It completes unless the
owl holds the group: its layout is sampled, its bit clears, and its ports start; without an enabled port its power domain goes off; with
one whose domain is off the bit stays until the domain has powered up, and then the ports start. A reset that is not in progress, or of a
held group, has nothing to complete.
Clauses on points the spec leaves open follow the model's reading: notes/assumptions/98.md. -/
def Obligations.GroupResets : Prop := ∀ (s : State) (m g : Nat) (v : Word), masterOk m = true → g < 16 →
  (s.takes m R.GLB_GRP_RESET v → v.toNat = 2 ^ g →
  ∃ t, exec (.groupReset m v) s = .next t ∧ bit (t.get R.GLB_GRP_RESET F.GLB_GRP_RESET_GRP) g = true ∧
    (t.den g).jobs = [] ∧ (t.den g).prio = [] ∧ (t.den g).norm = [] ∧ (t.den g).spill = [] ∧ (t.den g).spillP = [] ∧
    (t.den g).rel = [] ∧ (t.den g).ctrs = [] ∧
    (∀ i, i < 8 → t.tel.ctr.get dZero (g * 64 + i) = 0 ∧ t.tel.ctr.get dZero ((16 + g) * 64 + i) = 0) ∧
    t.now = s.now ∧ t.cmem = s.cmem ∧ t.boot = s.boot ∧ t.sec = s.sec ∧ t.samp = s.samp) ∧
  let b := s.get R.GLB_GRP_RESET F.GLB_GRP_RESET_GRP
  let u := (s.set R.GLB_GRP_RESET F.GLB_GRP_RESET_GRP (b - 2 ^ g)).sampleLayout g
  (bit b g = true → s.contained 3 g = false → 1 ≤ s.mode → s.mode ≤ 6 →
    ∃ t, exec (.groupResetDone g) s = .next t ∧
      (∀ p, p < 8 → t.samp.get dWord (g * 8 + p) = (s.layoutWords g).getD p 0) ∧
      (u.groupUsed g = false → bit (t.get R.GLB_GRP_RESET F.GLB_GRP_RESET_GRP) g = false ∧
        t = (u.setPd (10 + g) false).grpLock g false) ∧
      (u.groupUsed g = true → s.pdOn (10 + g) = true → bit (t.get R.GLB_GRP_RESET F.GLB_GRP_RESET_GRP) g = false ∧
        t = (u.grpLock g true).groupStart g) ∧
      (u.groupUsed g = true → s.pdOn (10 + g) = false → bit (t.get R.GLB_GRP_RESET F.GLB_GRP_RESET_GRP) g = true ∧
        t.pwr.due = s.pwr.due.filter (· != g) ++ [g] ∧ t = { s.sampleLayout g with pwr := t.pwr })) ∧
  (bit b g = true → s.pwr.due.contains g = true → s.contained 3 g = false → s.groupUsed g = true → s.pdOn (10 + g) = false →
    s.boot.stage = .ended → s.pwr.stage = .awake →
    ∃ t, exec (.domainPowerUpDone (10 + g)) s = .next t ∧ bit (t.get R.GLB_GRP_RESET F.GLB_GRP_RESET_GRP) g = false ∧
      t = ((((((s.domainOn (10 + g)).judgeLayout g).grpLock g true).groupDue g false)).grpBitClear g).groupStart g) ∧
  (bit b g = true → s.contained 3 g = false → s.mode = 0 ∨ s.mode = 7 →
    exec (.groupResetDone g) s = .next (s.set R.GLB_GRP_RESET F.GLB_GRP_RESET_GRP (b - 2 ^ g))) ∧
  (bit b g = false ∨ s.contained 3 g = true → exec (.groupResetDone g) s = .next s)

/-- R60, R61, R66, R522: from the pins to the first image on trial.
Clauses on points the spec leaves open follow the model's reading: notes/assumptions/3.md. -/
def Obligations.BootBegins : Prop := ∀ (s : State) (b f i : Nat) (ans : Bool), b < 4 → f < 2 → i < 8 →
  (exec .pwrokAndSysRstNHigh s = .next { s with boot := { s.boot with pwrok := true, sysRstN := true } }) ∧
  (s.boot.stage = .reset → s.boot.pwrok = true → s.boot.sysRstN = true →
    ∃ t, exec (.strapSample b f i) s = .next t ∧ t.get R.GLB_STRAP F.GLB_STRAP_BOOT = b ∧ t.get R.GLB_STRAP F.GLB_STRAP_FLASH = f ∧
      t.get R.GLB_STRAP F.GLB_STRAP_I3C = i ∧ t.pdOn 0 = true ∧ t.pdOn 1 = true ∧
      (∀ a, a ≠ R.GLB_STRAP → a ≠ R.PWR_PD_STAT → t.rd a = s.rd a) ∧
      t = { s with regs := t.regs, boot := { s.boot with stage := .straps } }) ∧
  (s.boot.stage ≠ .reset → exec (.strapSample b f i) s = .next s) ∧
  (s.boot.stage = .straps →
    (∃ t, exec (.bootStart false ans) s = .next t ∧ t.boot = { s.boot with stage := .ended } ∧ t.mode = s.mode ∧
      ∃ d, t.faults = s.faults ++ [⟨0xC8, 0x50, none, none, d⟩]) ∧
    (s.boot.fast = false → s.get R.GLB_STRAP F.GLB_STRAP_BOOT = 1 →
      ∃ t, exec (.bootStart true ans) s = .next t ∧ t.mode = 1 ∧ t.boot.stage = .ended ∧ (t.dom 0).on = true) ∧
    (∀ img, s.boot.fast = false → s.get R.GLB_STRAP F.GLB_STRAP_BOOT ≠ 1 → s.nextImage = some img →
      ∃ t, exec (.bootStart true true) s = .next t ∧
        t.boot = { s.boot with img := img, stage := .header, seg := 0, staged := [] } ∧
        (∀ a, a ≠ R.PWR_PD_STAT → a ≠ R.PWR_CLK_STAT → a ≠ R.PWR_PAD_HOLD → t.rd a = s.rd a) ∧
        t = { s with regs := t.regs, boot := t.boot }) ∧
    (s.boot.fast = false → s.get R.GLB_STRAP F.GLB_STRAP_BOOT ≠ 1 → s.nextImage = none →
      ∃ t, exec (.bootStart true ans) s = .next t ∧ t.mode = 1 ∧ t.boot.stage = .ended)) ∧
  (s.get R.GLB_BOOT_STATUS F.GLB_BOOT_STATUS_A_RESULT = 0 → s.get R.GLB_BOOT_STATUS F.GLB_BOOT_STATUS_B_RESULT = 0 →
    s.nextImage = some (if s.get R.GLB_STRAP F.GLB_STRAP_BOOT = 3 then 2 else 1))

/-- R64, R65, R66, R68, R70, R526: the checks of the image on trial; a failed one records its code and tries the other image, or
leads to Recovery when none is left.
Clauses on points the spec leaves open follow the model's reading: notes/assumptions/32.md, notes/assumptions/34.md,
notes/assumptions/54.md, notes/assumptions/55.md, notes/assumptions/114.md. -/
def Obligations.ImageChecks : Prop := ∀ (s : State), s.boot.fast = false → s.boot.img = 1 ∨ s.boot.img = 2 →
  let h := s.imgBytes 0 4096
  let e := State.dirEnt h s.boot.seg
  let b := s.imgBytes e.off e.len
  let n := fieldAt h 8 4 - sigBlockLen
  let item := if n % 16 ≠ 0 then 1 else State.sigItem s.sec.keys (s.imgBytes n sigBlockLen) 1 n (·.img) (s.imgBytes 0 n)
  let r := State.resultFld s.boot.img
  let other := if s.boot.img = 1 then 2 else 1
  let failed := fun (t : State) (c : Nat) => t.get R.GLB_BOOT_STATUS r = c ∧
    (s.get R.GLB_BOOT_STATUS (State.resultFld other) = 0 → t.boot.stage = .header ∧ t.boot.img = other ∧ t.boot.staged = []) ∧
    (s.get R.GLB_BOOT_STATUS (State.resultFld other) ≠ 0 → t.mode = 1 ∧ t.boot.stage = .ended)
  (s.boot.stage = .header → ∃ t, exec (.imageHeaderCheck false) s = .next t ∧ failed t 2) ∧
  (s.boot.stage = .header → State.headerCode s.sec.floor h ≠ 0 →
    ∃ t, exec (.imageHeaderCheck true) s = .next t ∧ failed t (State.headerCode s.sec.floor h)) ∧
  (s.boot.stage = .header → State.headerCode s.sec.floor h = 0 →
    exec (.imageHeaderCheck true) s = .next ({ s with boot := { s.boot with stage := .segments, seg := 0 } }.cmemPut 0 h)) ∧
  (s.boot.stage = .segments → ∃ t, exec (.segmentCheck false) s = .next t ∧ failed t 2) ∧
  (s.boot.stage = .segments → State.segOk (fieldAt h 16 1) e b = false →
    ∃ t, exec (.segmentCheck true) s = .next t ∧ failed t 3) ∧
  (s.boot.stage = .segments → State.segOk (fieldAt h 16 1) e b = true → crc32c b ≠ e.crc →
    ∃ t, exec (.segmentCheck true) s = .next t ∧ failed t 6) ∧
  (s.boot.stage = .segments → State.segOk (fieldAt h 16 1) e b = true → crc32c b = e.crc →
    ∃ t, exec (.segmentCheck true) s = .next t ∧ t.boot = { s.boot with
        seg := s.boot.seg + 1, staged := s.boot.staged ++ [(e.ty, e.inst, b)]
        stage := if s.boot.seg + 1 < fieldAt h 18 2 then .segments else .signature } ∧
      t.cmem = (s.cmemPut e.off b).cmem ∧ t = { s with cmem := t.cmem, boot := t.boot }) ∧
  (s.boot.stage = .signature → (∃ t, exec (.segmentCheck false) s = .next t ∧ failed t 2) ∧ exec (.segmentCheck true) s = .next s) ∧
  (s.boot.stage = .signature → item ≠ 0 →
    ∃ t, exec .signatureVerify s = .next t ∧ failed t 5 ∧ t.get R.SEC_STAT F.SEC_STAT_LAST_FAIL = item % 8) ∧
  (s.boot.stage = .signature → item = 0 →
    ∃ t, exec .signatureVerify s = .next t ∧ t.get R.GLB_BOOT_STATUS r = 1 ∧
      t.get R.GLB_BOOT_STATUS F.GLB_BOOT_STATUS_ACTIVE_IMG = s.boot.img ∧ t.rd R.SEC_SVN = BitVec.ofNat 32 (fieldAt h 12 4) ∧
      t.boot.stage = .settings ∧ t.boot.recIdx = 0 ∧ t.mode = s.mode)

/-- R71 to R73: the settings records, applied by the security core as master 8.
Clauses on points the spec leaves open follow the model's reading: notes/assumptions/56.md. -/
def Obligations.SettingsRecords : Prop := ∀ (s : State) (r : SetRec) (img : Bool), s.recAt = some (r, img) →
  let total := s.boot.delays + (if img then r.delay else 0)
  let within := img = true → s.boot.recIdx - s.boot.factory < 16384 ∧ total ≤ 100000
  let next := fun (idx : Nat) => if idx < s.boot.recs.length then BootStage.settings else .load
  let w := (s.rd r.off &&& ~~~r.mask) ||| (r.value &&& r.mask)
  (s.boot.stage = .settings → r.forbidden = false → within → r.poll = false → plainReg r.off = true → r.off % 4 = 0 → State.inRing r.off = false →
    s.gateLocked r.off = false → s.readOk 8 r.off → (s.clearRc 8 r.off).takes 8 r.off w →
    r.off ≠ R.FLT_DOM_STAT → (∀ sc, r.off ≠ R.SLOT_STAT sc) →
    ∃ t, exec .settingsRecordApply s = .next t ∧
      (∀ f ∈ fieldsAt r.off, f.ty = .rw → t.get r.off f = fldOf w f) ∧ (∀ a, a ≠ r.off → t.rd a = s.rd a) ∧
      t = { s with regs := t.regs, boot := { s.boot with
        recIdx := s.boot.recIdx + 1, delays := total, stage := if r.delay = 0 then next (s.boot.recIdx + 1) else .delay } }) ∧
  (s.boot.stage = .settings → s.chan.flashQ = [] → s.sec.mb = none → r.forbidden = true ∨ ¬ within →
    ∃ t, exec .settingsRecordApply s = .next t ∧
      WarmLeft ((s.set R.GLB_BOOT_STATUS F.GLB_BOOT_STATUS_REC (s.boot.recIdx - s.boot.factory)).set R.GLB_BOOT_STATUS
        (State.resultFld s.boot.img) 7) t 4) ∧
  (s.boot.stage = .settings → r.forbidden = false → within → r.poll = true →
    (State.recPoll { s with boot := { s.boot with delays := total } } r).1 = false →
    ∃ t, exec .settingsRecordApply s = .next t ∧ t.boot.stage = .poll ∧ t.boot.recIdx = s.boot.recIdx) ∧
  (s.boot.stage = .poll → (s.recPoll r).1 = true →
    ∃ t, exec .settingsPollTimeout s = .next t ∧ t.boot.recIdx = s.boot.recIdx + 1 ∧ t.boot.stage = next (s.boot.recIdx + 1)) ∧
  (s.boot.stage = .poll → (s.recPoll r).1 = false →
    ∃ t, exec .settingsPollTimeout s = .next t ∧ t.mode = 0 ∧ t.boot.stage = .straps ∧
      t.get R.GLB_BOOT_STATUS (State.resultFld s.boot.img) = 7 ∧ t.get R.GLB_BOOT_STATUS F.GLB_BOOT_STATUS_CAUSE = 4) ∧
  (s.boot.stage = .delay → exec .settingsDelayEnd s = .next { s with boot := { s.boot with stage := next s.boot.recIdx } })

/-- R54, R61, R65, R67: the end of Boot, and the confirmation of its image.
Clauses on points the spec leaves open follow the model's reading: notes/assumptions/34.md, notes/assumptions/52.md. -/
def Obligations.BootEnds : Prop := ∀ (s : State) (m : Nat) (v : Word), masterOk m = true →
  let h := s.imgBytes 0 4096
  (s.boot.stage = .load → ∃ t, exec .bootComplete s = .next t ∧
    t.mode = (if s.get R.GLB_STRAP F.GLB_STRAP_BOOT = 2 then 6 else fieldAt h 16 1) % 8 ∧
    t.get R.GLB_BOOT_CONFIRM F.GLB_BOOT_CONFIRM_TIMEOUT = fieldAt h 17 1 % 256 ∧
    t.get R.GLB_BOOT_STATUS F.GLB_BOOT_STATUS_CONFIRMED = (if fieldAt h 17 1 = 0 then 1 else 0) ∧ t.boot.stage = .ended ∧ t.boot.cpRun = true ∧
    (∀ b, s.fabSeg = some b → s.get R.GLB_STRAP F.GLB_STRAP_BOOT ≠ 2 → fieldAt h 16 1 = 4 ∨ fieldAt h 16 1 = 5 →
      t.get R.MGT_FAB_ID F.MGT_FAB_ID_ROLE = fieldAt b 6 1 % 4)) ∧
  (s.takes m R.GLB_BOOT_CONFIRM v → fldOf v F.GLB_BOOT_CONFIRM_CONFIRM = 1 → s.unconfirmed = true →
    exec (.bootConfirm m v) s = .next (s.set R.GLB_BOOT_STATUS F.GLB_BOOT_STATUS_CONFIRMED 1)) ∧
  (s.takes m R.GLB_BOOT_CONFIRM v → fldOf v F.GLB_BOOT_CONFIRM_CONFIRM = 0 ∨ s.unconfirmed = false →
    exec (.bootConfirm m v) s = .next s) ∧
  (s.unconfirmed = true → s.chan.flashQ = [] → s.sec.mb = none →
    ∃ t, exec .confirmTimeout s = .next t ∧ WarmLeft (s.set R.GLB_BOOT_STATUS (State.resultFld s.boot.img) 8) t 5) ∧
  (s.unconfirmed = false → exec .confirmTimeout s = .next s)

/-- R52, R53, R55, R56, R58, R59: requests for a mode, their refusals, and the end of a transition.
Clauses on points the spec leaves open follow the model's reading: notes/assumptions/36.md, notes/assumptions/53.md. -/
def Obligations.ModeTransitions : Prop := ∀ (s : State) (m req : Nat) (v : Word), masterOk m = true → req < 8 →
  s.takes m R.GLB_MODE v → fldOf v F.GLB_MODE_REQ = req →
  (fldOf v F.GLB_MODE_GO = 0 → exec (.modeRequest m v) s = .next (s.set R.GLB_MODE F.GLB_MODE_REQ req)) ∧
  (fldOf v F.GLB_MODE_GO = 1 → s.transiting = true →
    exec (.modeRequest m v) s = .next ((s.set R.GLB_MODE F.GLB_MODE_REQ req).set R.GLB_MODE F.GLB_MODE_REASON 2)) ∧
  (fldOf v F.GLB_MODE_GO = 1 → s.transiting = false →
    (s.modeReason m req = 0 → ∃ t, exec (.modeRequest m v) s = .next t ∧ t.get R.GLB_MODE F.GLB_MODE_STATE = 1 ∧
      t.get R.GLB_MODE F.GLB_MODE_REASON = 0 ∧ t.mode = s.mode ∧ t.boot = { s.boot with target := req }) ∧
    (s.modeReason m req ≠ 0 → ∃ t, exec (.modeRequest m v) s = .next t ∧ t.get R.GLB_MODE F.GLB_MODE_STATE = 3 ∧
      t.get R.GLB_MODE F.GLB_MODE_REASON = s.modeReason m req ∧ t.mode = s.mode ∧ t.boot = s.boot ∧
      (∀ h, h < 16 → (s.dom h).on = true → (s.dom h).evq.length < 256 → (t.dom h).evq.length = (s.dom h).evq.length + 1))) ∧
  (m < 4 → (2 ≤ s.mode ∧ s.mode ≤ 5 → s.modeReason m 6 = 0) ∧ (s.mode = 5 → s.modeReason m 4 = 0) ∧
    (s.mode = 2 → req ≠ 6 → s.modeReason m req = 1) ∧ (s.mode = 1 ∨ s.mode = 6 ∨ s.mode = 7 → s.modeReason m req = 1) ∧
    (s.mode = 3 → s.fabSeg = none → req = 4 ∨ req = 5 → s.modeReason m req = 3)) ∧
  (s.transiting = true → s.segmentWaits = true ∨ s.drainWaits = true → exec .modeTransitionComplete s = .next s) ∧
  (s.transiting = true → s.segmentWaits = false → s.drainWaits = false →
    ∃ t, exec .modeTransitionComplete s = .next t ∧ t.mode = s.boot.target % 8 ∧ t.get R.GLB_MODE F.GLB_MODE_PREV = s.mode ∧
      t.get R.GLB_MODE F.GLB_MODE_STATE = 2) ∧
  (s.transiting = false → exec .modeTransitionComplete s = .next s)

/-- R101 to R106: the line code loses nothing: what was stuffed is unstuffed without a violation, what was scrambled twice with
one seed is as it was, and no run of more than 25 identical symbols leaves the stuffer, so a comma's run of 28 is never data.
Clauses on points the spec leaves open follow the model's reading: notes/assumptions/22.md. -/
def Obligations.LineCodeRoundTrip : Prop := ∀ (seed : Nat) (bs : List Bool) (p4 : Bool) (l : List Nat),
  LineCode.scramble seed (LineCode.scramble seed bs) = bs ∧
  ((∀ v ∈ l, v < if p4 then 4 else 2) →
    LineCode.unstuff 0 0 (LineCode.stuff p4 0 0 l) = (l, 0) ∧
    (∀ v i, ¬ (∀ k, k < 26 → (LineCode.stuff p4 0 0 l)[i + k]? = some v)))

/-- R99, R108, R110, R114 to R117, R155, R157: lock, alignment, its loss and its timeout, and the error window of a lane.
Clauses on points the spec leaves open follow the model's reading: notes/assumptions/19.md, notes/assumptions/46.md. -/
def Obligations.LaneAlignment : Prop := ∀ (s : State) (g n p lcv pse : Nat) (inv : Bool), g < 16 → n < 17 → s.live → s.linkOf g n = some p →
  (∀ k ∈ (s.link g p).lanes, k < 17) →
  let e := R.GRP_LANE_ERR g n
  (s.linkState g p = 1 → (s.link g p).idle = false →
    let u := s.set (R.GRP_LANE_CTL g n) F.GRP_LANE_CTL_LOCK 1
    exec (.laneLock g n) s = .next (u.emit (.training g p (u.trainingRecs g p)))) ∧
  (s.linkState g p = 1 → s.on (R.GRP_LANE_CTL g n) F.GRP_LANE_CTL_LOCK = true → (s.link g p).idle = false →
    (∃ k ∈ (s.link g p).lanes, k ≠ n ∧ s.laneAligned g k = false) →
    let u := ((s.set (R.GRP_LANE_CTL g n) F.GRP_LANE_CTL_ALIGNED 1).set (R.GRP_LANE_CTL g n)
      F.GRP_LANE_CTL_POL (b2n inv)).setLane g n fun L => { L with aligning := false }
    exec (.laneAligned g n inv) s = .next (u.emit (.training g p (u.trainingRecs g p)))) ∧
  (s.linkState g p = 2 ∨ s.linkState g p = 3 ∨ s.linkState g p = 4 →
    ∃ t, exec (.laneAlignLoss g n) s = .next t ∧ Retrained s t g p 4) ∧
  (s.linkState g p = 1 → (s.link g p).phase = 4 → (s.link g p).idle = false →
    let u := (s.set (R.GRP_LANE_CTL g n) F.GRP_LANE_CTL_ALIGNED 0).setLink g p fun l => { l with verifyBad := true }
    exec (.laneAlignLoss g n) s = .next (u.emit (.training g p (u.trainingRecs g p)))) ∧
  (s.linkState g p = 1 → (s.link g p).phase ≠ 4 → s.laneAligned g n = true →
    ∃ t, exec (.laneAlignLoss g n) s = .next t ∧ Retrained s t g p 4) ∧
  (s.linkState g p = 1 → s.laneAligned g n = false → s.linkRate g p ≤ 8 ∨ (s.link g p).phase = 5 →
    ∃ t, exec (.alignTimeout g n) s = .next t ∧ Retrained s t g p 4) ∧
  (s.linkState g p = 1 → s.laneAligned g n = false → 8 < s.linkRate g p → (s.link g p).phase ≠ 5 →
    (s.link g p).prevRate < 16 → ∃ t, exec (.alignTimeout g n) s = .next t ∧ Stepped s t g p) ∧
  (s.linkState g p = 1 ∨ s.dueLanes g p = [] → (s.lane g n).crossed = true →
    ∃ t, exec (.laneErrorWindow g ⟨n, lcv, pse⟩) s = .next t ∧
      t.get e F.GRP_LANE_ERR_LCV = min 4095 (s.get e F.GRP_LANE_ERR_LCV + lcv) ∧
      t.get (R.GRP_LANE_PSE g n) F.GRP_LANE_PSE_PSE = min (2 ^ 32 - 1) (s.get (R.GRP_LANE_PSE g n) F.GRP_LANE_PSE_PSE + pse) ∧
      t.get e F.GRP_LANE_ERR_SWAP_REQ = s.get e F.GRP_LANE_ERR_SWAP_REQ ∧ (t.lane g n).winHard = 0 ∧ (t.lane g n).winPse = 0 ∧
      (t.lane g n).crossed = false ∧ (∀ a, a ≠ e → a ≠ R.GRP_LANE_PSE g n → t.rd a = s.rd a) ∧
      t = { s with regs := t.regs, lanes := t.lanes, links := t.links }) ∧
  (s.linkState g p = 1 → (s.lane g n).crossed = false → 1 ≤ s.get (R.GRP_ERR_CFG g) F.GRP_ERR_CFG_HARD_TH →
    s.get (R.GRP_ERR_CFG g) F.GRP_ERR_CFG_HARD_TH ≤ (s.lane g n).winHard + lcv →
    ∃ t, exec (.laneErrorWindow g ⟨n, lcv, pse⟩) s = .next t ∧ t.get e F.GRP_LANE_ERR_SWAP_REQ = 1 ∧ (t.lane g n).due = true ∧
      (t.lane g n).crossed = false) ∧
  (s.linkState g p = 1 → (s.lane g n).crossed = false → (s.lane g n).winHard + lcv < s.get (R.GRP_ERR_CFG g) F.GRP_ERR_CFG_HARD_TH →
    s.on (R.GRP_ERR_CFG g) F.GRP_ERR_CFG_PSE_EN = false →
    ∃ t, exec (.laneErrorWindow g ⟨n, lcv, pse⟩) s = .next t ∧ t.get e F.GRP_LANE_ERR_SWAP_REQ = 0 ∧ (t.lane g n).due = (s.lane g n).due)

/-- R112, R113, R115: the partner's records, the steps of a rate change at the leading end, and the end of VERIFY.
Clauses on points the spec leaves open follow the model's reading: notes/assumptions/47.md. -/
def Obligations.RateSteps : Prop := ∀ (s : State) (g p n : Nat) (b : List Byte) (r : PeerRec) (errs : List LaneErr), g < 16 → p < 8 → n < 17 →
  s.live → s.linkState g p = 1 → (∀ k ∈ (s.link g p).lanes, k < 17) → (∀ e ∈ errs, e.lane < 16) →
  let tells := fun (u t : State) => t.out = .training g p (u.trainingRecs g p) :: s.out
  (b.length = 32 → s.isFabric (g * 8 + p) = true → (s.link g p).lanes.contains n = true → trainingCrcOk b = true →
    (b.getD 0 0).toNat = 0x57 → (b.getD 5 0).toNat ≠ 1 → (b.getD 5 0).toNat ≠ 5 → s.linkRate g p ≠ 8 → s.allAligned g p = false →
    (s.link g p).lanes.length ≤ 4 * 2 ^ ((b.getD 1 0).toNat / 16 % 4) →
    ∃ t, exec (.laneTrainingRecord g p n b) s = .next t ∧ (t.link g p).peer = some (State.peerOf b) ∧
      t.get (R.GRP_LINK_PEER g p) F.GRP_LINK_PEER_PEER_ID = (b.getD 2 0).toNat ∧
      t.get (R.GRP_LINK_PEER g p) F.GRP_LINK_PEER_PEER_PORT = (b.getD 3 0).toNat % 128 ∧
      (t.on (R.GRP_LINK_STAT g p) F.GRP_LINK_STAT_LEADER = true ↔ s.trainId < (b.getD 2 0).toNat ∨
        (s.trainId = (b.getD 2 0).toNat ∧ g * 8 + p < (b.getD 3 0).toNat % 128)) ∧
      (t.link g p).lanes = (s.link g p).lanes ∧ (t.link g p).phase = (s.link g p).phase ∧
      (∀ a, a ≠ R.GRP_LINK_PEER g p → a ≠ R.GRP_LINK_STAT g p → t.rd a = s.rd a) ∧ t = { s with regs := t.regs, links := t.links }) ∧
  (b.length = 32 → s.isFabric (g * 8 + p) = true → (s.link g p).lanes.contains n = true → trainingCrcOk b = false →
    (s.lane g n).crossed = true →
    ∃ t, exec (.laneTrainingRecord g p n b) s = .next t ∧ t.get (R.GRP_LANE_ERR g n) F.GRP_LANE_ERR_LCV
        = min 4095 (s.get (R.GRP_LANE_ERR g n) F.GRP_LANE_ERR_LCV + 1) ∧
      (t.link g p).verifyBad = ((s.link g p).verifyBad || decide ((s.link g p).phase = 4)) ∧
      (∀ a, a ≠ R.GRP_LANE_ERR g n → t.rd a = s.rd a) ∧ t = { s with regs := t.regs, lanes := t.lanes, links := t.links }) ∧
  (s.on (R.GRP_LINK_STAT g p) F.GRP_LINK_STAT_LEADER = true → s.allAligned g p = true → (s.link g p).idle = false →
    (s.link g p).peer = some r →
    (s.linkRate g p = 8 ∧ (s.link g p).phase = 0) ∨ ((s.link g p).verified = true ∧ bit r.status 3 = true) →
    s.ordered g p = true → s.linkRate g p < (s.link g p).target →
    let u := s.setLink g p fun l => { l with phase := 1, said := s.linkRate g p + 1 }
    exec (.propose g p) s = .next (u.emit (.training g p (u.trainingRecs g p)))) ∧
  (s.on (R.GRP_LINK_STAT g p) F.GRP_LINK_STAT_LEADER = true → (s.link g p).peer = some r → (s.link g p).phase = 1 → r.phase = 2 →
    s.linkRate g p + 1 ≤ s.topRate g p → (s.link g p).idle = false →
    ∃ t, exec (.switchRate g p) s = .next t ∧ t.linkRate g p = s.linkRate g p + 1 ∧
      t.link g p = { s.link g p with
        phase := 3, said := s.linkRate g p + 1, prevRate := s.linkRate g p, idle := true, verified := false, verifyBad := false
        peer := some { r with phase := 0, status := 0 } } ∧
      tells (s.setLink g p fun l => { l with phase := 3, said := s.linkRate g p + 1 }) t ∧
      (∀ a, a ≠ R.GRP_LINK_STAT g p → (∀ n ∈ (s.link g p).lanes, a ≠ R.GRP_LANE_CTL g n) → t.rd a = s.rd a)) ∧
  (s.on (R.GRP_LINK_STAT g p) F.GRP_LINK_STAT_LEADER = false → (s.link g p).peer = some r → (s.link g p).phase = 2 → r.phase = 3 →
    s.linkRate g p + 1 ≤ s.topRate g p →
    ∃ t, exec (.switchRate g p) s = .next t ∧ t.linkRate g p = s.linkRate g p + 1 ∧ t.out = s.out ∧
      t.link g p = { s.link g p with
        prevRate := s.linkRate g p, idle := true, verified := false, verifyBad := false
        peer := some { r with phase := 0, status := 0 } }) ∧
  ((s.link g p).idle = true →
    let u := (s.setLink g p fun l => { l with idle := false }).setLink g p fun l => { l with phase := 0, said := s.linkRate g p }
    exec (.rateIdleEnd g p) s = .next (u.emit (.training g p (u.trainingRecs g p)))) ∧
  ((s.link g p).phase = 4 → (s.link g p).verifyBad = false → s.allAligned g p = false → (s.link g p).idle = false →
    let u := s.setLink g p fun l => { l with verified := true }
    exec (.verifyEnd g ⟨p, []⟩) s = .next (u.emit (.training g p (u.trainingRecs g p)))) ∧
  ((s.link g p).phase = 4 → (s.link g p).verifyBad = true ∨ (∃ e ∈ errs, e.lane < (s.link g p).lanes.length ∧ 0 < e.lcv) →
    (s.link g p).prevRate < 16 → ∃ t, exec (.verifyEnd g ⟨p, errs⟩) s = .next t ∧ Stepped s t g p)

/-- R95 to R98, R122 to R126: what a lane's own commands do: presets, the eye scan, margining and the override of an entry.
Clauses on points the spec leaves open follow the model's reading: notes/assumptions/87.md, notes/assumptions/103.md,
notes/assumptions/113.md. -/
def Obligations.LaneCommands : Prop := ∀ (s : State) (m g n p errs src : Nat) (v : Word) (tx : TxRequest) (e : List Byte) (rate : Nat)
    (rej : Bool), masterOk m = true → g < 16 → n < 16 → tx.wf = true → rate < 7 →
  (s.live → s.pciePortOf g n = some p → s.mode ≠ 1 → (∀ b, (s.port (g * 8 + p)).bypass = some b → b = rate) →
    s.laneSettings g n rate = (e, src) → src ≠ 1 → (e.getD 4 0xFF).toNat ≠ 0xFF →
    exec (.pcieEqPhase g n rate rej) s = .next (if rej
      then (s.emit (.presetAsked g n (e.getD 4 0xFF).toNat)).set (R.GRP_LANE_CTL g n) F.GRP_LANE_CTL_EQ_REJ 1
      else s.emit (.presetAsked g n (e.getD 4 0xFF).toNat))) ∧
  (s.live → s.pciePortOf g n = some p → s.mode ≠ 1 → s.laneSettings g n rate = (e, src) → src = 1 ∨ (e.getD 4 0xFF).toNat = 0xFF →
    exec (.pcieEqPhase g n rate rej) s = .next s) ∧
  (s.live → s.pciePortOf g n = some p → (∃ b, (s.port (g * 8 + p)).bypass = some b ∧ b ≠ rate) →
    exec (.pcieEqPhase g n rate rej) s = .next s) ∧
  (s.live → s.pciePortOf g n = some p →
    exec (.partnerPresetRequest g n tx) s = .next ((s.setLane g n fun L => { L with tx := some tx }).emit (.txApplied g n tx))) ∧
  (s.takes m (R.GRP_EYE_CTL g) v → fldOf v F.GRP_EYE_CTL_GO = 1 →
    ∃ t, exec (.eyeScan m g v) s = .next t ∧
      (if s.mode ≠ 6 ∨ s.on (R.GRP_EYE_RES g) F.GRP_EYE_RES_BUSY = true
       then t.get (R.GRP_EYE_RES g) F.GRP_EYE_RES_REFUSED = 1 ∧
         t.get (R.GRP_EYE_RES g) F.GRP_EYE_RES_BUSY = s.get (R.GRP_EYE_RES g) F.GRP_EYE_RES_BUSY
       else t.get (R.GRP_EYE_RES g) F.GRP_EYE_RES_REFUSED = 0 ∧ t.get (R.GRP_EYE_RES g) F.GRP_EYE_RES_DONE = 0 ∧
         t.get (R.GRP_EYE_RES g) F.GRP_EYE_RES_BUSY = 1) ∧
      (∀ a, a ≠ R.GRP_EYE_CTL g → a ≠ R.GRP_EYE_RES g → t.rd a = s.rd a) ∧ t = { s with regs := t.regs }) ∧
  (s.live → s.on (R.GRP_EYE_RES g) F.GRP_EYE_RES_BUSY = true →
    exec (.eyeScanDone g errs) s = .next (((s.set (R.GRP_EYE_RES g) F.GRP_EYE_RES_ERRS (min 0xFFFFFF errs)).set (R.GRP_EYE_RES g)
      F.GRP_EYE_RES_DONE 1).set (R.GRP_EYE_RES g) F.GRP_EYE_RES_BUSY 0)) ∧
  (s.live → s.pciePortOf g n = some p → s.portUp (g * 8 + p) = true → 3 ≤ s.get (R.GRP_PCIE_STAT g p) F.GRP_PCIE_STAT_RATE →
    exec (.marginCommand g n .numTimingSteps) s = .next (s.emit (.margin g n 32)) ∧
    exec (.marginCommand g n .maxTimingOffset) s = .next (s.emit (.margin g n 50)) ∧
    exec (.marginCommand g n .numVoltageSteps) s = .next (s.emit (.margin g n 64)) ∧
    exec (.marginCommand g n .maxVoltageOffset) s = .next (s.emit (.margin g n 25)) ∧
    (∀ k c, (c = MarginCmd.stepTiming true k ∨ c = .stepTiming false k) ∧ k ≤ 32 ∨ (c = .stepVoltage true k ∨ c = .stepVoltage false k) ∧ k ≤ 64 →
      ∃ x, x < 64 ∧ exec (.marginCommand g n c) s = .next (s.emit (.margin g n x)).used) ∧
    (∀ k c, (c = MarginCmd.stepTiming true k ∨ c = .stepTiming false k) ∧ 32 < k ∧ k < 64
        ∨ (c = .stepVoltage true k ∨ c = .stepVoltage false k) ∧ 64 < k ∧ k < 128 →
      exec (.marginCommand g n c) s = .next (s.emit (.margin g n 0xC0)))) ∧
  (s.takes m (R.GRP_EQ_OVR0 g) v → fldOf v F.GRP_EQ_OVR0_EN = 1 → s.mode ≠ 6 → exec (.eqOverride m g v) s = .next s) ∧
  (s.takes m (R.GRP_EQ_OVR0 g) v → fldOf v F.GRP_EQ_OVR0_EN = 1 → s.mode = 6 → fldOf v F.GRP_EQ_OVR0_LANE = n →
    ∃ t, exec (.eqOverride m g v) s = .next t ∧
      (t.lane g n).ovr = some (fldOf v F.GRP_EQ_OVR0_RATE, leBytes 4 (s.rd (R.GRP_EQ_OVR1 g)).toNat
        ++ leBytes 4 (s.rd (R.GRP_EQ_OVR2 g)).toNat ++ leBytes 3 (s.rd (R.GRP_EQ_OVR3 g)).toNat) ∧
      t.get (R.GRP_EQ_OVR0 g) F.GRP_EQ_OVR0_EN = 1 ∧
      (∀ a, a ≠ R.GRP_EQ_OVR0 g → a ≠ R.GRP_LANE_CTL g n → t.rd a = s.rd a) ∧ t = { s with regs := t.regs, lanes := t.lanes }) ∧
  (s.takes m (R.GRP_EQ_OVR0 g) v → fldOf v F.GRP_EQ_OVR0_EN = 0 → fldOf v F.GRP_EQ_OVR0_LANE = n →
    ∃ t, exec (.eqOverride m g v) s = .next t ∧ (t.lane g n).ovr = none ∧ (t.lane g n).loaded = (s.lane g n).loaded ∧
      (∀ a, a ≠ R.GRP_EQ_OVR0 g → t.rd a = s.rd a) ∧ t = { s with regs := t.regs, lanes := t.lanes })

/-- R127, R138, R141, R143, R148, R150, R151: what a flit slot of the transmitter carries: a replayed flit first, new data of
the class whose turn it is, an IDLE flit otherwise; every header reports what the receiver holds.
Clauses on points the spec leaves open follow the model's reading: notes/assumptions/2.md, notes/assumptions/48.md. -/
def Obligations.TransmitsFlits : Prop := ∀ (s : State) (g p q : Nat) (f : TxFlit) (rest : List Nat), g < 16 → p < 8 → s.live →
  s.linkState g p = 3 → State.swapPause (s.link g p) = false →
  let l := s.link g p
  let next := s.get (R.GRP_LINK_SEQ g p) F.GRP_LINK_SEQ_TX_NEXT
  let h := fun (ty cls seq start : Nat) => flitHdr ty cls seq ((s.get (R.GRP_LINK_RX g p) F.GRP_LINK_RX_RX_NEXT + 4095) % 4096)
    (s.get (R.GRP_LINK_RX g p) F.GRP_LINK_RX_NAK_PEND) l.crNext (clsRx l l.crNext).granted start
  let sent := fun (t : State) (ty cls seq start : Nat) (payload : List Byte) =>
    t.out = .flit g p ⟨h ty cls seq start, payload, flitCrc (h ty cls seq start) payload⟩ :: s.out
  (l.replayQ = q :: rest → l.buf.find? (fun x => x.seq == q) = some f →
    ∃ t, exec (.flitTransmit g p) s = .next t ∧ sent t 1 f.cls f.seq f.start f.payload ∧
      t.link g p = { l with sinceCtl := min 49 (l.sinceCtl + 1), replayQ := rest, crNext := (l.crNext + 1) % 3 } ∧
      t = { s with links := t.links, out := t.out, tel := t.tel }) ∧
  (l.replayQ = [] → s.flitLimit g ≤ l.buf.length ∨ State.pickClass l = none →
    ∃ t payload, exec (.flitTransmit g p) s = .next t ∧ payload.length = 496 ∧ sent t 0 3 next 31 payload ∧
      (t.link g p).buf = l.buf ∧ t = { s with free := t.free, links := t.links, out := t.out, tel := t.tel }) ∧
  (∀ c, l.replayQ = [] → l.buf.length < s.flitLimit g → State.pickClass l = some c → c < 3 →
    let r := fillSlots 31 0 (State.clsTx l c)
    ∃ t, exec (.flitTransmit g p) s = .next t ∧ sent t 1 c next r.2.1 (padTo 496 r.1.flatten) ∧
      t.get (R.GRP_LINK_SEQ g p) F.GRP_LINK_SEQ_TX_NEXT = (next + 1) % 4096 ∧
      (t.link g p).buf = l.buf ++ [⟨next, c, r.2.1, padTo 496 r.1.flatten⟩] ∧ State.clsTx (t.link g p) c = r.2.2 ∧
      (∀ a, a ≠ R.GRP_LINK_SEQ g p → a ≠ R.GRP_LINK_RX g p → a ≠ R.GRP_LINK_CRDS g p → t.rd a = s.rd a) ∧
      t = { s with regs := t.regs, links := t.links, out := t.out, tel := t.tel })

/-- R116, R132, R133, R139 to R143, R150, R154: a flit received on a link whose lanes wait for nothing, and whose lanes named with symbol
errors have crossed their thresholds before: a damaged one is counted and asks for a replay; a good one gives its acknowledgement and its
credits; an IDLE flit with the number expected clears the request, a DATA flit expected is taken, a duplicate is dropped, one from
further ahead is dropped and asks for a replay; a protocol error retrains the link.
Clauses on points the spec leaves open follow the model's reading: notes/assumptions/44.md, notes/assumptions/104.md. -/
def Obligations.ReceivesFlits : Prop := ∀ (s : State) (g p : Nat) (f : Flit) (errs : List LaneErr), g < 16 → p < 8 → f.payload.length = 496 →
  s.live → s.dueLanes g p = [] → (∀ k ∈ (s.link g p).lanes, k < 17) →
  (∀ e ∈ errs, e.lane < 16 ∧ (s.lane g ((s.link g p).lanes.getD e.lane 0)).crossed = true) →
  let rx := R.GRP_LINK_RX g p
  let nx := s.get rx F.GRP_LINK_RX_RX_NEXT
  let next := s.get (R.GRP_LINK_SEQ g p) F.GRP_LINK_SEQ_TX_NEXT
  let keep := (s.link g p).buf.filter (fun x => seqCmp x.seq (hACK f.hdr) == 1)
  let inRange := ackOk (s.link g p).buf next (hACK f.hdr) = true
  let good := flitOk f = true ∧ flitProto f.hdr = false ∧ inRange
  let noNak := hNAK f.hdr = false ∨ (hACK f.hdr + 1) % 4096 = next
  let taken := fun (t : State) => (t.link g p).buf = keep ∧ t.get (R.GRP_LINK_SEQ g p) F.GRP_LINK_SEQ_TX_ACK = hACK f.hdr ∧
    (hCRCLS f.hdr < 3 → (State.clsTx (t.link g p) (hCRCLS f.hdr)).cr = some (hCRCOUNT f.hdr))
  let counted := fun (t : State) => t = { s with regs := t.regs, lanes := t.lanes, links := t.links, tel := t.tel }
  (s.linkState g p = 3 → flitOk f = false → ∃ t, exec (.flitReceive g p f errs) s = .next t ∧ t.get rx F.GRP_LINK_RX_NAK_PEND = 1 ∧
    t.get rx F.GRP_LINK_RX_RX_NEXT = nx ∧
    t.get (R.GRP_LINK_ERR g p) F.GRP_LINK_ERR_CRC_ERR = min 65535 (s.get (R.GRP_LINK_ERR g p) F.GRP_LINK_ERR_CRC_ERR + 1) ∧
    (t.link g p).buf = (s.link g p).buf ∧ counted t) ∧
  (s.linkState g p = 3 → good → noNak → hTYPE f.hdr = 0 → ∃ t, exec (.flitReceive g p f errs) s = .next t ∧ taken t ∧
    t.get rx F.GRP_LINK_RX_RX_NEXT = nx ∧
    t.get rx F.GRP_LINK_RX_NAK_PEND = (if hSEQ f.hdr = nx then 0 else s.get rx F.GRP_LINK_RX_NAK_PEND) ∧ counted t) ∧
  (s.linkState g p = 3 → good → noNak → hTYPE f.hdr = 1 → seqCmp (hSEQ f.hdr) nx = 2 → ∃ t, exec (.flitReceive g p f errs) s = .next t ∧
    taken t ∧ t.get rx F.GRP_LINK_RX_RX_NEXT = nx ∧
    t.get (R.GRP_LINK_RPL g p) F.GRP_LINK_RPL_DUPS = min 4095 (s.get (R.GRP_LINK_RPL g p) F.GRP_LINK_RPL_DUPS + 1) ∧ counted t) ∧
  (s.linkState g p = 3 → good → noNak → hTYPE f.hdr = 1 → seqCmp (hSEQ f.hdr) nx = 1 → ∃ t, exec (.flitReceive g p f errs) s = .next t ∧
    taken t ∧ t.get rx F.GRP_LINK_RX_RX_NEXT = nx ∧ t.get rx F.GRP_LINK_RX_NAK_PEND = 1 ∧
    t.get (R.GRP_LINK_ERR g p) F.GRP_LINK_ERR_SEQ_DROP = min 65535 (s.get (R.GRP_LINK_ERR g p) F.GRP_LINK_ERR_SEQ_DROP + 1) ∧ counted t) ∧
  (s.linkState g p = 3 → good → noNak → hTYPE f.hdr = 1 → hSEQ f.hdr = nx → f.payload = List.replicate 496 0 →
    (clsRx (s.link g p) (hCLASS f.hdr)).rem = 0 →
    ∃ t, exec (.flitReceive g p f errs) s = .next t ∧ taken t ∧ t.get rx F.GRP_LINK_RX_RX_NEXT = (nx + 1) % 4096 ∧
      t.get rx F.GRP_LINK_RX_NAK_PEND = 0 ∧ counted t) ∧
  (∀ bs, s.linkState g p = 3 → good → noNak → hTYPE f.hdr = 1 → hSEQ f.hdr = nx → 0 < bs.length → bs.length ≤ 492 →
    f.payload = padTo 496 (leBytes 4 bs.length ++ bs) → (clsRx (s.link g p) (hCLASS f.hdr)).rem = 0 →
    ∃ t, exec (.flitReceive g p f errs) s = .next t ∧ taken t ∧ t.get rx F.GRP_LINK_RX_RX_NEXT = (nx + 1) % 4096 ∧
      t.sett.nextPid = s.sett.nextPid + 1 ∧
      ∃ k, t.pkt s.sett.nextPid = some k ∧ k.bytes = bs ∧ k.port = g * 8 + p ∧ k.den = g ∧ k.ucls = hCLASS f.hdr ∧
        k.units = State.linkUnits bs.length ∧ k.refs = 0) ∧
  (∀ q qs, s.linkState g p = 3 → good → hTYPE f.hdr = 0 → hNAK f.hdr = true → (hACK f.hdr + 1) % 4096 ≠ next → keep = q :: qs →
    (s.link g p).rpFrom ≠ some ((hACK f.hdr + 1) % 4096) → keep.length < (s.link g p).buf.length ∨ (s.link g p).rpCnt < 4 →
    ∃ t, exec (.flitReceive g p f errs) s = .next t ∧ taken t ∧ (t.link g p).replayQ = keep.map (·.seq) ∧
      t.get (R.GRP_LINK_RPL g p) F.GRP_LINK_RPL_REPLAYS = min 4095 (s.get (R.GRP_LINK_RPL g p) F.GRP_LINK_RPL_REPLAYS + 1) ∧ counted t) ∧
  (s.linkState g p = 3 → flitOk f = true → flitProto f.hdr = true ∨ ¬ inRange →
    ∃ t, exec (.flitReceive g p f errs) s = .next t ∧ Retrained s t g p 5) ∧
  (s.linkState g p = 2 → s.mode ≠ 4 → good → noNak → hTYPE f.hdr = 0 → 15 ≤ (s.link g p).goodRun → (s.link g p).tx0.cr.isSome = true →
    (s.link g p).tx1.cr.isSome = true → (s.link g p).tx2.cr.isSome = true →
    ∃ t, exec (.flitReceive g p f errs) s = .next t ∧ t.linkState g p = 3 ∧ taken t ∧ t.sett.shut.contains (g * 8 + p) = false)

/-- R119, R122, R159, R161, R343: a spare swap, message by message, to its end or its abort.
Clauses on points the spec leaves open follow the model's reading: notes/assumptions/48.md, notes/assumptions/115.md,
notes/assumptions/117.md. -/
def Obligations.SpareSwaps : Prop := ∀ (s : State) (m g p n lane reason : Nat) (v : Word) (w : Swap) (inv : Bool), masterOk m = true → g < 16 →
  p < 8 → n < 16 → lane < 256 → reason < 256 →
  let st := R.GRP_LANE_STAT g
  let leader := s.on (R.GRP_LINK_STAT g p) F.GRP_LINK_STAT_LEADER
  let inSwap := fun (t : State) (k : Nat) => t.linkState g p = 4 ∧ t.get st F.GRP_LANE_STAT_SPARE_STATE = 1 ∧
    t.get st F.GRP_LANE_STAT_SPARE_PORT = p ∧ t.get st F.GRP_LANE_STAT_SPARE_LANE = (s.link g p).lanes.getD k 0 % 16 ∧
    (t.link g p).swap = some { lane := k } ∧ t.get (R.GRP_LANE_CTL g 16) F.GRP_LANE_CTL_RATE = s.linkRate g p
  (s.takes m (R.GRP_SPARE_CMD g) v → fldOf v F.GRP_SPARE_CMD_GO = 1 → fldOf v F.GRP_SPARE_CMD_LANE = n → s.linkOf g n = some p →
    s.linkState g p = 3 → s.spareFit g p = true → (s.link g p).unranked = false →
    ∃ t, exec (.spareCmd m g v) s = .next t ∧ inSwap t ((s.link g p).lanes.idxOf n) ∧
      (t.link g p).tx0.wait = (s.link g p).tx0.wait ++ [⟨true, State.lcmBytes 1 [(s.link g p).lanes.idxOf n]⟩] ∧
      t.get st F.GRP_LANE_STAT_CMD_REF = 0) ∧
  (s.takes m (R.GRP_SPARE_CMD g) v → fldOf v F.GRP_SPARE_CMD_GO = 1 → fldOf v F.GRP_SPARE_CMD_LANE = n →
    (s.linkOf g n = none ∨ (s.linkOf g n = some p ∧ (s.linkState g p ≠ 3 ∨ s.spareFit g p = false ∨ (s.link g p).unranked = true))) →
    exec (.spareCmd m g v) s = .next (s.set st F.GRP_LANE_STAT_CMD_REF 1)) ∧
  (s.live → s.linkState g p = 3 → lane < (s.link g p).lanes.length → s.spareFit g p = true →
    ∃ t, exec (.swapReq g p lane) s = .next t ∧ inSwap t lane ∧ t.out = s.out) ∧
  (s.live → s.linkState g p = 3 → lane < (s.link g p).lanes.length → s.spareFit g p = false →
    ∃ t, exec (.swapReq g p lane) s = .next t ∧ Retrained s t g p 6) ∧
  (s.live → s.linkState g p < 3 ∨ 4 < s.linkState g p ∨ (s.link g p).lanes.length ≤ lane → exec (.swapReq g p lane) s = .next s) ∧
  (s.live → (s.link g p).swap = some w → s.linkState g p = 4 → w.sentReady = false →
    ∃ t, exec (.spareAligned g ⟨p, inv⟩) s = .next t ∧ (t.link g p).swap = some { w with
        sentReady := true, sentGo := w.sentGo || (leader && w.gotReady) || (!leader && w.gotGo) } ∧
      t.laneAligned g 16 = true ∧ t.get (R.GRP_LANE_CTL g 16) F.GRP_LANE_CTL_POL = b2n inv ∧ t.linkState g p = 4) ∧
  (s.live → (s.link g p).swap = some w → w.lane = lane →
    (∃ t, exec (.swapReady g p lane) s = .next t ∧ (t.link g p).swap = some { w with
        gotReady := true, sentGo := w.sentGo || (leader && w.sentReady) || (!leader && w.gotGo) } ∧ t = { s with links := t.links }) ∧
    (∃ t, exec (.swapGo g p lane) s = .next t ∧ (t.link g p).swap = some { w with
        gotGo := true, sentGo := w.sentGo || (leader && w.sentReady && w.gotReady) || !leader } ∧ t = { s with links := t.links })) ∧
  (s.live → s.linkState g p = 4 → ∃ t, exec (.swapAbort g p lane reason) s = .next t ∧ Retrained s t g p 6) ∧
  (s.live → (s.link g p).swap = some w → s.linkState g p = 4 → (w.sentReady && w.gotReady) = false →
    ∃ t, exec (.swapTimeout g p) s = .next t ∧ Retrained s t g p 6) ∧
  (s.live → (s.link g p).swap = some w → s.linkState g p = 4 → w.sentGo = true → w.gotGo = true → (s.link g p).exclAfterSwap = [] →
    s.mode ≠ 4 → (s.link g p).lanes.getD w.lane 0 < 17 → s.dueLanes g p = [] → (s.lane g 16).due = false →
    ∃ t, exec (.swapBlockEnd g p) s = .next t ∧ t.linkState g p = 3 ∧ t.get st F.GRP_LANE_STAT_SPARE_STATE = 2 ∧
      t.get st F.GRP_LANE_STAT_SWAPS = min 255 (s.get st F.GRP_LANE_STAT_SWAPS + 1) ∧
      (t.link g p).lanes = (s.link g p).lanes.set w.lane 16 ∧ (t.link g p).swap = none ∧ t.out = s.out)

/-- R144, R145, R153 to R158: the timers of a link, and bring-up after a retrain.
Clauses on points the spec leaves open follow the model's reading: notes/assumptions/46.md. -/
def Obligations.LinkTimers : Prop := ∀ (s : State) (g p cls : Nat) (f : TxFlit) (k : LinkPkt) (fs : List TxFlit) (ks : List LinkPkt),
  g < 16 → p < 8 → cls < 3 → s.live →
  let l := s.link g p
  (s.linkState g p = 3 → l.buf = f :: fs → l.rpCnt < 4 →
    ∃ t, exec (.replayTimeout g p) s = .next t ∧
      t.link g p = { l with rpCnt := l.rpCnt + 1, rpFrom := some f.seq, replayQ := l.buf.map (·.seq) } ∧
      t.get (R.GRP_LINK_RPL g p) F.GRP_LINK_RPL_REPLAYS = min 4095 (s.get (R.GRP_LINK_RPL g p) F.GRP_LINK_RPL_REPLAYS + 1) ∧
      (∀ a, a ≠ R.GRP_LINK_RPL g p → t.rd a = s.rd a) ∧ t = { s with regs := t.regs, links := t.links, tel := t.tel }) ∧
  (s.linkState g p = 3 → l.buf = f :: fs → 4 ≤ l.rpCnt → ∃ t, exec (.replayTimeout g p) s = .next t ∧ Retrained s t g p 2) ∧
  (s.linkState g p = 3 → (State.clsTx l cls).wait = k :: ks → (State.clsTx l cls).cur = [] →
    State.credit (State.clsTx l cls) < State.linkUnits k.bytes.length →
    ∃ t, exec (.creditTimeout g p cls) s = .next t ∧ Retrained s t g p 1) ∧
  (∀ q e es x, s.linkState g p = 3 → (State.clsTx l cls).wait = [] → (State.clsTx l cls).cur = [] → q < 8 →
    s.queue ((g * 8 + p) * 8 + q) = e :: es → s.pkt e.pid = some x → State.fabClass (outBytes x e.desc e.view) = cls →
    State.credit (State.clsTx l cls) < State.linkUnits (outBytes x e.desc e.view).length →
    ∃ t, exec (.creditTimeout g p cls) s = .next t ∧ Retrained s t g p 1) ∧
  ((State.clsTx l cls).wait = [] → (∀ q, q < 8 → s.queue ((g * 8 + p) * 8 + q) = []) → exec (.creditTimeout g p cls) s = .next s) ∧
  (s.linkState g p = 2 → ∃ t, exec (.initTimeout g p) s = .next t ∧ Retrained s t g p 4) ∧
  (s.linkState g p ≠ 2 → exec (.initTimeout g p) s = .next s) ∧
  (s.linkState g p = 5 → s.mayLink g p = false →
    exec (.retrainPortResetDone g p) s = .next (s.set (R.GRP_LINK_STAT g p) F.GRP_LINK_STAT_STATE 0)) ∧
  (∀ ids, s.linkState g p = 5 → s.mayLink g p = true → s.portWidth (g * 8 + p) ≤ 16 →
    fldOf (s.layout (g * 8 + p)) F.GRP_PORT_CFG_FIRST + s.portWidth (g * 8 + p) ≤ 16 →
    chooseLanes (s.portWidth (g * 8 + p)) (s.usable g p) = some ids →
    ∃ t, exec (.retrainPortResetDone g p) s = .next t ∧ Training s t g p ids) ∧
  (s.linkState g p = 5 → s.mayLink g p = true → chooseLanes (s.portWidth (g * 8 + p)) (s.usable g p) = none →
    exec (.retrainPortResetDone g p) s = .next (s.set (R.GRP_LINK_STAT g p) F.GRP_LINK_STAT_STATE 6))

/-- R155, R163, R165, R167, R619: LINK_CMD and RETRAIN_REQ. -/
def Obligations.LinkCommands : Prop := ∀ (s : State) (m g p op : Nat) (ids : List Nat), masterOk m = true → g < 16 → p < 8 → op < 256 →
  s.linkRegsShown g p = true → s.portWidth (g * 8 + p) ≤ 16 →
  fldOf (s.layout (g * 8 + p)) F.GRP_PORT_CFG_FIRST + s.portWidth (g * 8 + p) ≤ 16 →
  let st := R.GRP_LINK_STAT g p
  let up := 1 ≤ s.linkState g p ∧ s.linkState g p ≤ 4
  (s.takes m (R.GRP_LINK_CMD g p) 1 → up → ∃ t, exec (.linkCmdRetrain m g p) s = .next t ∧ Retrained s t g p 3) ∧
  (s.takes m (R.GRP_LINK_CMD g p) 1 → ¬ up → exec (.linkCmdRetrain m g p) s = .next (s.set st F.GRP_LINK_STAT_CMD_REF 1)) ∧
  (s.takes m (R.GRP_LINK_CMD g p) 2 → up → ∃ t, exec (.linkCmdRetrainFull m g p) s = .next t ∧ Retrained s t g p 3) ∧
  (s.takes m (R.GRP_LINK_CMD g p) 2 → s.linkState g p = 7 →
    exec (.linkCmdRetrainFull m g p) s = .next (s.set st F.GRP_LINK_STAT_CMD_REF 1)) ∧
  (s.takes m (R.GRP_LINK_CMD g p) 2 → s.linkState g p = 0 ∨ s.linkState g p = 5 →
    exec (.linkCmdRetrainFull m g p) s
      = .next (((s.set st F.GRP_LINK_STAT_CMD_REF 0).set st F.GRP_LINK_STAT_EXCL 0).setLink g p fun l => { l with exclAfterSwap := [] })) ∧
  (s.takes m (R.GRP_LINK_CMD g p) 2 → s.linkState g p = 6 → s.mayLink g p = true →
    chooseLanes (s.portWidth (g * 8 + p)) ((s.set st F.GRP_LINK_STAT_EXCL 0).usable g p) = some ids →
    ∃ t, exec (.linkCmdRetrainFull m g p) s = .next t ∧ Training s t g p ids ∧ t.get st F.GRP_LINK_STAT_EXCL = 0) ∧
  (s.takes m (R.GRP_LINK_CMD g p) 3 → ¬ up →
    exec (.linkCmdDisable m g p) s = .next ((s.set st F.GRP_LINK_STAT_CMD_REF 0).set st F.GRP_LINK_STAT_STATE 7)) ∧
  (s.takes m (R.GRP_LINK_CMD g p) 3 → up →
    ∃ t, exec (.linkCmdDisable m g p) s = .next t ∧ t.linkState g p = 7 ∧
      t.link g p = State.cleanLink (s.link g p) (s.link g p).lanes) ∧
  (s.takes m (R.GRP_LINK_CMD g p) 4 → s.mayLink g p = false → s.linkState g p = 6 ∨ s.linkState g p = 7 →
    exec (.linkCmdEnable m g p) s = .next ((s.set st F.GRP_LINK_STAT_CMD_REF 0).set st F.GRP_LINK_STAT_STATE 0)) ∧
  (s.takes m (R.GRP_LINK_CMD g p) 4 → s.mayLink g p = true → s.linkState g p = 6 ∨ s.linkState g p = 7 →
    chooseLanes (s.portWidth (g * 8 + p)) (s.usable g p) = some ids →
    ∃ t, exec (.linkCmdEnable m g p) s = .next t ∧ Training s t g p ids) ∧
  (s.takes m (R.GRP_LINK_CMD g p) 4 → s.linkState g p ≠ 6 → s.linkState g p ≠ 7 →
    exec (.linkCmdEnable m g p) s = .next (s.set st F.GRP_LINK_STAT_CMD_REF 0)) ∧
  (s.live → 2 ≤ s.linkState g p → s.linkState g p ≤ 4 → ∃ t, exec (.retrainReq g p op) s = .next t ∧ Retrained s t g p 3) ∧
  (s.live → s.linkState g p < 2 ∨ 4 < s.linkState g p → exec (.retrainReq g p op) s = .next s)

/-- R63, R85, R89, R90, R93, R168, R172, R217: a port that may train comes up at the highest rate and width both ends have, and takes its role as
training starts.
Clauses on points the spec leaves open follow the model's reading: notes/assumptions/29.md. -/
def Obligations.PortTraining : Prop := ∀ (s : State) (P h : Nat) (x : PcieTrain), P < 128 → x.wf = true → s.isPcie P = true →
  let u := if s.portUp P = false ∧ (s.role P = 0 ∨ (s.upOf P).isSome = true) then s.takeRole P else s
  let w := min x.width (fldOf (s.layout P) F.GRP_PORT_CFG_WIDTH)
  (x.up = true → u.mayTrain P = true → fldOf (s.layout P) F.GRP_PORT_CFG_FIRST + 2 ^ w ≤ 16 →
    ∃ t, exec (.pcieLinkTrain P x) s = .next t ∧ t.portUp P = true ∧
      t.get (State.statA P) F.GRP_PCIE_STAT_RATE
        = u.rateFor (P / 8) (fldOf (s.layout P) F.GRP_PORT_CFG_FIRST) (2 ^ w) (min x.rate (u.pcieTop P)) ∧
      t.get (State.statA P) F.GRP_PCIE_STAT_WIDTH = w ∧ t.role P = u.role P ∧
      (u.role P = 1 → u.hdState (u.roleHd P) = 1 → t.hdState (u.roleHd P) = 2) ∧
      (s.portUp P = false → t.out.head? = some (.fcCredits P (u.fcAdvertised P))) ∧ t.now = s.now) ∧
  (x.up = true → u.mayTrain P = false → exec (.pcieLinkTrain P x) s = .next u) ∧
  (s.upOf P = some h → (s.takeRole P).role P = 1 ∧ (s.takeRole P).roleHd P = h % 16) ∧
  (s.mode = 0 ∨ s.mode = 7 → s.mayTrain P = false) ∧
  (x.up = false → s.role P ≠ 1 → ∃ t, exec (.pcieLinkTrain P x) s = .next t ∧ PortWasReset t P)

/-- R170, R171, R180: an enabled domain samples its configuration; an enable that the rules do not allow is refused; a disabled
one loses its hierarchy.
Clauses on points the spec leaves open follow the model's reading: notes/assumptions/30.md, notes/assumptions/91.md. -/
def Obligations.HostDomains : Prop := ∀ (s : State) (m h : Nat) (v : Word), masterOk m = true → h < 16 →
  s.takes m (R.GLB_HD_CFG h) v →
  let only := s.mode = 1 ∨ (s.mode = 6 ∧ h ≠ 0)
  let up := fldOf v F.GLB_HD_CFG_UP_PORT
  let bad := s.pcieEnabled up = false ∨ (∃ k, k < 16 ∧ k ≠ h ∧ (s.dom k).on = true ∧ (s.dom k).upPort = up) ∨ (s.mode = 2 ∧ h ≠ 0)
  (fldOf v F.GLB_HD_CFG_EN = 1 → s.on (R.GLB_HD_CFG h) F.GLB_HD_CFG_EN = false → ¬ bad → ¬ only →
    ∃ t, exec (.hostDomainEnable m h v) s = .next t ∧
      (let ap := clampTo 30 46 (fldOf v F.GLB_HD_CFG_APP_SZ)
       let an := clampTo 20 36 (fldOf v F.GLB_HD_CFG_APN_SZ)
       t.dom h = { s.dom h with on := true, upPort := up, appSz := ap, apnSz := an, appRst := ap, apnRst := an }) ∧
      t.get (R.GLB_HD_CFG h) F.GLB_HD_CFG_EN = 1 ∧ t.get (R.GLB_HD_STAT h) F.GLB_HD_STAT_EN_ERR = 0 ∧
      t.hdState h = (if s.hdState h = 0 then 1 else s.hdState h) ∧ (∀ k, k ≠ h → t.dom k = s.dom k) ∧
      (∀ a, a ≠ R.GLB_HD_CFG h → a ≠ R.GLB_HD_STAT h → t.rd a = s.rd a) ∧ t = { s with regs := t.regs, doms := t.doms }) ∧
  (fldOf v F.GLB_HD_CFG_EN = 1 → s.on (R.GLB_HD_CFG h) F.GLB_HD_CFG_EN = false → bad →
    ∃ t, exec (.hostDomainEnable m h v) s = .next t ∧ t.get (R.GLB_HD_STAT h) F.GLB_HD_STAT_EN_ERR = 1 ∧
      t.get (R.GLB_HD_CFG h) F.GLB_HD_CFG_EN = 0 ∧
      (∀ a, a ≠ R.GLB_HD_CFG h → a ≠ R.GLB_HD_STAT h → t.rd a = s.rd a) ∧ t = { s with regs := t.regs }) ∧
  (fldOf v F.GLB_HD_CFG_EN = 1 → s.on (R.GLB_HD_CFG h) F.GLB_HD_CFG_EN = false → ¬ bad → only →
    exec (.hostDomainEnable m h v) s = .next ((s.store m (R.GLB_HD_CFG h) v).set (R.GLB_HD_STAT h) F.GLB_HD_STAT_EN_ERR 0)) ∧
  (fldOf v F.GLB_HD_CFG_EN = 0 → s.on (R.GLB_HD_CFG h) F.GLB_HD_CFG_EN = true → s.mode ≠ 1 → (s.dom h).on = true →
    ∃ t, exec (.hostDomainDisable m h v) s = .next t ∧ (t.dom h).on = false ∧
      (s.role (s.dom h).upPort ≠ 1 ∨ s.portUp (s.dom h).upPort = true → (t.dom h).cfg = [])) ∧
  (fldOf v F.GLB_HD_CFG_EN = 0 → s.on (R.GLB_HD_CFG h) F.GLB_HD_CFG_EN = false ∨ s.mode = 1 ∨ (s.dom h).on = false →
    exec (.hostDomainDisable m h v) s = .next (s.store m (R.GLB_HD_CFG h) v))

/-- R172, R179, R206: resets of ports from a host and by register, and a port's disable.
Clauses on points the spec leaves open follow the model's reading: notes/assumptions/85.md. -/
def Obligations.PortResets : Prop := ∀ (s : State) (m g p h v P : Nat) (down : Bool), masterOk m = true → g < 16 → p < 8 → h < 16 → v < 32 →
  let Q := g * 8 + p
  (s.takes m (R.GRP_PCIE_CMD g p) 1 → s.pcieRegsShown g p = true → s.isPcie Q = true → s.role Q ≠ 1 →
    ∃ t, exec (.portReset m g p) s = .next t ∧ PortWasReset t Q) ∧
  (s.takes m (R.GRP_PCIE_CMD g p) 2 → s.pcieRegsShown g p = true → s.isPcie Q = true → s.role Q ≠ 1 →
    ∃ t, exec (.pciePortDisable m g p) s = .next t ∧ PortWasReset t Q ∧ (t.port Q).disabled = true) ∧
  (s.takes m (R.GRP_PCIE_CMD g p) 3 → s.pcieRegsShown g p = true →
    exec (.pciePortEnable m g p) s = .next (s.setPort Q fun x => { x with disabled := false })) ∧
  (s.takes m (R.GRP_PCIE_CMD g p) 1 → s.pcieRegsShown g p = false → exec (.portReset m g p) s = .next s) ∧
  ((s.dom h).on = true → s.isPcie (s.dom h).upPort = true → (s.dom h).upPort < 128 → s.role (s.dom h).upPort = 1 →
    s.roleHd (s.dom h).upPort = h → s.portUp (s.dom h).upPort = true →
    ∃ t, exec (.upstreamReset h down) s = .next t ∧ (t.dom h).cfg = [] ∧ PortWasReset t (s.dom h).upPort) ∧
  ((s.dom h).on = true → (s.dom h).downDue = true → s.portUp (s.dom h).upPort = false →
    ∃ t, exec (.upstreamReset h true) s = .next t ∧ (t.dom h).cfg = [] ∧ (t.dom h).downDue = false) ∧
  ((s.dom h).on = false → exec (.upstreamReset h down) s = .next s ∧ exec (.secondaryBusReset h v) s = .next s) ∧
  ((s.dom h).on = true → s.portOfVdev h v = some P → s.role P = 2 →
    ∃ t, exec (.secondaryBusReset h v) s = .next t ∧ PortWasReset t P) ∧
  ((s.dom h).on = true → s.portOfVdev h v = some P → s.role P = 3 → exec (.secondaryBusReset h v) s = .next s) ∧
  ((s.dom h).on = true → s.portOfVdev h v = none →
    exec (.secondaryBusReset h v) s = .next { s with
      out := ((s.vfsBehind h v).map fun e => Output.vfFlr e.pport e.prid).reverse ++ s.out })

/-- R173, R191, R192, R225, R229, R238, R244, R245, R334: what comes in at a port: a TLP enters the switch with its flow-control credit or is
refused, a PTM Request is answered, an injected packet enters with class 24, credits grow. The TLP's class and its m5 are as R238 and R245
lay them out.
Clauses on points the spec leaves open follow the model's reading: notes/assumptions/17.md, notes/assumptions/27.md,
notes/assumptions/57.md, notes/assumptions/58.md, notes/assumptions/69.md, notes/assumptions/127.md. -/
def Obligations.PacketsComeIn : Prop := ∀ (s : State) (P d cls hc dc : Nat) (x : Tlp) (bytes : List Byte), P < 128 → d < 16 → cls < 3 →
  x.wf = true → s.live → s.sett.dmfIn = [] →
  let at' := s.portUp P = true ∧ s.isPcie P = true ∧ s.role P ≠ 0 ∧ s.sett.shut.contains P = false
  let here := at' ∧ s.forwarding = true
  let asks := x.kind = .mrd ∨ x.kind = .mrdLk ∨ x.kind = .ioRd ∨ x.kind = .ioWr ∨ x.kind = .atomic ∨ x.kind = .ats
  let up := decide (s.role P = 1)
  let ptm := x.kind = .msg ∧ msgCode x.flit x.bytes = 0x52 ∧ s.role P ≠ 1
  let counted := (s.count (P / 8) 1 (P % 8) 1).count (P / 8) 3 (P % 8) x.bytes.length
  let k0 : Pkt := {
    port := P, den := P / 8
    cls := tlpClass x up + (if bit (s.get (R.DEN_PORT_CLS (P / 8)) F.DEN_PORT_CLS_ALT) (P % 8) then 32 else 0)
    bytes := x.bytes, tc := x.tc
    m5 := b2n x.flit + 2 * b2n x.poisoned + 4 * b2n x.pasid.isSome + 8 * b2n up + 16 * b2n x.ide + 32 * b2n x.digest
    slice := (s.selectSlice (s.virtOf P (State.sender x)).1 x.pasid).getD 0xFFFF, arr := s.now, tlp := some x, units := 0, ucls := 0
    cells := [], left := 0, refs := 0, spoor := false, bad := x.nullified, fc := true }
  let k := { k0 with m5 := k0.m5 + 256 * s.fromDomain k0 x }
  let refused := fun (t : State) => t.get (R.GRP_PCIE_CNT (P / 8) (P % 8)) F.GRP_PCIE_CNT_UR_SENT
      = min (2 ^ F.GRP_PCIE_CNT_UR_SENT.w - 1) (s.get (R.GRP_PCIE_CNT (P / 8) (P % 8)) F.GRP_PCIE_CNT_UR_SENT + 1) ∧ t.sett = s.sett
  (here → x.nullified = false → (x.kind = .msg → msgCode x.flit x.bytes ≠ 0) → ¬ ptm →
    (x.kind = .cpl → s.proxyOf P x.reqId = none ∨ (s.proxyTags P).contains x.tag = true) →
    (asks ∨ x.kind = .mwr → s.role P = 1 ∨ s.busBlock P x = none) →
    ∃ t, exec (.tlpReceive P x) s = .next t ∧ Arrived (counted.fcTake P x) t k) ∧
  (here → x.nullified = true → ∃ t, exec (.tlpReceive P x) s = .next t ∧ Arrived (s.fcTake P x) t k) ∧
  (here → x.nullified = false → ptm → bit (s.cfgWord (s.roleHd P) (2 + s.roleVdev P) .ptmControl).toNat 0 = true →
    exec (.tlpReceive P x) s = .next (counted.emit (.ptm P s.now))) ∧
  (at' → s.forwarding = false → x.nullified = false → s.role P = 1 → asks ∨ x.kind = .mwr →
    s.inDmf (s.roleHd P) (tlpAddr x.flit x.bytes) = none → ∃ t, exec (.tlpReceive P x) s = .next t ∧ refused t) ∧
  (at' → s.forwarding = false → s.role P ≠ 1 → exec (.tlpReceive P x) s = .next s) ∧
  (here → x.nullified = false → x.kind = .msg → msgCode x.flit x.bytes = 0 → exec (.tlpReceive P x) s = .next counted) ∧
  (here → x.nullified = false → s.role P ≠ 1 → asks → s.busBlock P x ≠ none →
    ∃ t, exec (.tlpReceive P x) s = .next t ∧ refused t ∧
      t.out.head? = some (if x.kind = .mrdLk then .completionLk P x.reqId x.tag .ur [] else .completion P x.reqId x.tag .ur [])) ∧
  (here → x.nullified = false → s.role P ≠ 1 → x.kind = .mwr → s.busBlock P x ≠ none →
    ∃ t, exec (.tlpReceive P x) s = .next t ∧ refused t) ∧
  (here → x.nullified = false → x.kind = .cpl → s.proxyOf P x.reqId ≠ none → (s.proxyTags P).contains x.tag = false →
    ∃ t, exec (.tlpReceive P x) s = .next t ∧ t.get (R.GRP_PCIE_CNT (P / 8) (P % 8)) F.GRP_PCIE_CNT_UNEXP_CPL
      = min (2 ^ F.GRP_PCIE_CNT_UNEXP_CPL.w - 1) (s.get (R.GRP_PCIE_CNT (P / 8) (P % 8)) F.GRP_PCIE_CNT_UNEXP_CPL + 1) ∧ t.sett = s.sett) ∧
  (s.portUp P = false ∨ s.sett.shut.contains P = true → exec (.tlpReceive P x) s = .next s) ∧
  (s.forwarding = true → ∃ t, exec (.injectedPacket d bytes) s = .next t ∧ Arrived s t {
    port := 128, den := d, cls := 24, bytes := bytes, tc := (bytes.getD 1 0).toNat % 8, m5 := 128, slice := 0xFFFF, arr := s.now
    tlp := none, units := 0, ucls := 0, cells := [], left := 0, refs := 0, spoor := false, bad := false }) ∧
  (s.forwarding = false → exec (.injectedPacket d bytes) s = .next s) ∧
  (exec (.flowControlUpdate P cls hc dc) s = .next (s.setPort P fun p =>
    { p with hdrCr := p.hdrCr.upd dZero cls (· + hc), dataCr := p.dataCr.upd dZero cls (· + dc) }))

/-- R183, R193 to R195, R197, R198, R202: what a port and a DMF track: timeouts, DPC and its release, the ends of host reads.
Clauses on points the spec leaves open follow the model's reading: notes/assumptions/60.md, notes/assumptions/61.md. -/
def Obligations.TrackedRequests : Prop := ∀ (s : State) (P h tag v : Nat) (x : Tracked) (r : HostRead) (st : CplStatus)
    (data : List Byte) (c : DpcCause), P < 128 → h < 16 → v < 32 →
  (s.live → (s.port P).tracked.find? (fun y => y.tag == tag) = some x → s.tagWaits P tag = false →
    exec (.trackedTimeout P tag) s = .next (((s.setPort P fun p => { p with tracked := p.tracked.filter fun y => y.tag != tag }).emit
      (.completion x.port x.reqId x.reqTag .ca [])).inc (State.cnt2A P) F.GRP_PCIE_CNT2_CTO_SYN 1)) ∧
  (s.isPcie P = true → 2 ≤ s.role P → c ≠ .errNonfatal → s.dpcEnable P = 1 → s.on (State.statA P) F.GRP_PCIE_STAT_DPC = false →
    Seated s P →
    ∃ t, exec (.dpcTrigger P c) s = .next t ∧ t.get (State.statA P) F.GRP_PCIE_STAT_DPC = 1 ∧ PortWasReset t P ∧
      (t.port P).dpcHold = s.shows P ∧ (t.port P).dpcReason = State.dpcReason c ∧
      (∀ y ∈ s.shows P, t.cfgWord y.1 (2 + y.2) .dpcStatus = BitVec.ofNat 32 (1 + State.dpcReason c))) ∧
  (s.dpcEnable P = 0 → c ≠ .linkError → exec (.dpcTrigger P c) s = .next s) ∧
  (s.dpcEnable P = 0 → s.isPcie P = true → exec (.dpcTrigger P .linkError) s = .next (s.aerAt P 5)) ∧
  ((s.port P).dpcHold = [(h, v)] → (∀ Q, Q < 128 → Q ≠ P → (s.port Q).dpcHold.contains (h, v) = false) →
    ∃ t, exec (.dpcRelease h v) s = .next t ∧ t.get (State.statA P) F.GRP_PCIE_STAT_DPC = 0 ∧ (t.port P).dpcHold = [] ∧
      bit (t.cfgWord h (2 + v) .dpcStatus).toNat 0 = false ∧ (∀ a, a ≠ State.statA P → t.rd a = s.rd a) ∧
      t = { s with regs := t.regs, ports := t.ports, doms := t.doms }) ∧
  ((s.dom h).reads.find? (fun y => y.tag == tag) = some r →
    let u := s.setDom h fun d => { d with reads := d.reads.filter fun y => y.tag != tag }
    (s.live → r.drop = 1 → st ≠ .timeout →
      exec (.hostReadCompletion h tag st data) s = .next (u.inc (R.GLB_HD_CNT h) F.GLB_HD_CNT_BME_DISC 1)) ∧
    (r.drop = 3 → exec (.hostReadCompletion h tag st data) s = .next u ∧ exec (.dmfCompletionTimeout h tag) s = .next u) ∧
    (s.mode = 7 → exec (.hostReadCompletion h tag st data) s = .next u) ∧
    (∀ slot k, s.live → r.drop = 0 → r.pur = .gather slot k → st = .sc → ∃ t, exec (.hostReadCompletion h tag st data) s = .next t ∧
      t = u.gathered slot (padTo r.len data)) ∧
    (∀ slot k, s.live → r.drop = 0 → r.pur = .gather slot k → ∃ t, exec (.dmfCompletionTimeout h tag) s = .next t ∧
      t = u.endMsg slot stHOST_ERROR true 255 (s.lastPath slot) false)) ∧
  ((s.dom h).reads.find? (fun y => y.tag == tag) = none → exec (.dmfCompletionTimeout h tag) s = .next s)

/-- R199 to R201, R418: Bus Master Enable of a DMF and its Function Level Reset; while one runs a further one acts on the slices alone.
Clauses on points the spec leaves open follow the model's reading: notes/assumptions/61.md. -/
def Obligations.DmfResets : Prop := ∀ (s : State) (h : Nat) (on limit : Bool), h < 16 →
  ((s.dom h).on = true → s.portUp (s.dom h).upPort = true → s.hdState h ≠ 3 →
    ∃ t, exec (.dmfBmeWrite h on) s = .next t ∧ t.on (R.GLB_HD_STAT h) F.GLB_HD_STAT_BME = on) ∧
  ((s.dom h).on = true → s.portUp (s.dom h).upPort = true → s.hdState h ≠ 3 → s.on (R.GLB_HD_STAT h) F.GLB_HD_STAT_BME = true →
    ∃ t, exec (.dmfBmeWrite h false) s = .next t ∧ ∀ r ∈ (t.dom h).reads, r.drop ≠ 0) ∧
  ((s.dom h).on = false → exec (.dmfBmeWrite h on) s = .next s) ∧
  (s.hdState h = 1 ∨ s.hdState h = 2 → ∃ t, exec (.dmfFlr h) s = .next t ∧ t.hdState h = 3 ∧ (∀ r ∈ (t.dom h).reads, r.drop = 2)) ∧
  (s.hdState h = 0 → exec (.dmfFlr h) s = .next s) ∧ (s.hdState h = 3 → exec (.dmfFlr h) s = .next (s.slcsReset h 1)) ∧
  (s.hdState h = 3 → limit = true ∨ s.flrWaits h = false →
    ∃ t, exec (.flrComplete h limit) s = .next t ∧ t.hdState h ≠ 3 ∧ (t.dom h).evq = [] ∧ (t.dom h).msix = [] ∧
      (∀ q, cfgRegNo q < 128 → t.cfgWord h 1 q = 0) ∧
      t.get (R.GLB_HD_STAT h) F.GLB_HD_STAT_FLR_CTO = (if limit = true ∧ s.flrWaits h = true then 1 else 0)) ∧
  (s.hdState h ≠ 3 → exec (.flrComplete h limit) s = .next s)

/-- R63, R176 to R178, R180, R181, R184, R186, R191, R192, R195, R201, R238, R479, R569: a host's accesses to its hierarchy and to BAR0 of its DMF. The bit
places of configuration registers are the model's (notes/assumptions/27.md).
Clauses on points the spec leaves open follow the model's reading: notes/assumptions/8.md, notes/assumptions/62.md,
notes/assumptions/84.md. -/
def Obligations.HostAccesses : Prop := ∀ (s : State) (h n fn Q : Nat) (c : CfgReq) (x : BarAcc), h < 16 → n < 32 → c.wf = true →
  x.wf = true → (s.dom h).on = true → s.portUp (s.dom h).upPort = true → (s.dom h).upPort < 128 →
  let P := (s.dom h).upPort
  let answer := fun (st : CplStatus) (data : List Byte) => s.emit (.dmfAnswer h c.reqId c.tag st data)
  let refused := fun (t : State) => t.out.head? = some (.dmfAnswer h c.reqId c.tag .ur []) ∧
    t.get (R.GRP_PCIE_CNT (P / 8) (P % 8)) F.GRP_PCIE_CNT_UR_SENT
      = min (2 ^ F.GRP_PCIE_CNT_UR_SENT.w - 1) (s.get (R.GRP_PCIE_CNT (P / 8) (P % 8)) F.GRP_PCIE_CNT_UR_SENT + 1)
  let ready := 2 ≤ s.hdState h
  let rid := 256 * c.bus + 8 * c.dev + c.fnc
  let goesOn := fun (t : State) => t.out = s.out ∧ t.sett.nextPid = s.sett.nextPid + 1 ∧
    ∃ k, t.pkt s.sett.nextPid = some k ∧ k.port = P ∧ k.cls % 32 = 4 ∧
      k.bytes = (State.cfgTlp c (decide (c.bus = s.secBus h n))).bytes ∧ k.refs = 0
  (s.hdState h < 2 → exec (.configRequest h c) s = .next (answer .rrs [])) ∧
  (ready → s.cfgTarget h c = .nowhere → ∃ t, exec (.configRequest h c) s = .next t ∧ refused t) ∧
  (s.hdState h = 3 → s.cfgTarget h c = .own 1 → exec (.configRequest h c) s = .next (answer .rrs [])) ∧
  (s.hdState h = 2 → s.cfgTarget h c = .own fn → c.write = false → c.reg = .vendorDevice →
    exec (.configRequest h c) s = .next (answer .sc (leBytes 4 (BitVec.ofNat 32 (Config.vendorId.toNat
      + 65536 * (if fn = 0 then 0xF250 else if fn = 1 then 0xF256 else 0xF251))).toNat))) ∧
  (ready → s.cfgTarget h c = .own (2 + n) → c.write = true → c.reg = .busNumbers →
    exec (.configRequest h c) s = .next ((s.setCfg h (2 + n) .busNumbers
      ((s.cfgWord h (2 + n) .busNumbers &&& ~~~0x00FFFFFF) ||| (c.value &&& 0x00FFFFFF))).emit (.dmfAnswer h c.reqId c.tag .sc []))) ∧
  (ready → s.cfgTarget h c = .below n → s.portOfVdev h n = some Q → (s.vfEntOf Q rid).isSome = false → s.forwarding = true → s.portUp Q = true →
    ∃ t, exec (.configRequest h c) s = .next t ∧ goesOn t) ∧
  (ready → s.cfgTarget h c = .below n → s.portOfVdev h n = some Q →
    (s.vfEntOf Q rid).isSome = true ∨ (s.portUp Q = false ∧ s.on (State.statA Q) F.GRP_PCIE_STAT_DPC = false) →
    ∃ t, exec (.configRequest h c) s = .next t ∧ refused t) ∧
  (∀ e, ready → s.cfgTarget h c = .below n → s.portOfVdev h n = none → c.bus = s.secBus h n → c.dev = 0 →
    (s.vfsBehind h n).find? (fun e => e.gfn == c.fnc) = some e → State.barOf c.reg = none →
    (s.forwarding = true → s.portUp e.pport = true → ∃ t, exec (.configRequest h c) s = .next t ∧ goesOn t) ∧
    (s.portUp e.pport = false → s.on (State.statA e.pport) F.GRP_PCIE_STAT_DPC = false →
      exec (.configRequest h c) s = .next ((s.inc (State.cnt2A e.pport) F.GRP_PCIE_CNT2_CTO_SYN 1).emit
        (.dmfAnswer h c.reqId c.tag (s.dpcStatus h n) [])))) ∧
  (∀ e k hi, ready → s.cfgTarget h c = .below n → s.portOfVdev h n = none → c.bus = s.secBus h n → c.dev = 0 → c.write = false →
    (s.vfsBehind h n).find? (fun e => e.gfn == c.fnc) = some e → State.barOf c.reg = some (k, hi) →
    exec (.configRequest h c) s = .next (answer .sc (leBytes 4 (BitVec.ofNat 32 (s.guestBar e k hi)).toNat))) ∧
  (bit (s.cfgWord h 1 .command).toNat 1 = true → s.nightShut (16 + h) = false →
    (x.write = false → 0x5000000 ≤ x.off → x.off < 0x7000000 →
      exec (.dmfBarAccess h x) s = .next (s.emit (.dmfAnswer h x.reqId x.tag .sc (List.replicate x.size 0)))) ∧
    (x.write = true → 0x5000000 ≤ x.off → x.off < 0x7000000 → exec (.dmfBarAccess h x) s = .next s) ∧
    (x.write = false → x.size = 4 → x.off % 4 = 0 → plainReg x.off = true → (∀ y ∈ fieldsAt x.off, y.ty ≠ .rc) →
      x.off ≠ R.FLT_DOM_STAT → (∀ sc, x.off ≠ R.SLOT_STAT sc) → (x.off < 0x22000 ∨ 0x24000 ≤ x.off) →
      s.readOk (16 + h) x.off → s.powered x.off = true → s.barHold h x = none →
      ∃ t, exec (.dmfBarAccess h x) s = .next t ∧
        t.out = .dmfAnswer h x.reqId x.tag .sc (leBytes 4 (s.rd x.off &&& State.fieldMask x.off).toNat) :: s.out ∧
        (∀ a, t.rd a = s.rd a) ∧ t = { s with regs := t.regs, out := t.out })) ∧
  (bit (s.cfgWord h 1 .command).toNat 1 = false → s.nightShut (16 + h) = false → x.write = false →
    let I := (s.reqVport h x.reqId).1
    ∃ t, exec (.dmfBarAccess h x) s = .next t ∧ t.out.head? = some (.dmfAnswer h x.reqId x.tag .ur []) ∧
      t.get (R.GRP_PCIE_CNT (I / 8) (I % 8)) F.GRP_PCIE_CNT_UR_SENT
        = min (2 ^ F.GRP_PCIE_CNT_UR_SENT.w - 1) (s.get (R.GRP_PCIE_CNT (I / 8) (I % 8)) F.GRP_PCIE_CNT_UR_SENT + 1))

/-- R19, R23, R24, R27, R190, R211, R217, R219 to R222, R229, R232, R620: how a packet moves on once its descriptor is ready: in arrival
order, onto the queue that admits it, held or dropped where none does; its mirror copy keeps its cells; a held TLP and a stopped ingress
go on when there is room. -/
def Obligations.PacketsReleased : Prop := ∀ (s : State) (P tc pid q : Nat) (rest : List Nat) (k : Pkt) (e : Done) (hk : Nat)
    (x : HeldTlp), P < 130 → tc < 8 → q < 1024 → s.live → s.sett.dmfIn = [] →
  let head := s.sett.order.get dNil (P * 8 + tc)
  let ready := head = pid :: rest ∧ s.pkt pid = some k ∧ (s.den k.den).rel.find? (fun y => y.pid == pid) = some e
  let n := e.desc.dest * 8 + e.desc.tc
  let noMirror := s.on R.SETT_MIRROR F.SETT_MIRROR_EN = false ∧ k.mir = false
  let toPort := ready ∧ noMirror ∧ k.bad = false ∧ e.desc.action = 0 ∧ e.desc.mcast = 0 ∧ s.toEngine k = false ∧ e.desc.dest < 128 ∧ e.desc.tc < 8
  let open' := toPort ∧ s.portEn e.desc.dest = true ∧ s.sett.shut.contains e.desc.dest = false
  let routed := s.crosses k e.desc e.view = false ∧ s.forDmf k e.desc e.view = none ∧ s.ideBlocked k e.desc e.view = false ∧
    s.notCovered k e.desc e.view = none ∧ s.on (R.GRP_PCIE_STAT (e.desc.dest / 8) (e.desc.dest % 8)) F.GRP_PCIE_STAT_DPC = false ∧
    (s.proxyNeed e.desc.dest k e.desc e.view = none ∨ s.portUp e.desc.dest = true)
  let asTlp := s.isTlpAt e.desc.dest k = true
  let asFab := s.isTlpAt e.desc.dest k = false ∧ s.forDmf k e.desc e.view = none
  let held := s.sett.held.get dNil (k.port * 8 + k.tc)
  let released := fun (t : State) => t.sett.order.get dNil (P * 8 + tc) = rest
  let noBad := ∀ a ∈ s.sett.pkts, ∀ b, a.2 = some b → b.port = P → b.bad = false
  (head = [] → exec (.descriptorRelease P tc) s = .next s) ∧
  (head = pid :: rest → s.pkt pid = some k → (s.den k.den).rel.find? (fun y => y.pid == pid) = none →
    exec (.descriptorRelease P tc) s = .next s) ∧
  (ready → s.awaitsCells k e = true → exec (.descriptorRelease P tc) s = .next s) ∧
  (open' → s.admits n k.need = true → s.depth n + k.need < 2 ^ 20 →
    asFab ∨ (asTlp ∧ routed ∧ s.heldBack k held = false ∧ s.canAdmit n k e.desc e.view = true) →
    ∃ t, exec (.descriptorRelease P tc) s = .next t ∧ released t ∧ t.depth n = s.depth n + k.need ∧
      (t.queue n).map (fun y => (y.pid, y.desc, y.view)) = (s.queue n).map (fun y => (y.pid, y.desc, y.view)) ++ [(pid, e.desc, e.view)] ∧
      t.pkt pid = some { k with refs := k.refs + 1, fc := false } ∧ t.out = (s.fcBack k).out) ∧
  (open' → asFab → s.admits n k.need = false →
    ∃ t, exec (.descriptorRelease P tc) s = .next t ∧ released t ∧ t.pkt pid = none ∧ t.queue n = s.queue n ∧
      t.get (R.SETT_QSTAT n) F.SETT_QSTAT_DROPS = min 4095 (s.get (R.SETT_QSTAT n) F.SETT_QSTAT_DROPS + 1)) ∧
  (open' → asTlp → routed → s.heldBack k held = true ∨ s.canAdmit n k e.desc e.view = false →
    ∃ t, exec (.descriptorRelease P tc) s = .next t ∧ released t ∧ t.pkt pid = some k ∧ t.queue n = s.queue n ∧
      t.sett.held.get dNil (k.port * 8 + k.tc) = held ++ [⟨pid, n, e.desc, e.view⟩]) ∧
  (toPort → s.portEn e.desc.dest = false → ∃ t, exec (.descriptorRelease P tc) s = .next t ∧ released t ∧ t.pkt pid = none) ∧
  (ready → noMirror → k.bad = false → e.desc.action = 1 → ∃ t, exec (.descriptorRelease P tc) s = .next t ∧ released t ∧ t.pkt pid = none) ∧
  (ready → noMirror → k.bad = true → k.left = 0 → s.awaitsCells k e = false →
    ∃ t, exec (.descriptorRelease P tc) s = .next t ∧ released t ∧ t.pkt pid = none ∧ t.out = .discarded k.port 1 :: (s.fcBack k).out) ∧
  (ready → e.desc.action = 1 → k.bad = false → s.on R.SETT_MIRROR F.SETT_MIRROR_EN = true → s.on R.SETT_MIRROR F.SETT_MIRROR_ALL = true →
    s.sett.mirCnt.get dZero (State.ingressIdx k.port) = 1 → s.sett.mirQ.length < s.get R.SETT_MIRROR_CNT F.SETT_MIRROR_CNT_QDEPTH →
    k.port ≠ 129 →
    ∃ t, exec (.descriptorRelease P tc) s = .next t ∧ released t ∧
      t.sett.mirQ = s.sett.mirQ ++ [{ State.sampleRec k e.desc 0 0 128 with pid := some pid }] ∧
      t.pkt pid = some { k with refs := 0, units := 0, mir := true, fin := true, fc := false } ∧ t.sett.cells = s.sett.cells) ∧
  (s.sett.held = [(hk, [x])] → s.pkt x.pid = some k → x.q = q → s.canAdmit q k x.desc x.view = true →
    exec (.admissionRetry q) s = .next ((s.enqueue x.pid q k x.desc x.view).setSett fun y => { y with held := [] })) ∧
  (s.sett.held = [(hk, [x])] → s.pkt x.pid = some k → x.q ≠ q ∨ s.canAdmit q k x.desc x.view = false →
    exec (.admissionRetry q) s = .next s) ∧
  (s.sett.stalled.get dNil P = [] → noBad → exec (.ingressResume P) s = .next s) ∧
  (s.sett.stalled.get dNil P = [pid] → s.pkt pid = some k → k.port = P → k.bad = false → k.left ≤ 32 → noBad →
    ∃ t cs, exec (.ingressResume P) s = .next t ∧ cs.length ≤ k.left ∧
      t.pkt pid = some { k with cells := k.cells ++ cs, left := k.left - cs.length } ∧
      (cs.length = k.left ∧ t.sett.stalled.get dNil P = [] ∨
        t.sett.stalled.get dNil P = [pid] ∧ ∀ data, t.allocCell P data = none) ∧
      (∀ a, a ≠ R.SETT_STAT → t.rd a = s.rd a) ∧ t = { s with regs := t.regs, sett := t.sett, tel := t.tel })

/-- R25, R190, R212 to R216, R224 to R229: an egress port picks the highest strict class that can start, else the class whose turn and
deficit it is; it reads its packet's cells one by one and hands the packet on with the last; quarters are switched.
Clauses on points the spec leaves open follow the model's reading: notes/assumptions/18.md, notes/assumptions/120.md. -/
def Obligations.PacketsSent : Prop := ∀ (s : State) (P q c fails m : Nat) (e : QEnt) (k : Pkt) (v : Word), P < 128 → fails < 4 → s.live →
  let starts := fun t => (s.nextOut P t).isSome = true
  let strict := fun t => bit (s.get (R.SETT_SCHED P) F.SETT_SCHED_STRICT) t = true
  let sends := fun (u : State) (y : Option (Nat × QEnt)) => u.setSett fun x => { x with sending := x.sending.put dNone P y }
  (∀ t, t < 8 → s.portUp P = true → s.sett.sending.get dNone P = none → s.nextOut P t = some e → strict t →
    (∀ t', t < t' → t' < 8 → ¬ (strict t' ∧ starts t')) → exec (.egressSchedule P) s = .next (sends s (some (P * 8 + t, e)))) ∧
  (s.portUp P = true → s.sett.sending.get dNone P = none → (∀ t, t < 8 → ¬ starts t) → s.sett.drr.get dZero P < 8 →
    ∃ u, exec (.egressSchedule P) s = .next u ∧ u.sett.sending.get dNone P = none ∧ u.sett.queues = s.sett.queues ∧
      u = { s with sett := u.sett }) ∧
  (let t := s.sett.drr.get dZero P
   let len := (outBytes k e.desc e.view).length
   s.portUp P = true → s.sett.sending.get dNone P = none → (∀ t', t' < 8 → ¬ (strict t' ∧ starts t')) → t < 8 → ¬ strict t →
    s.nextOut P t = some e → s.pkt e.pid = some k → len ≤ s.sett.deficit.get dZero (P * 8 + t) →
    exec (.egressSchedule P) s = .next (s.setSett fun x => { x with
      deficit := x.deficit.put dZero (P * 8 + t) (s.sett.deficit.get dZero (P * 8 + t) - len)
      drr := x.drr.put dZero P t, sending := x.sending.put dNone P (some (P * 8 + t, e)) })) ∧
  (s.portUp P = false ∨ (s.sett.sending.get dNone P).isSome = true → exec (.egressSchedule P) s = .next s) ∧
  (s.sett.sending.get dNone P = none → exec (.cellRead P fails) s = .next s ∧ exec (.cutThroughWaitTimeout P) s = .next s) ∧
  (s.sett.sending.get dNone P = some (q, e) → s.pkt e.pid = some k → q < 1024 →
    let e' := { e with rd := e.rd + 1, started := true, gap := false }
    let err := fun (t : State) (f : Fld) => t.get R.SETT_ERR f = min (2 ^ f.w - 1) (s.get R.SETT_ERR f + 1)
    (k.cells[e.rd]? = none → exec (.cellRead P fails) s = .next (if e.gap then s
      else sends (s.inc R.SETT_CTW F.SETT_CTW_CT_WAIT 1) (some (q, { e with gap := true })))) ∧
    (k.cells[e.rd]? = some c → fails = 0 → e.rd + 1 ≠ k.need → exec (.cellRead P fails) s = .next (sends s (some (q, e')))) ∧
    (k.cells[e.rd]? = some c → fails = 1 ∨ fails = 2 → e.rd + 1 ≠ k.need →
      exec (.cellRead P fails) s = .next (sends (s.inc R.SETT_ERR F.SETT_ERR_REREAD_OK 1) (some (q, e')))) ∧
    (k.cells[e.rd]? = some c → fails = 3 → e.rd + 1 ≠ k.need → e.ct = false ∨ e.started = false →
      ∃ t addr, exec (.cellRead P fails) s = .next t ∧ t.sett.sending.get dNone P = some (q, { e' with bad := true }) ∧ c ∈ t.sett.retired ∧
        ⟨0xA0, 0x10, if k.slice = 0xFFFF then none else some k.slice, some addr, c / 8192⟩ ∈ t.faults) ∧
    (k.cells[e.rd]? = some c → fails = 3 → e.ct = true → e.started = true →
      ∃ t, exec (.cellRead P fails) s = .next t ∧ t.sett.sending.get dNone P = none ∧ c ∈ t.sett.retired ∧
        err t F.SETT_ERR_CT_ABORT ∧ err t F.SETT_ERR_POISONED) ∧
    (k.cells[e.rd]? = some c → fails = 0 → e.rd + 1 = k.need → e.bad = false →
      ∃ t, exec (.cellRead P fails) s = .next t ∧ t.sett.sending.get dNone P = none ∧
        (t.queue q).map (·.pid) = ((s.queue q).map (·.pid)).filter (· != e.pid) ∧
        (s.isFabric P = true →
          let b := State.fabWire k e
          (k.fc = false → t.out = s.out) ∧ (State.clsTx (t.link (P / 8) (P % 8)) (State.fabClass b)).wait
            = (State.clsTx (s.link (P / 8) (P % 8)) (State.fabClass b)).wait ++ [⟨false, b⟩]) ∧
        (s.isFabric P = false → k.fc = false → k.tlp = none ∨ (e.ptag = none ∧ s.trackedOf k = none) →
          t.out = .tlp P (State.tlpWire k (s.egTlp P k e) (outBytes k e.desc e.view)) (match k.tlp with | some x => x.poisoned | none => false) false :: s.out)) ∧
    (e.ct = true → 0 < e.rd → k.cells.length ≤ e.rd → 0 < k.left →
      ∃ t, exec (.cutThroughWaitTimeout P) s = .next t ∧ t.sett.sending.get dNone P = none ∧
        (s.isFabric P = false → k.fc = false → t.out
          = .tlp P ((State.tlpWire k (s.egTlp P k e) (outBytes k e.desc e.view)).take (State.sentBytes k e).length) false true :: s.out) ∧
        (s.isFabric P = true →
          let had := State.sentBytes k e
          let all := had ++ s.freeBytes ((outBytes k e.desc e.view).length - had.length)
          let b := fabricOut (covered k) (if e.mark then setMark all else all) true
          (State.clsTx (t.link (P / 8) (P % 8)) (State.fabClass b)).wait
            = (State.clsTx (s.link (P / 8) (P % 8)) (State.fabClass b)).wait ++ [⟨false, b⟩]) ∧
        err t F.SETT_ERR_CT_ABORT ∧ err t F.SETT_ERR_POISONED) ∧
    (e.ct = false → exec (.cutThroughWaitTimeout P) s = .next s)) ∧
  (masterOk m = true → s.takes m R.SETT_CFG v →
    let en := if fldOf v F.SETT_CFG_QTR_EN = 0 then 1 else fldOf v F.SETT_CFG_QTR_EN
    let used := fun j => !(s.sett.cells.filter fun x => x.1 / 131072 == j).isEmpty
    ∃ t, exec (.quarterControl m v) s = .next t ∧ t.get R.SETT_CFG F.SETT_CFG_QTR_EN = en ∧
      t.get R.SETT_CFG F.SETT_CFG_CT_DIS = fldOf v F.SETT_CFG_CT_DIS ∧
      (∀ j, j < 4 → bit (t.get R.SETT_STAT F.SETT_STAT_QTR_ON) j = (bit (s.get R.SETT_STAT F.SETT_STAT_QTR_ON) j && (bit en j || used j))) ∧
      t.sett = { s.sett with powering := (upTo 4).filter fun j => bit en j && !bit (s.get R.SETT_STAT F.SETT_STAT_QTR_ON) j } ∧
      (∀ a, a ≠ R.SETT_CFG → a ≠ R.SETT_STAT → a ≠ R.PWR_PD_STAT → t.rd a = s.rd a) ∧ t = { s with regs := t.regs, sett := t.sett }) ∧
  (∀ j, j < 4 → s.sett.powering.contains j = true →
    ∃ t, exec (.quarterPowerUpDone j) s = .next t ∧ bit (t.get R.SETT_STAT F.SETT_STAT_QTR_ON) j = true ∧ t.pdOn (5 + j) = true ∧
      t.sett.powering = s.sett.powering.filter (· != j) ∧
      (∀ a, a ≠ R.SETT_STAT → a ≠ R.PWR_PD_STAT → t.rd a = s.rd a) ∧ t = { s with regs := t.regs, sett := t.sett }) ∧
  (∀ j, j < 4 → s.sett.powering.contains j = false → exec (.quarterPowerUpDone j) s = .next s)

/-- R278 to R284, R287 to R291, R302: the Kolzen instructions on registers: results, the second operand with V = 0 and V = 1,
flags, the next instruction, and the cycle from which the thread can issue it. -/
def Obligations.KolzenArithmetic : Prop := ∀ (s : State) (th : Thr) (w : DWord) (j : Job), th.wf = true →
  let a := j.reg (kA w)
  let xs := if kV w then (BitVec.ofNat 32 (kImm w)).signExtend 64 else j.reg (kB w)
  let xz := if kV w then BitVec.ofNat 64 (kImm w) else j.reg (kB w)
  let n := xz.toNat % 64
  let ran := fun (op : Nat) (i : Instr) (y : Job) => ∃ t, exec i s = .next t ∧
    Ran s t (s.den th.den) th { Fetched s th op y with pc := j.pc + 1 }
  let flags := fun (y : Job) (r : DWord) (c v : Bool) => { y with z := decide (r = 0), n := decide (r.toInt < 0), c := c, v := v }
  let logic := fun (r : DWord) => flags (j.setReg (kD w) r) r false false
  (Issues s th 0x00 w j → ran 0x00 (.kNop th) j) ∧
  (Issues s th 0x01 w j → ran 0x01 (.kMov th) (j.setReg (kD w) xs)) ∧
  (Issues s th 0x02 w j → ran 0x02 (.kMovh th) (j.setReg (kD w) (BitVec.ofNat 64 (kImm w * 2 ^ 32 + (j.reg (kD w)).toNat % 2 ^ 32)))) ∧
  (Issues s th 0x03 w j → ran 0x03 (.kAdd th) (flags (j.setReg (kD w) (a + xs)) (a + xs) (decide (2 ^ 64 ≤ a.toNat + xs.toNat))
    (decide ((a + xs).toInt ≠ a.toInt + xs.toInt)))) ∧
  (Issues s th 0x04 w j → ran 0x04 (.kSub th) (flags (j.setReg (kD w) (a - xs)) (a - xs) (decide (xs.toNat ≤ a.toNat))
    (decide ((a - xs).toInt ≠ a.toInt - xs.toInt)))) ∧
  (Issues s th 0x05 w j → ran 0x05 (.kAnd th) (logic (a &&& xz))) ∧
  (Issues s th 0x06 w j → ran 0x06 (.kOr th) (logic (a ||| xz))) ∧
  (Issues s th 0x07 w j → ran 0x07 (.kXor th) (logic (a ^^^ xz))) ∧
  (Issues s th 0x08 w j → ran 0x08 (.kShl th) (flags (j.setReg (kD w) (a <<< n)) (a <<< n) (decide (n ≠ 0) && a.getLsbD (64 - n)) false)) ∧
  (Issues s th 0x09 w j → ran 0x09 (.kShr th) (flags (j.setReg (kD w) (a >>> n)) (a >>> n) (decide (n ≠ 0) && a.getLsbD (n - 1)) false)) ∧
  (Issues s th 0x0A w j →
    ran 0x0A (.kSar th) (flags (j.setReg (kD w) (a.sshiftRight n)) (a.sshiftRight n) (decide (n ≠ 0) && a.getLsbD (n - 1)) false)) ∧
  (Issues s th 0x0B w j → ran 0x0B (.kCmp th) (flags j (a - xs) (decide (xs.toNat ≤ a.toNat)) (decide ((a - xs).toInt ≠ a.toInt - xs.toInt)))) ∧
  (Issues s th 0x0C w j → ran 0x0C (.kTst th) (flags j (a &&& xz) false false)) ∧
  (Issues s th 0x0D w j → ran 0x0D (.kCrc th) (j.setReg (kD w)
    (BitVec.ofNat 64 (crc32cFrom ((j.reg (kD w)).toNat % 2 ^ 32) (leBytes 8 a.toNat))))) ∧
  (Issues s th 0x0E w j → ran 0x0E (.kTime th) (j.setReg (kD w) (BitVec.ofNat 64 s.now)))

/-- R246, R274, R290, R292 to R296, R312 to R316: instructions on the view, branches and the decision descriptor; the exceptions
that end a job: outside its region, a damaged or illegal word, a bad view offset, a bad decision; the watchdog.
Clauses on points the spec leaves open follow the model's reading: notes/assumptions/20.md, notes/assumptions/21.md, notes/assumptions/112.md. -/
def Obligations.KolzenControl : Prop := ∀ (s : State) (th : Thr) (w : DWord) (j : Job) (k : Pkt), th.wf = true → s.pkt j.pid = some k →
  let c := (s.den th.den).nextCycle th.fox
  let ran := fun (op : Nat) (i : Instr) (y : Job) => ∃ t, exec i s = .next t ∧ Ran s t (s.den th.den) th (Fetched s th op y)
  let bad := fun (i : Instr) (code : Nat) => ∃ t, exec i s = .next t ∧ Excepted s t th j code (State.passOver th c)
  let badFetch := fun (code : Nat) => ∀ i ∈ [Instr.kNop th, .kAdd th, .kExt th, .kBcc th, .kLkd th, .kMtr th, .kSetd th, .kEnd th],
    ∃ t, exec i s = .next t ∧ Excepted s t th j code (fun _ y => y)
  let off := if kV w then (j.reg (kA w) + BitVec.ofNat 64 (fO w)).toNat else fO w
  let field := (j.view.drop off).take (fN w + 1)
  let val := leNat (if fBE w then field.reverse else field)
  let x := if kV w then kImm w else (j.reg (kB w)).toNat
  let d := j.desc
  (Issues s th 0x10 w j → off + fN w + 1 ≤ 128 →
    ran 0x10 (.kExt th) { j.setReg (kD w) (BitVec.ofNat 64 (val / 2 ^ fS w % 2 ^ (fW w + 1))) with pc := j.pc + 1 }) ∧
  (Issues s th 0x10 w j → 128 < off + fN w + 1 → bad (.kExt th) 4) ∧
  (Issues s th 0x11 w j → off + fN w + 1 ≤ 128 → j.view.length = 128 →
    ∃ y, ran 0x11 (.kIns th) { j with view := y, pc := j.pc + 1 } ∧ y.length = 128 ∧
      (∀ i, i < off ∨ off + fN w + 1 ≤ i → y[i]? = j.view[i]?) ∧
      (let new := (y.drop off).take (fN w + 1)
       leNat (if fBE w then new.reverse else new)
        = val - val / 2 ^ fS w % 2 ^ (fW w + 1) * 2 ^ fS w + (j.reg (kB w)).toNat % 2 ^ (fW w + 1) * 2 ^ fS w)) ∧
  (Issues s th 0x11 w j → 128 < off + fN w + 1 → bad (.kIns th) 4) ∧
  (Issues s th 0x18 w j →
    let back := fun (taken : Bool) (y : Job) => { y with bcc := j.bcc + 1, path := (2 * j.path + (if taken then 1 else 0)) % 2 ^ 32 }
    (condHolds (kX w) j.z j.n j.c j.v = true → ∃ t, exec (.kBcc th) s = .next t ∧
      Ran s t (s.den th.den) th { back true (Fetched s th 0x18 j) with pc := kImm w, ready := c + 2 }) ∧
    (condHolds (kX w) j.z j.n j.c j.v = false → ran 0x18 (.kBcc th) (back false { j with pc := j.pc + 1 }))) ∧
  (Issues s th 0x30 w j → x ≤ State.fieldMax (kX w) → ran 0x30 (.kSetd th) { j with desc := d.put (kX w) x, pc := j.pc + 1 }) ∧
  (Issues s th 0x30 w j → State.fieldMax (kX w) < x → bad (.kSetd th) 6) ∧
  (Issues s th 0x31 w j → d.pushn < 4 →
    ran 0x31 (.kPush th) { j with desc := (d.put (10 + d.pushn) (x % 2 ^ 32)).put 9 (d.pushn + 1), pc := j.pc + 1 }) ∧
  (Issues s th 0x31 w j → 4 ≤ d.pushn → bad (.kPush th) 6) ∧
  (Issues s th 0x38 w j →
    ran 0x38 (.kSmpl th) { j with tag := x % 2 ^ 32, desc := if kX w = 1 then d.put 5 1 else d, pc := j.pc + 1 }) ∧
  (Issues s th 0x3F w j → d.actionSet = true → d.action ≠ 0 ∨ ((d.mcast = 0 → d.dest ≤ 127) ∧ State.outLen k.bytes.length d ≠ 0) →
    ∃ t, exec (.kEnd th) s = .next t ∧ Finished s t th j d j.view 0 (State.passOver th c)) ∧
  (Issues s th 0x3F w j → d.actionSet = false → ∃ t, exec (.kEnd th) s = .next t ∧
    Finished s t th j { f := (d.f.set 0 1).set 6 0x80, actionSet := true } j.view 0 (State.passOver th c) ∧
    t.get (R.DEN_DROP_CNT th.den) F.DEN_DROP_CNT_NODEC = min 65535 (s.get (R.DEN_DROP_CNT th.den) F.DEN_DROP_CNT_NODEC + 1)) ∧
  (Issues s th 0x3F w j → d.actionSet = true → d.action = 0 → (d.mcast = 0 ∧ 127 < d.dest) ∨ State.outLen k.bytes.length d = 0 →
    bad (.kEnd th) 6) ∧
  (s.job th = some j → ∃ t, exec (.jobWatchdog th) s = .next t ∧ Excepted s t th j 1 (fun _ y => y)) ∧
  (s.job th = none → ∀ i ∈ [Instr.jobWatchdog th, .kNop th, .kExt th, .kEnd th], exec i s = .next s) ∧
  (s.job th = some j → j.wait ≠ none ∨ s.due th = false → ∀ i ∈ [Instr.kNop th, .kExt th, .kEnd th], exec i s = .next s) ∧
  (∀ op, Issues s th op w j → op ≠ 0 → exec (.kNop th) s = .next s) ∧
  (s.job th = some j → j.wait = none → s.due th = true →
    let lo := s.get (R.DEN_REGION th.den j.set) F.DEN_REGION_LO
    let hi := s.get (R.DEN_REGION th.den j.set) F.DEN_REGION_HI
    (j.pc < lo ∨ hi < j.pc → badFetch 3) ∧
    (lo ≤ j.pc → j.pc ≤ hi → (s.den th.den).badProg.contains j.pc = true → badFetch 8) ∧
    (lo ≤ j.pc → j.pc ≤ hi → (s.den th.den).badProg.contains j.pc = false → illegal ((s.den th.den).prog.get dInstr j.pc) = true →
      badFetch 2))

/-- R253 to R257, R284, R285, R297 to R300, R304 to R310: lookups, meters and counters when their resource is free and the memory
they read is sound; a request that finds no slot waits in arrival order and is served when one is free and no fox can make an earlier one,
its interval grown by the cycles it waited; a range search makes a request for each probe, three cycles apart; the counter queue.
Clauses on points the spec leaves open follow the model's reading: notes/assumptions/18.md, notes/assumptions/88.md, notes/assumptions/112.md. -/
def Obligations.KolzenResources : Prop := ∀ (s : State) (th : Thr) (w : DWord) (j : Job) (r : Res), th.wf = true →
  let D := s.den th.den
  let td := D.tdesc (kX w)
  let a := (j.reg (kA w)).toNat
  let c := D.nextCycle th.fox
  let took := fun (r n : Nat) => { D with used := D.used.put dPair r (D.slotTake r c n) }
  let sound := D.badTab = [] ∧ D.sglTab = []
  let ran := fun (op : Nat) (i : Instr) (E : Den) (y : Job) => ∃ t, exec i s = .next t ∧ Ran s t E th (Fetched s th op y)
  let next := fun (y : Job) => { y with pc := j.pc + 1 }
  let miss := fun (y : Job) => next { y with z := true, n := false, c := false, v := false }
  let hit := fun (y : Job) => next { y with z := false, n := false, c := false, v := false }
  let word := fun (off : Nat) => BitVec.ofNat 64 (leNat (D.tblBytes off 8))
  let key16 := (leBytes 8 a ++ leBytes 8 (j.reg (kA w + 1)).toNat).take td.keylen
  let slots := (State.buckets td key16).1 * 4
  let slots2 := (State.buckets td key16).2 * 4
  let matches_ := fun (i : Nat) => bit (D.tbl.get zeroByte (td.base + 32 * i)).toNat 0 = true ∧
    (D.tblBytes (td.base + 32 * i + 8) td.keylen) = key16
  let waits := fun (op : Nat) (i : Instr) (E : Den) (r from_ : Nat) (x : Wait) =>
    ran op i { E with waitq := D.waitq.upd dNil r (waitIn (from_, thrKey th)) } { j with wait := some x }
  let idx := if kV w then (j.reg (kA w) + BitVec.ofNat 64 (kImm w)).toNat else kImm w
  (Issues s th 0x20 w j → sound → td.ty = 1 → kD w < 15 → D.slotFree 0 c 1 = true →
    let off := td.base + a * td.esize
    let two := fun (y : Job) (v : DWord) => if 16 ≤ td.esize then y.setReg (kD w + 1) v else y
    (a < td.count → bit (D.tbl.get zeroByte off).toNat 0 = true → 8 ≤ td.esize →
      ran 0x20 (.kLkd th) (took 0 1) (hit (two (j.setReg (kD w) (word off)) (word (off + 8))))) ∧
    (td.count ≤ a ∨ bit (D.tbl.get zeroByte off).toNat 0 = false → 8 ≤ td.esize →
      ran 0x20 (.kLkd th) (took 0 1) (miss (two (j.setReg (kD w) 0) 0)))) ∧
  (Issues s th 0x21 w j → sound → td.ty = 2 → td.keylen ≤ 16 → D.slotFree 0 c 2 = true →
    (∀ i, i < 4 → matches_ (slots + i) → (∀ i', i' < i → ¬ matches_ (slots + i')) →
      ran 0x21 (.kLkh th) (took 0 2) (hit (j.setReg (kD w) (word (td.base + 32 * (slots + i) + 24))))) ∧
    (∀ i, i < 4 → (∀ i', i' < 4 → ¬ matches_ (slots + i')) → matches_ (slots2 + i) → (∀ i', i' < i → ¬ matches_ (slots2 + i')) →
      ran 0x21 (.kLkh th) (took 0 2) (hit (j.setReg (kD w) (word (td.base + 32 * (slots2 + i) + 24))))) ∧
    ((∀ i, i < 4 → ¬ matches_ (slots + i) ∧ ¬ matches_ (slots2 + i)) → ran 0x21 (.kLkh th) (took 0 2) (miss (j.setReg (kD w) 0)))) ∧
  (Issues s th 0x22 w j → sound → td.ty = 3 →
    let lo := leNat (D.tblBytes (td.base + 8) 8)
    let hi := leNat (D.tblBytes (td.base + 16) 8)
    (td.count = 0 → ran 0x22 (.kLkr th) D (miss (j.setReg (kD w) 0))) ∧
    (D.slotFree 0 c 1 = true →
      let probed := fun (y : Job) => ∃ t, exec (.kLkr th) s = .next t ∧ Ran s t (took 0 1) th { Fetched s th 0x22 y with ready := c + 7 }
      (td.count = 1 → bit (D.tbl.get zeroByte td.base).toNat 0 = true → lo ≤ a → a ≤ hi → probed (hit (j.setReg (kD w) (word (td.base + 24))))) ∧
      (td.count = 1 → lo ≤ a → bit (D.tbl.get zeroByte td.base).toNat 0 = false ∨ hi < a → probed (miss (j.setReg (kD w) 0))) ∧
      (td.count = 1 → a < lo → probed (miss (j.setReg (kD w) 0))) ∧
      (let mid := (td.count - 1) / 2
       let from_ := leNat (D.tblBytes (td.base + mid * 32 + 8) 8)
       (2 ≤ td.count → from_ ≤ a → waits 0x22 (.kLkr th) (took 0 1) 0 (c + 3) ⟨w, {}, some ⟨td.base, mid + 1, td.count - 1,
         some (D.tblBytes (td.base + mid * 32) 32)⟩⟩) ∧
       (3 ≤ td.count → a < from_ → waits 0x22 (.kLkr th) (took 0 1) 0 (c + 3) ⟨w, {}, some ⟨td.base, 0, (mid : Int) - 1, none⟩⟩))) ∧
    (td.count ≠ 0 → D.slotFree 0 c 1 = false → waits 0x22 (.kLkr th) D 0 c ⟨w, {}, some ⟨td.base, 0, (td.count : Int) - 1, none⟩⟩)) ∧
  (Issues s th 0x23 w j → sound → td.ty = 4 → D.slotFree 1 c 1 = true →
    let key := leNat ((leBytes 8 a ++ leBytes 8 (j.reg (kA w + 1)).toNat ++ leBytes 4 (j.reg (kA w + 2)).toNat).take td.keylen)
    let fits := fun (i : Nat) => bit (D.tbl.get zeroByte (td.base + 64 * i)).toNat 0 = true ∧
      (key ^^^ (D.rows.get dRow (td.seed % 4096 + i)).value) &&& (D.rows.get dRow (td.seed % 4096 + i)).mask = 0
    (∀ i, i < td.count → fits i → (∀ i', i' < i → ¬ fits i') →
      ran 0x23 (.kLkt th) (took 1 1)
        (hit ((j.setReg (kD w) (word (td.base + 64 * i + 48))).setReg (kD w + 1) (word (td.base + 64 * i + 56))))) ∧
    ((∀ i, i < td.count → ¬ fits i) → ran 0x23 (.kLkt th) (took 1 1) (miss ((j.setReg (kD w) 0).setReg (kD w + 1) 0)))) ∧
  (Issues s th 0x20 w j → sound → td.ty ≠ 1 → ∃ t, exec (.kLkd th) s = .next t ∧ Excepted s t th j 5 (State.passOver th c)) ∧
  (Issues s th 0x20 w j → sound → td.ty = 1 → kD w < 15 → D.slotFree 0 c 1 = false → waits 0x20 (.kLkd th) D 0 c ⟨w, td, none⟩) ∧
  (Issues s th 0x28 w j → idx < 1024 → D.slotFree 2 c 1 = true →
    let k := D.meters.get dMeter idx
    let b := 8000 * ((j.reg (kB w)).toNat % 2 ^ 24)
    let tc := min (mantExp k.cbs * 8000) (k.tc + (s.now - k.last) * mantExp k.cir)
    let tp := min (mantExp k.pbs * 8000) (k.tp + (s.now - k.last) * mantExp k.pir)
    let metered := fun (k' : Meter) (colour : Nat) => ran 0x28 (.kMtr th) { took 2 1 with meters := D.meters.put dMeter idx k' }
      (next { j.setReg (kD w) (BitVec.ofNat 64 colour) with z := decide (colour = 0), n := decide (colour = 2), c := false, v := false })
    (k.unl = true → metered k 0) ∧
    (k.unl = false → b ≤ tp → b ≤ tc → metered { k with last := s.now, tc := tc - b, tp := tp - b } 0) ∧
    (k.unl = false → b ≤ tp → tc < b → metered { k with last := s.now, tc := tc, tp := tp - b } 1) ∧
    (k.unl = false → tp < b → metered { k with last := s.now, tc := tc, tp := tp } 2)) ∧
  (Issues s th 0x28 w j → 1023 < idx → ∃ t, exec (.kMtr th) s = .next t ∧ Excepted s t th j 5 (State.passOver th c)) ∧
  (Issues s th 0x29 w j →
    let ctr := if kV w then (idx, (j.reg (kB w)).toNat) else (kImm w % 65536, kImm w / 65536)
    (ctr.1 < 8192 → D.post.length < 64 → D.waitq.get dNil 3 = [] → ran 0x29 (.kCnt th) { D with post := D.post ++ [ctr] } (next j)) ∧
    (ctr.1 < 8192 → 64 ≤ D.post.length → waits 0x29 (.kCnt th) D 3 c ⟨w, {}, none⟩) ∧
    (8191 < ctr.1 → ∃ t, exec (.kCnt th) s = .next t ∧ Excepted s t th j 5 (State.passOver th c))) ∧
  (∀ i n rest, D.post = (i, n) :: rest → exec (.counterUpdateApply th.den) s = .next (s.setDen th.den fun D => { D with
    post := rest, used := D.used.put dPair 3 (D.slotTake 3 D.front 1), ctrs := D.ctrs.upd dPair i fun c => ((c.1 + 1) % 2 ^ 64, (c.2 + n) % 2 ^ 64) })) ∧
  (D.post = [] → exec (.counterUpdateApply th.den) s = .next s) ∧
  (D.waitq.get dNil (resNum r) = [] → exec (.resourceSlotServe th.den r) s = .next s) ∧
  (∀ c0 k rest, D.waitq.get dNil (resNum r) = (c0, k) :: rest → D.inTurn c0 k = false → exec (.resourceSlotServe th.den r) s = .next s) ∧
  (∀ c0 rest, D.waitq.get dNil 0 = (c0, thrKey th) :: rest → D.inTurn c0 (thrKey th) = true → s.job th = some j →
    j.wait = some ⟨w, td, none⟩ → kOp w = 0x20 →
    kD w < 15 → sound → td.count ≤ a → td.esize < 16 →
    let u := D.slotTake 0 c0 1
    ∃ t, exec (.resourceSlotServe th.den .table) s = .next t ∧
      t.den th.den = { D with
        waitq := D.waitq.put dNil 0 rest, used := D.used.put dPair 0 u
        jobs := D.jobs.put dNone (thrKey th) (some (miss { j.setReg (kD w) 0 with
          wait := none, ready := u.1 + 8, act := u.1, waited := j.waited.set 0 (j.waited.getD 0 0 + (u.1 - c0)) })) } ∧
      (∀ d, d ≠ th.den → t.den d = s.den d) ∧ t = { s with dens := t.dens, tel := t.tel }) ∧
  (∀ c0 rest, D.waitq.get dNil 3 = (c0, thrKey th) :: rest → 64 ≤ D.post.length → exec (.resourceSlotServe th.den .counter) s = .next s) ∧
  (∀ c0 rest, D.waitq.get dNil 3 = (c0, thrKey th) :: rest → D.post.length < 64 → D.inTurn c0 (thrKey th) = true → s.job th = some j → j.wait = some ⟨w, {}, none⟩ →
    kOp w = 0x29 →
    ∃ t, exec (.resourceSlotServe th.den .counter) s = .next t ∧ (t.den th.den).waitq = D.waitq.put dNil 3 rest ∧
      (t.den th.den).post = D.post ++ [if kV w then (idx, (j.reg (kB w)).toNat) else (kImm w % 65536, kImm w / 65536)] ∧
      (∃ y, t.job th = some y ∧ y.pc = j.pc + 1 ∧ y.wait = none ∧ y.g = j.g ∧ j.last < y.ready) ∧
      (∀ d, d ≠ th.den → t.den d = s.den d) ∧ t = { s with dens := t.dens, tel := t.tel })

/-- R239, R240, R242, R245, R246, R277, R283: a job is dispatched: the priority queue first, on a free thread, at the entry of its
class's vector, with the values of R245 in m0 to m7; with the vector off it ends with exception NO_VECTOR.
Clauses on points the spec leaves open follow the model's reading: notes/assumptions/89.md. -/
def Obligations.JobDispatch : Prop := ∀ (s : State) (d pid : Nat) (rest : List Nat) (k : Pkt), d < 16 → s.live →
  let D := s.den d
  let set := s.get (R.DEN_PROG_CTL d) F.DEN_PROG_CTL_SEL
  let vec := R.DEN_VEC d set k.cls
  let idle := fun (f t : Nat) => f < 32 ∧ t < 4 ∧ D.job (f * 4 + t) = none
  let n := BitVec.ofNat 64
  let started := fun (t : State) (f th : Nat) => t.job ⟨d, f, th⟩ = some {
    pid := pid, set := set, pc := s.get vec F.DEN_VEC_ENTRY, entry := s.get vec F.DEN_VEC_ENTRY, g := List.replicate 16 0
    m := [n (if k.port < 128 then k.port else 128), n k.cls, n k.bytes.length, n k.slice, n k.tc, n k.m5, n k.arr, 0]
    z := false, n := false, c := false, v := false, view := padTo 128 k.bytes
    desc := { f := [1, 0, 0, k.tc, 0, 0, 0x80, 0, 0, 0, 0, 0, 0, 0], actionSet := false }
    start := s.now, issued := 0, bcc := 0, path := 0, tag := 0, no := D.disp, wait := none
    last := D.front, ready := D.front + 1, begun := D.front, act := D.front }
  let left := fun (t : State) => (t.den d).prio ++ (t.den d).norm = rest ∧ (t.den d).disp = D.disp + 1 ∧
    t.get (R.DEN_JOB_CNT d) F.DEN_JOB_CNT_JOBS = min (2 ^ 32 - 1) (s.get (R.DEN_JOB_CNT d) F.DEN_JOB_CNT_JOBS + 1)
  D.prio ++ D.norm = pid :: rest → D.spill = [] → D.spillP = [] → s.pkt pid = some k → k.cls < 64 → s.on R.TEL_SPOOR_CFG F.TEL_SPOOR_CFG_EN = false →
  ((∃ f t, idle f t) → s.on vec F.DEN_VEC_EN = true →
    ∃ t f th, exec (.jobDispatch d) s = .next t ∧ idle f th ∧ (∀ t', t' < th → D.job (f * 4 + t') ≠ none) ∧
      (∀ e, e < 32 → ((upTo 4).filter fun t' => (D.job (e * 4 + t')).isNone).length
        ≤ ((upTo 4).filter fun t' => (D.job (f * 4 + t')).isNone).length) ∧ started t f th ∧ left t ∧
      (∀ x, x ≠ f * 4 + th → (t.den d).job x = D.job x) ∧ (∀ e, e ≠ d → t.den e = s.den e) ∧
      (∀ a, a ≠ R.DEN_HQ_STAT d → a ≠ R.DEN_JOB_CNT d → a ≠ R.DEN_PROG_STAT d → t.rd a = s.rd a) ∧
      t = { s with regs := t.regs, sett := t.sett, dens := t.dens, tel := t.tel }) ∧
  ((∃ f t, idle f t) → s.on vec F.DEN_VEC_EN = false →
    ∃ t, exec (.jobDispatch d) s = .next t ∧ left t ∧ (∀ x, (t.den d).job x = D.job x) ∧ (∃ x, (t.den d).rel = D.rel ++ [x] ∧ x.pid = pid ∧
      x.exc = 7 ∧ x.desc.reason = 0x87)) ∧
  ((∀ f t, f < 32 → t < 4 → D.job (f * 4 + t) ≠ none) → exec (.jobDispatch d) s = .next s)

/-- R253, R254, R257, R259 to R264, R266, R267: the table writer: commands queued and refused; each entry write put in the master,
then in one den after another, whose island it wakes; loads, read by master 6, and switches den by den; the fence, whose read is held until
it is met and then returns by itself; the repair of a damaged word. A command that is queued ends an entry to Night.
Clauses on points the spec leaves open follow the model's reading: notes/assumptions/50.md, notes/assumptions/97.md. -/
def Obligations.TableWriter : Prop := ∀ (s : State) (m d : Nat) (v : Word), masterOk m = true → d < 16 →
  let q := s.tblw.q
  let len := 8 * 2 ^ fldOf v F.TBL_WR_CMD_LEN
  let off := s.get R.TBL_WR_ADDR F.TBL_WR_ADDR_OFFSET * 8
  let bs := ((upTo 16).flatMap fun k => leBytes 4 (s.rd (R.TBL_WR_DATA k)).toNat).take len
  let newTab := putBytes zeroByte s.futureMaster off bs
  let refusedDesc := ∃ n, n < 64 ∧ 16 * n < off + len ∧ off < 16 * n + 16 ∧ descBad (tdescOf (bytesAt zeroByte newTab (16 * n) 16)) = true
  let entry := s.takes m R.TBL_WR_CMD v ∧ fldOf v F.TBL_WR_CMD_GO = 1
  let queued := fun (i : Instr) (a : Nat) (c : TblCmd) (n : Nat) => ∃ t, exec i s = .next t ∧
    t.tblw = { s.tblw with q := q ++ [c], acc := s.tblw.acc + n } ∧
    t.get R.TBL_WR_STAT F.TBL_WR_STAT_QDEPTH = q.length + 1 ∧ t.get R.TBL_WR_STAT F.TBL_WR_STAT_BUSY = 1 ∧
    (let u := s.nightFail 5
     (∀ b, b ≠ a → b ≠ R.TBL_WR_STAT → b ≠ R.TBL_PSTAT → t.rd b = u.rd b) ∧ t = { u with regs := t.regs, tblw := t.tblw })
  let failed := fun (a err : Nat) => (s.store m a v).set R.TBL_WR_STAT F.TBL_WR_STAT_ERR err
  let popped := fun (t : State) => t.tblw.q = q.drop 1 ∧ t.tblw.stage = 0 ∧ t.tblw.master = s.tblw.master ∧
    t.get R.TBL_WR_STAT F.TBL_WR_STAT_QDEPTH = (q.length - 1) % 128
  (entry → off % len = 0 → ¬ refusedDesc → q.length < 64 → queued (.tableEntryWrite m v) R.TBL_WR_CMD (.entry off bs none) 1) ∧
  (entry → off % len = 0 → ¬ refusedDesc → 64 ≤ q.length → exec (.tableEntryWrite m v) s = .next (failed R.TBL_WR_CMD 1)) ∧
  (entry → off % len = 0 → refusedDesc → exec (.tableEntryWrite m v) s = .next (failed R.TBL_WR_CMD 2)) ∧
  (entry → off % len ≠ 0 → exec (.tableEntryWrite m v) s = .next (failed R.TBL_WR_CMD 3)) ∧
  (let dst := s.get R.TBL_PLOAD_DST F.TBL_PLOAD_DST_DST
   let n := s.get R.TBL_PLOAD_DST F.TBL_PLOAD_DST_COUNT_M1 + 1
   s.takes m R.TBL_PLOAD_CMD v → fldOf v F.TBL_PLOAD_CMD_GO = 1 →
    (dst + n ≤ 16384 → q.length < 64 → queued (.programLoad m v) R.TBL_PLOAD_CMD
      (.load (s.get R.TBL_PLOAD_SRC F.TBL_PLOAD_SRC_SRC * 8) dst n (fldOf v F.TBL_PLOAD_CMD_DENS)) 0) ∧
    (16384 < dst + n → exec (.programLoad m v) s = .next ((s.store m R.TBL_PLOAD_CMD v).set R.TBL_PSTAT F.TBL_PSTAT_REFUSED 1))) ∧
  (s.takes m R.TBL_PSWITCH v → fldOf v F.TBL_PSWITCH_GO = 1 → q.length < 64 →
    queued (.programSwitch m v) R.TBL_PSWITCH (.switch (fldOf v F.TBL_PSWITCH_DENS)) 0) ∧
  (q = [] → s.tblw.answers = [] → exec .tableWriterStep s = .next s) ∧
  (∀ o b rest, q = .entry o b none :: rest → s.tblw.answers = [] →
    (s.tblw.stage = 0 →
      let w := { s with tblw := { s.tblw with master := putBytes zeroByte s.tblw.master o b, stage := 1 } }
      exec .tableWriterStep s = .next (State.vfMoved s w) ∧
      (w.vfMap = s.vfMap → w.vfIgnored = s.vfIgnored → exec .tableWriterStep s = .next w)) ∧
    (d < 15 → s.tblw.stage = d + 1 → s.denOn d = true →
      ∃ t, exec .tableWriterStep s = .next t ∧ (t.den d).tbl = putBytes zeroByte (s.den d).tbl o b ∧
        (t.den d).fenceAt = (s.den d).disp ∧ (t.den d).jobs = (s.den d).jobs ∧ (∀ e, e ≠ d → t.den e = s.den e) ∧
        t = { s.wakeIsland (24 + d / 4) with dens := t.dens, tblw := { s.tblw with
          stage := d + 2
          fences := s.tblw.fences.map fun x =>
            if s.tblw.acc + 1 - s.entriesLeft ≤ x.acc then { x with marks := x.marks.put dZero d (s.den d).disp } else x } }) ∧
    (d < 15 → s.tblw.stage = d + 1 → s.denOn d = false →
      exec .tableWriterStep s = .next { s with tblw := { s.tblw with stage := d + 2 } }) ∧
    (s.tblw.stage = 16 → ∃ t, exec .tableWriterStep s = .next t ∧ popped t)) ∧
  (∀ src dst n dens rest, q = .load src dst n dens :: rest → s.tblw.answers = [] → s.tblw.stage = 0 → dst + n ≤ 16384 → dens = 2 ^ d →
    let set := R.DEN_REGION d (s.get (R.DEN_PROG_CTL d) F.DEN_PROG_CTL_SEL)
    let clear := s.get set F.DEN_REGION_HI < dst ∨ dst + n ≤ s.get set F.DEN_REGION_LO
    (clear → s.denOn d = true → s.nightShut 6 = false →
      (∀ p ∈ State.chunksOf src (8 * n), s.checkAcc { Acc.word 6 false (0x1000000 + p.1) 0 with size := p.2 } = none) →
      ∃ t, exec .tableWriterStep s = .next t ∧ popped t ∧ t.get R.TBL_PSTAT F.TBL_PSTAT_CUR_DEN = d ∧
        (∀ i, i < n → (t.den d).prog.get dInstr (dst + i) = BitVec.ofNat 64 (leNat (s.cmemBytes (src + 8 * i) 8)) ∧
          t.tblw.shadow.get dInstr (16384 * d + dst + i) = BitVec.ofNat 64 (leNat (s.cmemBytes (src + 8 * i) 8))) ∧
        (∀ i, i < dst ∨ dst + n ≤ i → (t.den d).prog.get dInstr i = (s.den d).prog.get dInstr i) ∧ (∀ e, e ≠ d → t.den e = s.den e)) ∧
    (¬ clear → ∃ t, exec .tableWriterStep s = .next t ∧ popped t ∧ t.get R.TBL_PSTAT F.TBL_PSTAT_REFUSED = 1 ∧ t.dens = s.dens ∧
      t.tblw.shadow = s.tblw.shadow)) ∧
  (∀ dens rest, q = .switch dens :: rest → s.tblw.answers = [] → dens = 2 ^ d →
    (s.tblw.stage = 0 → s.denOn d = true →
      ∃ t, exec .tableWriterStep s = .next t ∧ t.tblw = { s.tblw with stage := 2 * d + 1 } ∧
        t.get (R.DEN_PROG_CTL d) F.DEN_PROG_CTL_SEL = 1 - s.get (R.DEN_PROG_CTL d) F.DEN_PROG_CTL_SEL ∧
        t.get R.TBL_PSTAT F.TBL_PSTAT_CUR_DEN = d ∧
        (let u := s.wakeIsland (24 + d / 4)
         (∀ a, a ≠ R.DEN_PROG_CTL d → a ≠ R.DEN_PROG_STAT d → a ≠ R.TBL_PSTAT → t.rd a = u.rd a) ∧
         t = { u with regs := t.regs, tblw := t.tblw })) ∧
    (s.tblw.stage = 2 * d + 1 → s.on (R.DEN_PROG_STAT d) F.DEN_PROG_STAT_DRAINED = true →
      ∃ t, exec (.denDrained d) s = .next t ∧ popped t) ∧
    (s.on (R.DEN_PROG_STAT d) F.DEN_PROG_STAT_DRAINED = false → exec (.denDrained d) s = .next s)) ∧
  (s.readOk m R.TBL_FENCE →
    let x := s.fenceRd m R.TBL_FENCE .word [] []
    let met := s.fenceMet s.tblw.fences x = true
    (met → exec (.tableFence m) s = .next (s.emit (.readData m R.TBL_FENCE [0, 0, 0, 0]))) ∧
    (¬ met → exec (.tableFence m) s = .next { s with tblw := { s.tblw with fences := s.tblw.fences ++ [x] } }) ∧
    (met ↔ s.entriesLeft = 0 ∧ ∀ e, e < 16 → ∀ x ∈ (s.den e).jobs, ∀ j, x.2 = some j → (s.den e).fenceAt ≤ j.no)) ∧
  (∀ x, s.pending = [] → s.tblw.fences = [x] → s.tblw.answers = [] → s.fab.slew = 0 → x.via = .word →
    (s.fenceMet [] x = true → step s
      = .next ({ s with now := s.now + 1, tblw := { s.tblw with fences := [] } }.emit (.readData x.m x.addr [0, 0, 0, 0]))) ∧
    (s.fenceMet [] x = false → step s = .next { s with now := s.now + 1 })) ∧
  (∀ i, i < 16384 → exec (.eccRepair d (.prog i)) s = .next (s.setDen d fun D => { D with
    prog := D.prog.put dInstr i (s.tblw.shadow.get dInstr (16384 * d + i))
    badProg := D.badProg.filter (· != i), sglProg := D.sglProg.filter (· != i) })) ∧
  (∀ o, o < 0x200000 → o % 8 = 0 →
    ∃ t, exec (.eccRepair d (.table o)) s = .next t ∧ (t.den d).badTab = (s.den d).badTab.filter (· != o) ∧
      (∀ a, (t.den d).tbl.get zeroByte a = if o ≤ a ∧ a < o + 8 then s.tblw.master.get zeroByte a else (s.den d).tbl.get zeroByte a) ∧
      (∀ e, e ≠ d → t.den e = s.den e) ∧ t = { s with dens := t.dens })

/-- R268, R305, R307, R311, R321, R322: the registers of a den that act: SEL, the meters and the counter snapshot. -/
def Obligations.DenRegisters : Prop := ∀ (s : State) (m d : Nat) (v : Word), masterOk m = true → d < 16 →
  let D := s.den d
  let i := fldOf v F.DEN_MTR_IDX_IDX
  let c := fldOf v F.DEN_CTR_IDX_IDX
  (s.takes m (R.DEN_PROG_CTL d) v →
    ∃ t, exec (.progSelWrite m d v) s = .next t ∧ t.get (R.DEN_PROG_CTL d) F.DEN_PROG_CTL_SEL = fldOf v F.DEN_PROG_CTL_SEL ∧
      (let old := ((D.jobs.filterMap (·.2)).filter fun j => j.set != fldOf v F.DEN_PROG_CTL_SEL).length
       t.get (R.DEN_PROG_STAT d) F.DEN_PROG_STAT_OLD_JOBS = old % 256 ∧
       t.get (R.DEN_PROG_STAT d) F.DEN_PROG_STAT_DRAINED = if old = 0 then 1 else 0) ∧
      (∀ a, a ≠ R.DEN_PROG_CTL d → a ≠ R.DEN_PROG_STAT d → t.rd a = s.rd a) ∧ t = { s with regs := t.regs }) ∧
  (s.takes m (R.DEN_MTR_IDX d) v → fldOf v F.DEN_MTR_IDX_GO = 1 →
    let cbs := s.get (R.DEN_MTR_BURST d) F.DEN_MTR_BURST_CBS
    let pbs := s.get (R.DEN_MTR_BURST d) F.DEN_MTR_BURST_PBS
    exec (.meterCommit m d v) s = .next ((s.store m (R.DEN_MTR_IDX d) v).setDen d fun D => { D with
      meters := D.meters.put dMeter i {
        unl := decide (fldOf v F.DEN_MTR_IDX_UNL = 1), cir := s.get (R.DEN_MTR_RATE d) F.DEN_MTR_RATE_CIR
        pir := s.get (R.DEN_MTR_RATE d) F.DEN_MTR_RATE_PIR, cbs := cbs, pbs := pbs, last := s.now
        tc := 8000 * (cbs % 4096 * 2 ^ (cbs / 4096)), tp := 8000 * (pbs % 4096 * 2 ^ (pbs / 4096)) } })) ∧
  (s.takes m (R.DEN_MTR_IDX d) v → fldOf v F.DEN_MTR_IDX_GO = 0 → fldOf v F.DEN_MTR_IDX_READ = 1 →
    let k := D.meters.get dMeter i
    ∃ t, exec (.meterRead m d v) s = .next t ∧ t.get (R.DEN_MTR_IDX d) F.DEN_MTR_IDX_UNL = (if k.unl then 1 else 0) ∧
      t.get (R.DEN_MTR_RATE d) F.DEN_MTR_RATE_CIR = k.cir % 65536 ∧ t.get (R.DEN_MTR_RATE d) F.DEN_MTR_RATE_PIR = k.pir % 65536 ∧
      t.get (R.DEN_MTR_BURST d) F.DEN_MTR_BURST_CBS = k.cbs % 65536 ∧ t.get (R.DEN_MTR_BURST d) F.DEN_MTR_BURST_PBS = k.pbs % 65536 ∧
      (∀ a, a ≠ R.DEN_MTR_IDX d → a ≠ R.DEN_MTR_RATE d → a ≠ R.DEN_MTR_BURST d → t.rd a = s.rd a) ∧ t = { s with regs := t.regs }) ∧
  (s.takes m (R.DEN_CTR_IDX d) v → fldOf v F.DEN_CTR_IDX_SNAP = 1 →
    let x := D.ctrs.get dPair c
    ∃ t, exec (.counterSnap m d v) s = .next t ∧
      t.rd (R.DEN_CTR_PKT_LO d) = BitVec.ofNat 32 x.1 ∧ t.rd (R.DEN_CTR_PKT_HI d) = BitVec.ofNat 32 (x.1 / 2 ^ 32) ∧
      t.rd (R.DEN_CTR_BYT_LO d) = BitVec.ofNat 32 x.2 ∧ t.rd (R.DEN_CTR_BYT_HI d) = BitVec.ofNat 32 (x.2 / 2 ^ 32) ∧
      (t.den d).ctrs.get dPair c = (if fldOf v F.DEN_CTR_IDX_CLR = 1 then (0, 0) else x) ∧
      (∀ n, n ≠ c → (t.den d).ctrs.get dPair n = D.ctrs.get dPair n) ∧ (∀ e, e ≠ d → t.den e = s.den e) ∧
      t = { s with regs := t.regs, dens := t.dens })

/-- R130, R133, R346, R347, R376, R379: what the part puts into a flit's header, a fabric header and a control message reads back:
every field, at every value it can hold; a packet's check value holds; a control message made from any state is well made. -/
def Obligations.HeadersReadBack : Prop :=
  (∀ ty cls seq ack nak crCls crCount start : Nat, ty < 4 → cls < 4 → seq < 4096 → ack < 4096 → nak < 2 → crCls < 4 →
    crCount < 65536 → start < 32 →
    let h := flitHdr ty cls seq ack nak crCls crCount start
    hTYPE h = ty ∧ hCLASS h = cls ∧ hSEQ h = seq ∧ hACK h = ack ∧ hNAK h = decide (nak = 1) ∧ hCRCLS h = crCls ∧
      hCRCOUNT h = crCount ∧ hSTART h = start) ∧
  (∀ h : FabHdr, h.dst < 256 → h.src < 256 → h.opc < 8 → h.cls < 4 → h.tc < 8 → h.slice < 4096 → h.path < 4 → h.msg < 2 ^ 24 →
    h.win < 2 ^ 24 → h.key < 2 ^ 32 → h.woff < 2 ^ 48 → h.pidx < 2 ^ 18 → h.mlen < 2 ^ 30 → h.mcrc < 2 ^ 32 →
    fabHdrOf (fabHdrNat h) = h ∧ fabHdrNat h < 2 ^ 256) ∧
  (∀ (v : Nat) (payload : List Byte), let b := fabPacket v payload
    b.length = 36 + payload.length ∧ fieldAt b (b.length - 4) 4 = crc32c (b.take (b.length - 4))) ∧
  (∀ (s : State) (opc tag : Nat) (rsp err : Bool) (body : List Byte), opc < 256 → tag < 65536 → body.length ≤ 252 →
    ctlParse (s.ctlBytes opc rsp err tag body) = some {
      opc := opc, rsp := rsp, err := err, tag := tag, src := if s.fabIdValid then s.ownId else 255
      role := if s.fabIdValid then s.get R.MGT_FAB_ID F.MGT_FAB_ID_ROLE else 3, epoch := s.epoch
      alive := (s.fab.alive + 1) % 2 ^ 32, body := padTo ((body.length + 3) / 4 * 4) body })

/-- R347 to R353, R359 to R365, R367: what a worker does with the control messages that reach it, whether or not the control port has handed
them on: badly made ones are discarded and counted; heartbeats, probes, assignment, CSR and table requests, events and takeover by their
rules; its ticks and timers.
Clauses on points the spec leaves open follow the model's reading: notes/assumptions/23.md, notes/assumptions/40.md,
notes/assumptions/78.md, notes/assumptions/79.md, notes/assumptions/80.md, notes/assumptions/81.md, notes/assumptions/97.md,
notes/assumptions/122.md, notes/assumptions/125.md. -/
def Obligations.FabricWorker : Prop := ∀ (s : State) (msg : List Byte) (k : CtlMsg) (P : Nat), P < 128 → s.mode = 4 →
  let here := s.ctlOut none msg
  let by' := s.ctlOut (some P) msg
  let is := fun (opc : Nat) (rsp : Bool) => ctlParse msg = some k ∧ k.opc = opc ∧ k.rsp = rsp
  let byte := fun (i : Nat) => fieldAt k.body i 1
  let len := k.body.length
  let mine := s.fromMgr k = true
  let refused := fun (i : Instr) => ∃ t, exec i s = .next t ∧ t.fab.lastAlive = s.fab.lastAlive ∧ t.cmem = s.cmem ∧ t.tblw = s.tblw ∧
    t.get R.MGT_FAB_ERR F.MGT_FAB_ERR_EPOCH_REJ = min 255 (s.get R.MGT_FAB_ERR F.MGT_FAB_ERR_EPOCH_REJ + 1) ∧
    t.rd R.MGT_FAB_MGR = s.rd R.MGT_FAB_MGR
  (ctlParse msg = none →
    (∀ i ∈ [Instr.heartbeat P msg, .probe P msg, .probeResponse P msg, .assign P msg],
      exec i s = .next (by'.inc R.MGT_FAB_ERR F.MGT_FAB_ERR_CRC16_ERR 1)) ∧
    (∀ i ∈ [Instr.heartbeatResponse msg, .probeReq msg, .ctlCsrRead msg, .ctlCsrWrite msg, .tableWrite msg, .fabEvent msg,
        .eventResponse msg, .takeover msg],
      exec i s = .next (here.inc R.MGT_FAB_ERR F.MGT_FAB_ERR_CRC16_ERR 1))) ∧
  (is 0x01 false → 20 ≤ len → mine → (∀ a, s.fab.lastAlive = some a → isAfter k.alive a = true) →
    ∃ t, exec (.heartbeat P msg) s = .next t ∧ t.fab.lastAlive = some k.alive ∧ t.fab.missAt = t.now ∧
      t.fab.exch = some (fieldAt k.body 0 8, t.now, t.now) ∧
      (s.on R.MGT_FAB_EVQ F.MGT_FAB_EVQ_HELD = false → t.fab.alive = (s.fab.alive + 1) % 2 ^ 32) ∧
      t.get R.MGT_FAB_MGR F.MGT_FAB_MGR_MISSES = 0 ∧ t.get R.MGT_FAB_MGR F.MGT_FAB_MGR_STBY_ID = byte 16 ∧
      t.get R.MGT_FAB_MGR F.MGT_FAB_MGR_MGR_ID = s.mgrId ∧
      (s.fab.exch = none ∨ fieldAt k.body 8 8 = 0 → t.now = s.now ∧ t.fab.slew = s.fab.slew) ∧
      (∀ t1 t2 t3, s.fab.exch = some (t1, t2, t3) → s.on R.MGT_FAB_TIME F.MGT_FAB_TIME_EN = true →
        let t4 := fieldAt k.body 8 8
        let off : Int := (((t2 : Int) - t1) - ((t4 : Int) - t3)) / 2
        t4 ≠ 0 → ((t4 : Int) - t1) - ((t3 : Int) - t2) ≤ 100 * (clampTo 1 1000 (s.get R.MGT_FAB_TIME F.MGT_FAB_TIME_RTT_MAX) : Int) →
        (10000 < off.natAbs → t.now = ((s.now : Int) - off).toNat ∧ t.fab.slew = 0) ∧
        (off.natAbs ≤ 10000 → t.now = s.now ∧ t.fab.slew = -off) ∧
        t.get R.MGT_FAB_TIME F.MGT_FAB_TIME_LOCKED = (if 3 ≤ s.fab.used + 1 then 1 else 0))) ∧
  (is 0x01 false → ¬ mine → refused (.heartbeat P msg)) ∧
  (is 0x01 false → mine → len < 20 → exec (.heartbeat P msg) s = .next (by'.ctlAnswer k [6])) ∧
  (is 0x10 false → 2 ≤ len → s.fabUp (byte 0) = true →
    ∃ t, exec (.probeReq msg) s = .next t ∧ t.fab.relays = s.fab.relays ++ [⟨byte 0, 0x11, s.fab.tag, k.src, k.tag, none⟩] ∧
      t.fab.tag = (s.fab.tag + 1) % 65536 ∧ t.fab.alive = (s.fab.alive + 1) % 2 ^ 32) ∧
  (is 0x10 false → 2 ≤ len → s.fabUp (byte 0) = false → exec (.probeReq msg) s = .next (here.ctlAnswer k [4])) ∧
  (is 0x10 false → len < 2 → exec (.probeReq msg) s = .next (here.ctlAnswer k [6])) ∧
  (is 0x11 false → exec (.probe P msg) s = .next (by'.ctlAnswerBy P k (s.probeBody P)) ∧ (s.probeBody P).take 3
    = [0, if s.fabIdValid then 1 else 0, BitVec.ofNat 8 (s.get R.MGT_FAB_ID F.MGT_FAB_ID_ID)]) ∧
  (is 0x11 true ∨ is 0x12 true →
    (∀ r, s.fab.relays.find? (fun r => r.port == P && r.tag == k.tag && r.opc == k.opc) = some r →
      exec (.probeResponse P msg) s = .next (by'.relayBack r (if k.opc = 0x11 then 0 :: k.body else k.body))) ∧
    (s.fab.relays.find? (fun r => r.port == P && r.tag == k.tag && r.opc == k.opc) = none → exec (.probeResponse P msg) s = .next by')) ∧
  (∀ r body, (s.relayBack r body).fab.relays = s.fab.relays.erase r ∧ (s.relayBack r body).fab.alive = (s.fab.alive + 1) % 2 ^ 32) ∧
  (∀ r rest, s.fab.relays = r :: rest → exec .probeTimeout s = .next (s.relayBack r [4]) ∧ (s.relayBack r [4]).fab.relays = rest) ∧
  (s.fab.relays = [] → exec .probeTimeout s = .next s) ∧
  (is 0x12 false → 8 ≤ len → s.fabIdValid = false →
    ∃ t, exec (.assign P msg) s = .next t ∧ t.fabIdValid = true ∧ t.ownId = byte 1 ∧ t.mgrId = byte 2 ∧ t.epoch = k.epoch % 256 ∧
      t.get R.MGT_FAB_CFG F.MGT_FAB_CFG_HB_MISS = byte 5 % 16 ∧ t.get R.MGT_FAB_CFG F.MGT_FAB_CFG_HB_PERIOD = fieldAt k.body 6 2 % 1024) ∧
  (is 0x12 false → 8 ≤ len → s.fabIdValid = true →
    let own := (s.ctlHit (some P) msg).map (·.2.1) = some s.ownId
    (byte 1 = s.ownId → exec (.assign P msg) s = .next (by'.ctlAnswerBy P k [0])) ∧
    (byte 1 ≠ s.ownId → ¬ own → exec (.assign P msg) s = .next (by'.ctlAnswerBy P k [3])) ∧
    (byte 1 ≠ s.ownId → own → s.fabUp (byte 0) = false → exec (.assign P msg) s = .next (by'.ctlAnswerBy P k [4])) ∧
    (byte 1 ≠ s.ownId → own → s.fabUp (byte 0) = true →
      ∃ t, exec (.assign P msg) s = .next t ∧ t.fab.relays = s.fab.relays ++ [⟨byte 0, 0x12, s.fab.tag, k.src, k.tag, some P⟩] ∧
        t.fab.tag = (s.fab.tag + 1) % 65536 ∧ t.fab.alive = (s.fab.alive + 1) % 2 ^ 32)) ∧
  (is 0x12 false → len < 8 → exec (.assign P msg) s = .next (by'.ctlAnswerBy P k [6])) ∧
  (let a := fieldAt k.body 0 4
   let n := byte 4
   is 0x20 false → mine →
    (5 ≤ len → 0 < n → n ≤ 16 → here.wordsHold 10 a n = none →
      let r := State.wordsRead 10 n a here
      exec (.ctlCsrRead msg) s = .next (r.2.ctlAnswer k ([if r.1.length = n then 0 else 4, 0, 0, 0]
        ++ padTo (4 * n) (r.1.flatMap fun w => leBytes 4 w.toNat)))) ∧
    (∀ pre w rest, 5 ≤ len → 0 < n → n ≤ 16 → here.wordsHold 10 a n = some (pre, w, rest) →
      let r := State.wordsRead 10 pre.length a here
      exec (.ctlCsrRead msg) s = .next (r.2.fenceHold
        (r.2.fenceRd 10 w (.fab k.src k.tag) (r.1.flatMap fun w => leBytes 4 w.toNat) rest))) ∧
    (len < 5 ∨ n = 0 ∨ 16 < n → exec (.ctlCsrRead msg) s = .next (here.ctlAnswer k [6]))) ∧
  (let n := byte 4
   is 0x21 false → mine →
    (0 < n → n ≤ 16 → 8 + 4 * n ≤ len →
      let r := State.wordsWrite 10 (fieldAt k.body 0 4) ((upTo n).map fun i => BitVec.ofNat 32 (fieldAt k.body (8 + 4 * i) 4)) here
      exec (.ctlCsrWrite msg) s = .next (r.2.ctlAnswer k [if r.1 = n then 0 else 4])) ∧
    (n = 0 ∨ 16 < n ∨ len < 8 + 4 * n → exec (.ctlCsrWrite msg) s = .next (here.ctlAnswer k [6]))) ∧
  (is 0x22 false → mine → s.checkAcc (.word 10 true R.TBL_WR_CMD 0) = none → s.powered R.TBL_WR_CMD = true →
    byte 4 ≤ 3 → 8 + 8 * 2 ^ byte 4 ≤ len →
    let off := fieldAt k.body 0 4
    let bs := (k.body.drop 8).take (8 * 2 ^ byte 4)
    let fence := byte 5 % 2 = 1
    (off + 8 * 2 ^ byte 4 ≤ 0x200000 → off % (8 * 2 ^ byte 4) = 0 → 1024 ≤ off → s.tblw.q.length < 64 →
      ∃ t, exec (.tableWrite msg) s = .next t ∧ t.tblw = { s.tblw with
          q := s.tblw.q ++ [.entry off bs (if fence then some (k.src, leBytes 2 k.tag) else none)], acc := s.tblw.acc + 1 } ∧
        t.fab.alive = if fence then s.fab.alive else (s.fab.alive + 1) % 2 ^ 32) ∧
    (0x200000 < off + 8 * 2 ^ byte 4 → exec (.tableWrite msg) s = .next (here.ctlAnswer k [5]))) ∧
  (is 0x22 false → mine → 3 < byte 4 ∨ len < 8 + 8 * 2 ^ byte 4 → exec (.tableWrite msg) s = .next (here.ctlAnswer k [6])) ∧
  ((is 0x20 false → ¬ mine → refused (.ctlCsrRead msg)) ∧ (is 0x21 false → ¬ mine → refused (.ctlCsrWrite msg)) ∧
    (is 0x22 false → ¬ mine → refused (.tableWrite msg))) ∧
  (∀ x, is 0x30 true → s.fab.evTags.find? (fun y => y.1 == k.tag) = some x → k.err = false → k.src = s.mgrId →
    ∃ t, exec (.eventResponse msg) s = .next t ∧ t.fab.evq = s.fab.evq.filter (fun e => fieldAt e 2 2 != x.2) ∧ t.fab.resends = 0 ∧
      t.get R.MGT_FAB_EVQ F.MGT_FAB_EVQ_QUEUED = t.fab.evq.length % 128 ∧
      (∀ a, a ≠ R.MGT_FAB_EVQ → t.rd a = s.rd a) ∧ t = { here with regs := t.regs, fab := t.fab }) ∧
  (is 0x30 true → s.fab.evTags.find? (fun y => y.1 == k.tag) = none ∨ k.err = true ∨ k.src ≠ s.mgrId →
    exec (.eventResponse msg) s = .next here) ∧
  (∀ e rest, s.fab.evq = e :: rest → s.on R.MGT_FAB_EVQ F.MGT_FAB_EVQ_HELD = false → s.on R.MGT_FAB_MGR F.MGT_FAB_MGR_MGR_LOST = false →
    s.fabIdValid = true →
    (8 ≤ s.fab.resends → exec .eventResendTimeout s = .next (s.set R.MGT_FAB_EVQ F.MGT_FAB_EVQ_HELD 1)) ∧
    (s.fab.resends < 8 → ∃ t, exec .eventResendTimeout s = .next t ∧ t.fab.resends = s.fab.resends + 1 ∧
      t.fab.evTags = s.fab.evTags ++ [(s.fab.tag, fieldAt e 2 2)] ∧ t.fab.evq = s.fab.evq)) ∧
  (s.fab.evq = [] ∨ s.on R.MGT_FAB_EVQ F.MGT_FAB_EVQ_HELD = true ∨ s.on R.MGT_FAB_MGR F.MGT_FAB_MGR_MGR_LOST = true ∨ s.fabIdValid = false →
    exec .eventResendTimeout s = .next s) ∧
  (is 0x40 false → 3 ≤ len →
    let right := byte 0 = s.mgrId ∧ k.src = s.get R.MGT_FAB_MGR F.MGT_FAB_MGR_STBY_ID ∧
      (epochAfter k.epoch s.epoch = true ∨ s.on R.MGT_FAB_MGR F.MGT_FAB_MGR_MGR_LOST = true)
    (right → ∃ t, exec (.takeover msg) s = .next t ∧ t.mgrId = k.src % 256 ∧ t.epoch = k.epoch % 256 ∧
      t.get R.MGT_FAB_MGR F.MGT_FAB_MGR_MGR_LOST = 0 ∧ t.get R.MGT_FAB_MGR F.MGT_FAB_MGR_STBY_ID = byte 1 ∧
      t.fab.lastAlive = some k.alive) ∧
    (¬ right → refused (.takeover msg))) ∧
  (is 0x40 false → len < 3 → exec (.takeover msg) s = .next (here.ctlAnswer k [6])) ∧
  (ctlParse msg = some k →
    (k.rsp = false → ctlKnown k.opc = false → exec (.unknownControlOpcode P msg) s = .next (by'.ctlAnswer k [1])) ∧
    (k.rsp = true → ctlAnswers.contains k.opc = false → exec (.unknownControlOpcode P msg) s = .next by')) ∧
  (let t := { s with now := (s.now / 1000000 + 1) * 1000000 }
   let due := s.fab.missAt + 1000000 * clampTo 1 1000 (s.get R.MGT_FAB_CFG F.MGT_FAB_CFG_HB_PERIOD)
   let misses := s.get R.MGT_FAB_MGR F.MGT_FAB_MGR_MISSES
   let limit := max 1 (s.get R.MGT_FAB_CFG F.MGT_FAB_CFG_HB_MISS)
   let lost := s.on R.MGT_FAB_MGR F.MGT_FAB_MGR_MGR_LOST
   (s.fabIdValid = false ∨ t.now < due → exec .heartbeatTick s = .next t) ∧
   (s.fabIdValid = true → due ≤ t.now → min 15 (misses + 1) < limit ∨ lost = true → exec .heartbeatTick s
      = .next ((t.inc R.MGT_FAB_MGR F.MGT_FAB_MGR_MISSES 1).setFab fun f => { f with missAt := t.now })) ∧
   (s.fabIdValid = true → due ≤ t.now → limit ≤ misses + 1 → lost = false →
      ∃ u, exec .heartbeatTick s = .next u ∧ u.get R.MGT_FAB_MGR F.MGT_FAB_MGR_MGR_LOST = 1 ∧
        ⟨0xE3, 0x30, none, none, s.mgrId⟩ ∈ u.faults ∧
        (s.get R.MGT_FAB_ID F.MGT_FAB_ID_ROLE = 1 → s.transiting = false → u.fab.takeover = true ∧ u.boot.target = 5 ∧ u.transiting = true)))

/-- R357, R358, R363, R366, R432, R585: the manager's side: heartbeats sent, counted and answered, its directory, which it reads and writes as
master 7, its listening, its stepping down, and the events of its workers, each delivered once and in order.
Clauses on points the spec leaves open follow the model's reading: notes/assumptions/41.md, notes/assumptions/79.md,
notes/assumptions/122.md, notes/assumptions/124.md, notes/assumptions/125.md. -/
def Obligations.FabricManager : Prop := ∀ (s : State) (msg : List Byte) (k : CtlMsg), s.mode = 5 →
  let here := s.ctlOut none msg
  let newer := epochAfter k.epoch s.epoch = true ∨ (k.role = 2 ∧ k.src ≠ s.ownId)
  let is := fun (opc : Nat) (rsp : Bool) => ctlParse msg = some k ∧ k.opc = opc ∧ k.rsp = rsp
  let rec' := fun (t : State) (i o n : Nat) => fieldAt (t.cmemBytes (s.dirOff i + o) n) 0 n
  let reach := fun (i : Nat) => s.nightShut 7 = false ∧ s.asleep 6 = false ∧ s.dirOff i + 32 ≤ 0x1000000 ∧
    ∀ x ∈ [(false, 0, 32), (true, 0, 1), (true, 2, 1), (true, 4, 4), (true, 16, 2)],
      s.checkAcc { Acc.word 7 x.1 (0x1000000 + (s.dirOff i + x.2.1)) 0 with size := x.2.2 } = none
  let scans := ∀ j, j < 256 → s.dirOff j + 32 ≤ 0x1000000 ∧ s.checkAcc { Acc.word 7 false (0x1000000 + s.dirOff j) 0 with size := 32 } = none
  (is 0x01 true → ¬ newer → k.err = false → s.fab.hbSent.contains (k.src, k.tag) = true → reach k.src →
    ∃ t, exec (.heartbeatResponse msg) s = .next t ∧ rec' t k.src 0 1 = 2 ∧ rec' t k.src 2 1 = 0 ∧
      rec' t k.src 4 4 = k.alive % 2 ^ 32 ∧ t.fab.answered.contains k.src = true ∧
      t.fab.t4.get dZero k.src = s.now ∧ t = { here with cmem := t.cmem, fab := t.fab }) ∧
  (is 0x01 true → ¬ newer → s.fab.hbSent.contains (k.src, k.tag) = false → exec (.heartbeatResponse msg) s = .next here) ∧
  (is 0x01 true → newer → s.transiting = false →
    ∃ t, exec (.heartbeatResponse msg) s = .next t ∧ t.mode = 4 ∧ t.get R.MGT_FAB_ID F.MGT_FAB_ID_ROLE = 1 ∧ t.mgrId = k.src % 256 ∧
      t.epoch = k.epoch % 256 ∧ t.fab.hbSent = [] ∧ t.fab.t4 = [] ∧ t.fab.exch = none ∧ t.fab.listening = false) ∧
  (s.fab.listening = true → exec .heartbeatPeriod s = .next s ∧
    exec .managerListenEnd s = .next ((s.set R.MGT_FAB_MGR F.MGT_FAB_MGR_EPOCH 1).setFab fun f => { f with listening := false })) ∧
  (s.fab.listening = false → exec .managerListenEnd s = .next s) ∧
  (∀ i, s.fab.listening = false → s.fab.hbSent = [(i, k.tag)] → s.fab.answered = [i] → i < 256 → i ≠ s.ownId →
    reach i → scans →
    (∀ j, j < 256 → j ≠ s.ownId → (1 ≤ rec' s j 0 1 ∧ rec' s j 0 1 ≤ 3 ↔ j = i)) →
    ∃ t, exec .heartbeatPeriod s = .next t ∧ t.fab.hbSent = [(i, s.fab.tag)] ∧ t.fab.answered = [] ∧ t.fab.t4.get dZero i = 0 ∧
      t.cmem = s.cmem ∧ t.fab.alive = (s.fab.alive + 1) % 2 ^ 32) ∧
  (∀ i, i < 256 → s.fab.listening = false → s.fab.hbSent = [(i, k.tag)] → s.fab.answered = [] → reach i → scans →
    let missed := min 255 (rec' s i 2 1 + 1)
    let lost := missed = max 1 (s.get R.MGT_FAB_CFG F.MGT_FAB_CFG_HB_MISS)
    ∃ t, exec .heartbeatPeriod s = .next t ∧ rec' t i 2 1 = missed ∧ rec' t i 0 1 = (if lost then 3 else rec' s i 0 1)) ∧
  (let h := s.get R.MGT_FAB_HOST F.MGT_FAB_HOST_HD
   let seq := fieldAt k.body 2 2
   let ahead := (seq + 65536 - (s.nextSeq k.src).2) % 65536
   is 0x30 false → ¬ newer → 48 ≤ k.body.length → s.fab.held.get dNil k.src = [] → reach k.src →
    (ahead = 0 → s.on R.MGT_FAB_HOST F.MGT_FAB_HOST_EN = true → (s.dom h).evq.length < 256 →
      ∃ t e, exec (.fabEvent msg) s = .next t ∧ (t.dom h).evq = (s.dom h).evq ++ [e] ∧ fieldAt e 0 1 = 0x07 ∧ fieldAt e 4 1 = k.src ∧
        fieldAt e 6 2 = seq ∧ t.fab.heard.contains k.src = true ∧ (t.nextSeq k.src).2 = (seq + 1) % 65536) ∧
    (0 < ahead → ahead < 32768 → ∃ t, exec (.fabEvent msg) s = .next t ∧ t.fab.held.get dNil k.src = [(seq, k.body)] ∧ t.doms = s.doms) ∧
    (32768 ≤ ahead → exec (.fabEvent msg) s = .next (here.ctlAnswer k [0])))

/-- R381, R382, R386 to R389, R400, R429: the source of remote memory: elements fetched or refused, packets sent through the shaper
of the message's slice, answers, timeouts, back-off, aborts, and each completion record written once.
Clauses on points the spec leaves open follow the model's reading: notes/assumptions/62.md, notes/assumptions/63.md,
notes/assumptions/64.md, notes/assumptions/65.md, notes/assumptions/133.md. -/
def Obligations.RemoteSource : Prop := ∀ (s : State) (slot k sq : Nat) (b : List Byte) (m : Msg) (p : FabPkt) (v : Word) (mp : Nat),
  s.Tidy → s.live → slot < 65536 → k < State.cancelPkt → sq < 32768 → b.length = 64 → masterOk mp = true →
  let ci := s.ctxGet 0 sq 18 2
  let got := Output.fetched (s.slcHd (s.ctxSlice 0 sq)) (s.ctxGet 0 sq 0 8 + ci % 2 ^ (s.ctxGet 0 sq 8 1 % 16) * 64) 64
  let adv := (s.emit got).ctxSet 0 sq 18 2 ((ci + 1) % 65536)
  let opc := fieldAt b 0 1
  let w := fieldAt b 16 2
  let len := fieldAt b 48 4
  let chk := s.winCheck w (fieldAt b 18 1) none (if opc = 3 then 1 else 3) (fieldAt b 24 6) len false true
  let sameDom := s.win w R.WEN_WIN_PROT F.WEN_WIN_PROT_PDOM = s.ctxGet 0 sq 12 2 % 4096
  let h := fabHdrOf p.hdr.toNat
  let came := s.wen.inq = [] ∧ State.pktCrcOk p = true ∧ State.badHeader p = false ∧ p.payload.length ≤ 4096
  let mine := s.msg slot = some m ∧ m.slice < 4096
  let met := s.pathAnswered h.src h.path h.ece
  (s.canFetch sq = false → exec (.wqeFetch sq b) s = .next s) ∧
  (s.canFetch sq = true →
    (State.wqeBad b = true → exec (.wqeFetch sq b) s = .next (adv.wqeFail sq b 17 false)) ∧
    (State.wqeBad b = false → ¬ sameDom → exec (.wqeFetch sq b) s = .next (adv.wqeFail sq b 18 false)) ∧
    (State.wqeBad b = false → sameDom → chk ≠ 0 → exec (.wqeFetch sq b) s = .next (adv.wqeFail sq b chk true)) ∧
    (State.wqeBad b = false → sameDom → chk = 0 → s.reachable (fieldAt b 34 1) = false →
      exec (.wqeFetch sq b) s = .next (adv.wqeFail sq b 16 false)) ∧
    (State.wqeBad b = false → sameDom → chk = 0 → s.reachable (fieldAt b 34 1) = true →
      ∃ t x, exec (.wqeFetch sq b) s = .next t ∧ s.msg s.freeSlot = none ∧ t.msg s.freeSlot = some x ∧ x.why = .wqe sq ∧
        x.inc = (s.wen.inc.get dZero s.freeSlot + 1) % 256 ∧ x.opc = opc ∧ x.len = len ∧ x.wrId = fieldAt b 8 8 ∧ x.tc = fieldAt b 2 1 ∧
        x.rwin = fieldAt b 32 4 ∧ x.rkey = fieldAt b 36 4 ∧ x.roff = fieldAt b 40 6 ∧ x.slice = s.ctxSlice 0 sq ∧
        t.ctxGet 0 sq 18 2 = (ci + 1) % 65536 ∧ t.useOf 0 (s.ctxSlice 0 sq) = (s.useOf 0 (s.ctxSlice 0 sq) + 1) % 2 ^ 20 ∧
        (opc = 3 → t.out = got :: s.out) ∧
        (opc ≠ 3 → bit (fieldAt b 1 1) 1 = false → x.reading = true ∧ t.out = .hostRead (s.winHd w) (s.dom (s.winHd w)).nextTag
          (s.winBase w + fieldAt b 24 6) (min 4096 len) (s.winPasid w) :: got :: s.out))) ∧
  (∀ sl x rest, sl < 4096 → s.wen.shq.get dNil sl = x :: rest →
    let bk := (s.shaper sl).grown s.now
    (s.shpReady sl x = true → s.slcState sl = 1 ∨ s.slcState sl = 2 → ∃ t, exec (.shaperRelease sl) s = .next t ∧
      t.wen.shq.get dNil sl = rest ∧ t.sett.nextPid = s.sett.nextPid + 1 ∧
      t.useOf 2 sl = (s.useOf 2 sl + cellsOf x.bytes.length) % 2 ^ 20 ∧
      (bk.en = true → (t.shaper sl).tok = bk.tok - Int.ofNat ((x.charge + bk.ovh) * 8000))) ∧
    (s.shpReady sl x = false ∨ ¬ (s.slcState sl = 1 ∨ s.slcState sl = 2) → exec (.shaperRelease sl) s = .next s)) ∧
  (mine → m.aborting = false → m.withdrawn = false → s.apFull m = false → s.fenced m = false → m.next < packetsOf m → m.next < State.cancelPkt → State.unanswered m < 1024 →
      (m.opc = 3 ∨ m.mcrc.isSome = true) → (s.slcState m.slice = 1 ∨ s.slcState m.slice = 2) →
    let dst := dstOf m
    let path := (s.choosePath dst (slot + m.next)).1
    let bytes := s.reqPacket slot m m.next path false
    let pkt : Shp := ⟨bytes, bytes.length - 36, some (slot, m.inc, m.next)⟩
    let goes := (s.wen.shq.get dNil m.slice).isEmpty && s.shpReady m.slice pkt
    (s.wen.excl.get dNil dst = [] → (∀ q, q < 4 → s.wen.skip.get dZero (dst * 4 + q) = 0) → path = (slot + m.next) % 4) ∧
    ∃ t x, exec (.requestPacketSend slot) s = .next t ∧ t.msg slot = some x ∧ x = { m with next := m.next + 1, pk := x.pk, path := path } ∧
      State.txPkt x m.next = { st := if goes then 2 else 1, path := path } ∧
      (∀ j, j ≠ m.next → j < State.cancelPkt → State.txPkt x j = State.txPkt m j) ∧
      (goes = true → t.sett.nextPid = s.sett.nextPid + 1) ∧
      (goes = false → t.wen.shq.get dNil m.slice = s.wen.shq.get dNil m.slice ++ [pkt] ∧ t.sett = s.sett)) ∧
  (mine → 1024 ≤ State.unanswered m ∨ s.apFull m = true ∨ m.withdrawn = true → exec (.requestPacketSend slot) s = .next (s.gather slot)) ∧
  (came → mine → s.answered h = some (slot, m) →
    (p.isOpc 5 = true → exec (.rmAck p) s = .next
      (if bit h.key 8 && decide (h.key % 256 = 0) && decide (m.opc ≠ 3) then (met.markAnswered slot h.pidx).endMsg slot 0 false 0 h.path false
       else met.markAnswered slot h.pidx)) ∧
    (p.isOpc 6 = true → m.aborting = false → h.key % 256 ≠ 0 →
      (h.key % 256 ≠ 14 → h.key % 256 ≠ 15 → exec (.rmNak p) s = .next (met.endMsg slot (h.key % 256) false h.src h.path false)) ∧
      (h.key % 256 = 14 ∨ h.key % 256 = 15 →
        ((State.txPkt m h.pidx).naks + 1 < 64 → exec (.rmNak p) s = .next (met.setMsg slot
          (some (State.setTxPkt m h.pidx { State.txPkt m h.pidx with st := 3, naks := (State.txPkt m h.pidx).naks + 1 })))) ∧
        (64 ≤ (State.txPkt m h.pidx).naks + 1 → exec (.rmNak p) s = .next (met.endMsg slot (h.key % 256) false h.src h.path false)))) ∧
    (p.isOpc 7 = true → m.opc = 3 → m.why = .wqe sq → h.pidx < packetsOf m → p.payload.length = min 4096 (m.len - 4096 * h.pidx) →
      let met := s.pathAnswered h.src h.path false
      let lw := m.lwin % 65536
      let c := s.winCheck lw (m.lwin / 65536) none 1 m.loff m.len false true
      let m' := State.setTxPkt m h.pidx { State.txPkt m h.pidx with st := 4, naks := 0 }
      (crc32c p.payload ≠ h.mcrc ∨ (State.txPkt m h.pidx).st = 4 → exec (.rmReadData p) s = .next met) ∧
      (crc32c p.payload = h.mcrc → (State.txPkt m h.pidx).st ≠ 4 →
        (c ≠ 0 → exec (.rmReadData p) s = .next (met.endMsg slot c true 255 h.path false)) ∧
        (c = 0 → ∃ t, exec (.rmReadData p) s = .next t ∧
          t.out = .hostWrite (s.winHd lw) (s.winBase lw + m.loff + 4096 * h.pidx) (laneRule (s.winUnit lw) p.payload.length p.payload)
            (s.winPasid lw) :: s.out ∧
          t.msg slot = if (m'.pk.filter fun e => decide (e.2.st = 4)).length = packetsOf m then none else some m')))) ∧
  (came → s.answered h = none → (p.isOpc 5 = true → exec (.rmAck p) s = .next s) ∧ (p.isOpc 6 = true → exec (.rmNak p) s = .next s) ∧
    (p.isOpc 7 = true → exec (.rmReadData p) s = .next s)) ∧
  (mine →
    let j := if m.aborting then State.cancelPkt else k
    let x := State.txPkt m j
    let late := s.pathTimeout (dstOf m) x.path
    let limit := max 1 (s.get R.WEN_RM_CFG F.WEN_RM_CFG_RETRY)
    (m.withdrawn = false → (x.st = 2 ∨ (j = 0 ∧ m.opc ≠ 3 ∧ m.next = packetsOf m ∧ State.unanswered m = 0 ∧ x.st = 4)) →
      (x.tries < limit → exec (.retransmitTimeout slot k) s = .next (late.sendPkt slot j (x.path + 1) true { x with tries := x.tries + 1 })) ∧
      (limit ≤ x.tries → exec (.retransmitTimeout slot k) s
        = .next (late.endMsg slot (if m.aborting then 1 else 8) false 255 x.path false))) ∧
    (x.st = 3 → m.withdrawn = false → exec (.backoffExpiry slot k) s = .next (s.sendPkt slot j (x.path + 1) true x)) ∧
    (x.st ≠ 3 → exec (.backoffExpiry slot k) s = .next s)) ∧
  (s.msg slot = none → exec (.retransmitTimeout slot k) s = .next s ∧ exec (.backoffExpiry slot k) s = .next s ∧
    exec (.requestPacketSend slot) s = .next s) ∧
  (∀ dst path, dst < 256 → path < 4 → ∃ t, exec (.pathHoldExpiry dst path) s = .next t ∧
    t.wen.excl.get dNil dst = (s.wen.excl.get dNil dst).filter (· != path) ∧ t = { s with wen := { s.wen with excl := t.wen.excl } }) ∧
  (∀ dst path, path < 4 → s.wen.excl.get dNil dst = [] →
    max 1 (s.get R.WEN_RM_CFG3 F.WEN_RM_CFG3_PATH_TH) ≤ s.wen.tmo.get dZero (dst * 4 + path) + 1 →
    (s.pathTimeout dst path).wen.excl.get dNil dst = [path]) ∧
  (∀ cq r rest, cq < 32768 → s.wen.held.get dNil cq = r :: rest →
    let hd := s.slcHd (s.ctxSlice 1 cq)
    let pi := s.ctxGet 1 cq 12 2
    let n := 2 ^ (s.ctxGet 1 cq 8 1 % 32)
    let a := s.ctxGet 1 cq 0 8 + pi % n * 32
    (s.cqFits cq = true → s.dmfOk hd = true → ∃ t, exec (.cqRecordWrite cq) s = .next t ∧ t.wen.held.get dNil cq = rest ∧
      t.out = .hostWrite hd (a + 31) (leBytes 1 (b2n (s.wen.pass.get (fun _ => false) cq))) none :: .hostWrite hd a r.bytes none :: s.out ∧
      t.ctxGet 1 cq 12 2 = (pi + 1) % 65536 ∧
      t.wen.pass.get (fun _ => false) cq
        = (if (pi + 1) % n = 0 then !s.wen.pass.get (fun _ => false) cq else s.wen.pass.get (fun _ => false) cq)) ∧
    (s.cqFits cq = false → exec (.cqRecordWrite cq) s = .next s)) ∧
  (s.takes mp R.WEN_ABORT v → State.won v F.WEN_ABORT_GO = true →
    let id := (s.rd (ownReg mp R.WEN_ABORT_ID_LO)).toNat + (s.rd (ownReg mp R.WEN_ABORT_ID_HI)).toNat * 2 ^ 32
    let found := s.msgList.find? fun x => x.2.why == .wqe (State.wfld v F.WEN_ABORT_SQ) && decide (x.2.wrId = id)
    let said := fun (r : Nat) => (s.store mp R.WEN_ABORT v).set (ownReg mp R.WEN_ABORT_STAT) F.WEN_ABORT_STAT_RESULT r
    (found = none → exec (.messageAbort mp v) s = .next (said 2)) ∧
    (found = some (slot, m) → m.opc = 3 → exec (.messageAbort mp v) s = .next ((said 1).endMsg slot 1 false 255 m.path false)) ∧
    (found = some (slot, m) → m.opc ≠ 3 → m.aborting = true → exec (.messageAbort mp v) s = .next (said 1)) ∧
    (found = some (slot, m) → m.opc ≠ 3 → m.aborting = false →
      exec (.messageAbort mp v) s
        = .next ((((said 1).setMsg slot (some { m with aborting := true })).shpForget slot).sendPkt slot State.cancelPkt slot false {}))) ∧
  (mine → m.why = .wqe sq → ∀ status dev path loc,
    let t := s.endMsg slot status loc dev path false
    t.msg slot = none ∧ t.out = s.out ∧ t.wen.held.get dNil m.cq = s.wen.held.get dNil m.cq
      ++ (if status = 0 ∧ m.sig = false ∧ m.aborting = false then [] else [State.msgRec m sq status (path % 4 + 4 * b2n loc) (if status = 0 then 0 else dev)]))

/-- R373, R383, R390 to R395, R401, R430: the target of remote memory: what each request packet does to the inbound entries and to
host memory, and which answer it draws. A retransmitted READ counts as a duplicate (a reading of R395, notes/assumptions/51.md).
Clauses on points the spec leaves open follow the model's reading: notes/assumptions/49.md. -/
def Obligations.RemoteTarget : Prop := ∀ (s s1 : State) (p : FabPkt) (i : Instr), s.Tidy → s.live → s.wen.inq = [] → State.pktCrcOk p = true →
  State.badHeader p = false → p.payload.length ≤ 4096 →
  let h := fabHdrOf p.hdr.toNat
  let w := h.win % 65536
  let sl := s.winSlice w
  let sc := sl.getD 0
  let wire := h.mlen + 1
  let len := if h.opc = 2 then wire - 4 else wire
  let n := cellsOf (p.payload.length + 36)
  let chk := fun (going : Bool) => s.winCheck w (h.win / 65536) (some h.key) h.opc h.woff len false going
  let isWrite := (i = .rmWrite p ∧ p.isOpc 1 = true) ∨ (i = .rmWriteNotify p ∧ p.isOpc 2 = true)
  let old := s.inbGet h.src h.msg
  let room := s.wen.inb.length < 65536 ∧ s.useOf 1 sc < s.quotaOf 1 sc ∧ s.useOf 2 sc + n ≤ s.quotaOf 2 sc
  (isWrite → old = none → chk false ≠ 0 → exec i s = .next (s.nak h (chk false) sl)) ∧
  (isWrite → old = none → chk false = 0 → s.police sc p.payload.length = (false, s1) → exec i s = .next (s1.nak h 14 sl)) ∧
  (isWrite → old = none → chk false = 0 → s.police sc p.payload.length = (true, s1) → ¬ room → exec i s = .next (s1.nak h 15 sl)) ∧
  (isWrite → old = none → chk false = 0 → s.police sc p.payload.length = (true, s1) → room →
    ∃ t, exec i s = .next t ∧ t.inbGet h.src h.msg = some {
        src := h.src, id := h.msg, st := 0, slice := sc, win := w, opc := h.opc, wire := wire, woff := h.woff, mcrc := h.mcrc, rslice := h.slice } ∧
      t.wen.wrs = s.wen.wrs ++ [⟨s.wen.nextId, fabHdrNat h, sc, w, s.winHd w, s.winBase w + h.woff + 4096 * h.pidx,
        laneRule (s.winUnit w) p.payload.length (p.payload.take (len - 4096 * h.pidx)), p.payload, s.winPasid w, none⟩] ∧
      t.out = s.out) ∧
  (∀ e, isWrite → old = some e →
    (e.st = 1 → exec i s = .next (s.ack h true (some e.slice))) ∧
    (e.st = 2 → exec i s = .next (s.nak h e.status (some e.slice))) ∧
    (e.st = 0 → chk true ≠ 0 → exec i s = .next ((s.inbClose e 2 (chk true)).nak h (chk true) sl)) ∧
    (e.st = 0 → chk true = 0 → s.police sc p.payload.length = (false, s1) → exec i s = .next (s1.nak h 14 sl)) ∧
    (e.st = 0 → chk true = 0 → s.police sc p.payload.length = (true, s1) → e.got.contains h.pidx = true →
      e.got.length ≠ (e.wire + 4095) / 4096 → exec i s = .next (s1.ack h false (some sc))) ∧
    (e.st = 0 → chk true = 0 → s.police sc p.payload.length = (true, s1) → e.got.contains h.pidx = false →
      (s.quotaOf 2 sc < s.useOf 2 sc + n → exec i s = .next (s1.nak h 15 sl)) ∧
      (s.useOf 2 sc + n ≤ s.quotaOf 2 sc → s.wen.wrs = [] → ∃ t, exec i s = .next t ∧ t.wen.inb = s.wen.inb ∧ t.out = s.out ∧
        t.wen.wrs = [⟨s.wen.nextId, fabHdrNat h, sc, w, s.winHd w, s.winBase w + h.woff + 4096 * h.pidx,
          laneRule (s.winUnit w) p.payload.length (p.payload.take (len - 4096 * h.pidx)), p.payload, s.winPasid w, none⟩]))) ∧
  (p.isOpc 3 = true →
    let c := s.winCheck w (h.win / 65536) (some h.key) 3 h.woff wire h.spec false
    let m := min 4096 (wire - 4096 * h.pidx)
    (c ≠ 0 → exec (.rmRead p) s = .next (s.nak h c sl)) ∧
    (c = 0 → s.police sc m = (false, s1) → exec (.rmRead p) s = .next (s1.nak h 14 sl)) ∧
    (c = 0 → s.police sc m = (true, s1) → ∃ t, exec (.rmRead p) s = .next t ∧
      t.wen.rds = s.wen.rds ++ [⟨s.wen.nextId, fabHdrNat h, sc, w, s.winUnit w⟩] ∧
      t.out = .hostRead (s.winHd w) (s.dom (s.winHd w)).nextTag (s.winBase w + h.woff + 4096 * h.pidx) m (s.winPasid w) :: s.out ∧
      t.wen.inb = s.wen.inb ∧
      t.get R.WEN_CNT0 F.WEN_CNT0_DUP_SE
        = (if h.retx = true ∧ s.wen.seen.contains (h.src, h.msg, h.pidx) = true ∧ s.win w R.WEN_WIN_CTL F.WEN_WIN_CTL_PF = 0
           then min 65535 (s.get R.WEN_CNT0 F.WEN_CNT0_DUP_SE + 1) else s.get R.WEN_CNT0 F.WEN_CNT0_DUP_SE))) ∧
  (p.isOpc 4 = true →
    (∀ e, old = some e → e.st = 1 → exec (.rmCancel p) s = .next (s.ack h true (some e.slice))) ∧
    (∀ e, old = some e → e.st ≠ 1 → exec (.rmCancel p) s = .next ((s.inbClose e 2 1).nak h 1 (some e.slice))) ∧
    (old = none → 65536 ≤ s.wen.inb.length → exec (.rmCancel p) s = .next (s.nak h 15 sl)) ∧
    (old = none → s.wen.inb.length < 65536 → ∃ t e, exec (.rmCancel p) s = .next t ∧ t.inbGet h.src h.msg = some e ∧ e.st = 2 ∧
      e.status = 1 ∧ t.out = s.out ∧ t.wen.wrs = s.wen.wrs ∧ t.sett.nextPid = s.sett.nextPid + 1)) ∧
  (∀ x, s.wen.wrs = [x] → x.pid = none → x.slice < 4096 → x.hd < 16 →
    let hx := fabHdrOf x.hdr
    let back := (s.setWen fun w => { w with wrs := [] }).useSub 2 x.slice (cellsOf (x.wire.length + 36))
    let ent := s.inbGet hx.src hx.msg
    (s.dmfOk x.hd = false → ent = none → exec (.hostWriteIssued x.id) s = .next (back.nak hx 9 (some x.slice))) ∧
    (∀ e, s.dmfOk x.hd = false → ent = some e → e.st = 0 →
      exec (.hostWriteIssued x.id) s = .next ((back.inbClose e 2 9).nak hx 9 (some x.slice))) ∧
    (s.dmfOk x.hd = true → x.bytes ≠ [] →
      let wrote := (back.emit (.hostWrite x.hd x.addr x.bytes x.pasid)).count 34 4 x.slice x.bytes.length
      (∀ e, ent = some e → e.st = 1 → exec (.hostWriteIssued x.id) s = .next (wrote.ack hx true (some x.slice))) ∧
      (∀ e, ent = some e → e.st = 2 → exec (.hostWriteIssued x.id) s = .next (wrote.nak hx e.status (some x.slice))) ∧
      (∀ e, ent = some e → e.st = 0 → e.got.contains hx.pidx = false →
        let e' := { e with got := e.got ++ [hx.pidx], data := e.data.put dNil hx.pidx x.wire }
        let pkts := (e.wire + 4095) / 4096
        let all := (upTo pkts).flatMap (e'.data.get dNil)
        (e.got.length + 1 ≠ pkts → exec (.hostWriteIssued x.id) s = .next ((wrote.inbPut e').ack hx false (some x.slice))) ∧
        (e.got.length + 1 = pkts → e.opc = 1 → crc32c all = e.mcrc →
          exec (.hostWriteIssued x.id) s
            = .next ((((wrote.inbPut e').inbClose e' 1 0).count 34 3 e.slice 1).ack hx true (some e.slice))) ∧
        (e.got.length + 1 = pkts → crc32c all ≠ e.mcrc →
          exec (.hostWriteIssued x.id) s = .next ((((wrote.inbPut e').inbClose e' 2 12).raise 0xB0 0x20 (some e.slice) (some e.woff)
            e.win).nak hx 12 (some e.slice))) ∧
        (e.got.length + 1 = pkts → e.opc = 2 → crc32c all = e.mcrc → e.slice < 4096 →
          let cq := s.get (R.SLC_NCQ e.slice) F.SLC_NCQ_NCQ
          let fits := s.on (R.SLC_NCQ e.slice) F.SLC_NCQ_EN && (s.wen.held.get dNil cq).isEmpty && s.cqFits cq
            && s.dmfOk (s.slcHd (s.ctxSlice 1 cq))
          (fits = false → exec (.hostWriteIssued x.id) s = .next ((wrote.inbPut e').nak hx 15 (some e.slice))) ∧
          (fits = true → exec (.hostWriteIssued x.id) s = .next (((((wrote.inbPut e').recWrite cq
            (recBytes 8 0 e.rslice (fieldAt all (e.wire - 4) 4) 0 (s.winHandle e.win) e.src 0 (e.wire - 4))).inbClose e' 1 0).count 34 3
              e.slice 1).ack hx true (some e.slice))))))) ∧
  (∀ id, s.wen.wrs = [] → exec (.hostWriteIssued id) s = .next s) ∧
  (∀ src id e, src < 256 → s.inbGet src id = some e →
    (e.st ≠ 0 → exec (.retainExpiry src id) s = .next (s.inbDrop src id) ∧ exec (.inboundIdleTimeout src id) s = .next s) ∧
    (e.st = 0 → exec (.retainExpiry src id) s = .next s ∧ exec (.inboundIdleTimeout src id) s
      = .next (((s.inbDrop src id).useSub 1 e.slice 1).inc R.WEN_CNT0 F.WEN_CNT0_IDLE_FREE 1))) ∧
  (∀ src id, (s.inbDrop src id).inbGet src id = none)

/-- R180, R203 to R205, R372, R384, R396, R397, R399, R402 to R407, R423, R424: windows opened and revoked, the fence, contexts
committed and read, doorbells, and what the aperture bridge makes of host accesses.
Clauses on points the spec leaves open follow the model's reading: notes/assumptions/26.md, notes/assumptions/65.md,
notes/assumptions/66.md, notes/assumptions/132.md. -/
def Obligations.WindowsQueuesApertures : Prop := ∀ (s : State) (m h : Nat) (v : Word), s.Tidy → masterOk m = true → h < 16 →
  (let w := s.get (ownReg m R.WEN_WIN_SEL) F.WEN_WIN_SEL_IDX
   let said := fun (r : Nat) => (s.store m R.WEN_WIN_CMD v).setWin w R.WEN_WIN_CMD F.WEN_WIN_CMD_RESULT r
   s.takes m R.WEN_WIN_CMD v → ∀ i ∈ [Instr.windowOpen m v, .windowRevoke m v],
    (State.wfld v F.WEN_WIN_CMD_OP = 1 → s.winState w = 0 → ∃ t, exec i s = .next t ∧ t.winState w = 1 ∧
      t.win w R.WEN_WIN_PROT F.WEN_WIN_PROT_GEN = (s.win w R.WEN_WIN_PROT F.WEN_WIN_PROT_GEN + 1) % 256 ∧
      t.win w R.WEN_WIN_PROT F.WEN_WIN_PROT_PDOM = s.win w R.WEN_WIN_PROT F.WEN_WIN_PROT_PDOM ∧
      t.win w R.WEN_WIN_CMD F.WEN_WIN_CMD_RESULT = 0 ∧
      (∀ a, a ≠ winReg w R.WEN_WIN_CTL → a ≠ winReg w R.WEN_WIN_PROT → a ≠ winReg w R.WEN_WIN_CMD → t.rd a = s.rd a) ∧
      t = { s with regs := t.regs }) ∧
    (State.wfld v F.WEN_WIN_CMD_OP = 1 → s.winState w ≠ 0 → exec i s = .next (said 1)) ∧
    (State.wfld v F.WEN_WIN_CMD_OP = 2 → s.winState w = 1 → s.wen.revoking.length < 256 → ∃ t, exec i s = .next t ∧ t.winState w = 2 ∧
      t.win w R.WEN_WIN_CMD F.WEN_WIN_CMD_BUSY = 1 ∧ t.win w R.WEN_WIN_CMD F.WEN_WIN_CMD_RESULT = 0 ∧
      t.wen = { s.wen with revoking := s.wen.revoking ++ [(w, State.wfld v F.WEN_WIN_CMD_CQ, none)] } ∧
      (∀ a, a ≠ winReg w R.WEN_WIN_CTL → a ≠ winReg w R.WEN_WIN_CMD → t.rd a = s.rd a) ∧ t = { s with regs := t.regs, wen := t.wen }) ∧
    (State.wfld v F.WEN_WIN_CMD_OP = 2 → s.winState w ≠ 1 → exec i s = .next (said 1)) ∧
    (State.wfld v F.WEN_WIN_CMD_OP = 2 → s.winState w = 1 → 256 ≤ s.wen.revoking.length → exec i s = .next (said 2))) ∧
  (s.live →
    (s.wen.revWait = [] → exec .revokeSlotStart s = .next s) ∧
    (∀ w sl rest, s.wen.revWait = (w, sl) :: rest →
      (256 ≤ s.wen.revoking.length → exec .revokeSlotStart s = .next s) ∧
      (s.wen.revoking.length < 256 → s.winState w = 1 → ∃ t, exec .revokeSlotStart s = .next t ∧ t.winState w = 2 ∧
        t.wen = { s.wen with revWait := rest, revoking := s.wen.revoking ++ [(w, 0x7FFF, some sl)] })) ∧
    (∀ w, w < 65536 → s.wen.revoking.find? (fun x => x.1 == w) = none → exec (.revokeDrainDone w) s = .next s) ∧
    (∀ w cq x, w < 65536 → s.wen.revoking.find? (fun x => x.1 == w) = some (w, cq, x) →
      (s.winBusy w = true → exec (.revokeDrainDone w) s = .next s) ∧
      (s.winBusy w = false → ∃ t, exec (.revokeDrainDone w) s = .next t ∧ t.winState w = 0 ∧
        t.win w R.WEN_WIN_CMD F.WEN_WIN_CMD_BUSY = 0 ∧ t.wen.revoking = s.wen.revoking.filter (fun y => y.1 != w) ∧
        (∀ e ∈ t.wen.inb, e.win = w → e.st ≠ 0) ∧ t.out = s.out ∧
        t.wen.held.get dNil cq = s.wen.held.get dNil cq ++ (if cq ≠ 0x7FFF ∧ s.ctxEn 1 cq = true then
          [{ bytes := recBytes 9 0 0 0 0 (s.winHandle w) 0 0 0, slice := none }] else [])))) ∧
  (s.readOk m R.WEN_FENCE →
    let x := s.fenceRd m R.WEN_FENCE .word [] []
    let met := s.fenceMet s.tblw.fences x = true
    (met → exec (.windowFence m) s = .next (s.emit (.readData m R.WEN_FENCE [0, 0, 0, 0]))) ∧
    (¬ met → exec (.windowFence m) s = .next { s with tblw := { s.tblw with fences := s.tblw.fences ++ [x] } }) ∧
    (met ↔ s.wen.wrs = [])) ∧
  (let ty := State.wfld v F.WEN_CTX_SEL_TYPE
   let idx := State.wfld v F.WEN_CTX_SEL_IDX
   let b := (upTo 8).flatMap fun k => leBytes 4 (s.rd (ownReg m (R.WEN_CTX_DATA k))).toNat
   let refused := fun (i : Instr) => exec i s
     = .next ((s.store m R.WEN_CTX_SEL v).set (ownReg m R.WEN_CTX_SEL) F.WEN_CTX_SEL_REF 1)
   let done := fun (t : State) => t.get (ownReg m R.WEN_CTX_SEL) F.WEN_CTX_SEL_REF = 0 ∧
     (∀ a, a ≠ ownReg m R.WEN_CTX_SEL → t.rd a = s.rd a) ∧
     (∀ y j, y < 2 ∧ j < 32768 ∨ y = 2 ∧ j < 4096 → (y, j) ≠ (ty, idx) → t.ctxRec y j = s.ctxRec y j)
   s.takes m R.WEN_CTX_SEL v → ∀ i ∈ [Instr.contextCommit m v, .contextRead m v],
    (State.won v F.WEN_CTX_SEL_GO = true →
      (ty = 3 ∨ (ty < 2 ∧ 32768 ≤ idx) ∨ (ty = 2 ∧ 4096 ≤ idx) → refused i) ∧
      (ty = 2 → idx < 4096 → ∃ t, exec i s = .next t ∧ t.ctxRec 2 idx = b ∧ done t) ∧
      (ty < 2 → idx < 32768 → s.ctxEn ty idx = true → ∃ t, exec i s = .next t ∧ done t ∧ t.ctxEn ty idx = bit (fieldAt b 8 1) 7 ∧
        t.ctxGet ty idx 8 1 % 128 = s.ctxGet ty idx 8 1 % 128 ∧ (∀ j, j < 32 → j ≠ 8 → t.ctxGet ty idx j 1 = s.ctxGet ty idx j 1)) ∧
      (ty < 2 → idx < 32768 → s.ctxEn ty idx = false →
        let log := fieldAt b 8 1 % (if ty = 0 then 16 else 32)
        let lo := if ty = 0 then 6 else 4
        let hi := if ty = 0 then 15 else 16
        (log < lo ∨ hi < log → refused i) ∧
        (lo ≤ log → log ≤ hi → ∃ t, exec i s = .next t ∧ done t ∧ t.ctxGet ty idx (if ty = 0 then 16 else 12) 4 = 0 ∧
          (∀ j, j < 32 → j / 4 ≠ (if ty = 0 then 4 else 3) → t.ctxGet ty idx j 1 = fieldAt b j 1) ∧
          (ty = 1 → bit (fieldAt b 8 1) 7 = true → t.wen.pass.get (fun _ => false) idx = true)))) ∧
    (State.won v F.WEN_CTX_SEL_GO = false → State.won v F.WEN_CTX_SEL_READ = true → ∃ t, exec i s = .next t ∧ t.wen = s.wen ∧
      (∀ k, k < 8 → t.rd (ownReg m (R.WEN_CTX_DATA k)) = BitVec.ofNat 32 (s.ctxGet ty idx (4 * k) 4)))) ∧
  (∀ page, page < 4096 → s.doorsShut = false →
    let q := bits v.toNat 0 15
    let n := bits v.toNat 16 16
    let own := s.hdState h = 2 ∧ s.slcHd page = h ∧ 1 ≤ s.slcState page ∧ s.slcState page < 4
    let a := s.wakeIsland 28
    let bad := a.inc (R.SLC_CNT_DB page) F.SLC_CNT_DB_DB_BAD 1
    (own → s.ctxSlice 0 q = page → s.ctxEn 0 q = true →
      exec (.sqDoorbell h page v) s = .next
        (if (n + 65536 - s.ctxGet 0 q 18 2) % 65536 ≤ 2 ^ (s.ctxGet 0 q 8 1 % 16) then a.ctxSet 0 q 16 2 n else bad)) ∧
    (own → s.ctxSlice 1 q = page → s.ctxEn 1 q = true →
      exec (.cqDoorbell h page v) s = .next
        (if (s.ctxGet 1 q 12 2 + 65536 - n) % 65536 ≤ s.cqCap q then a.ctxSet 1 q 14 2 n else bad)) ∧
    (own → s.ctxSlice 0 q ≠ page ∨ s.ctxEn 0 q = false → exec (.sqDoorbell h page v) s = .next bad) ∧
    (s.hdState h = 2 → s.slcHd page = h → 4 ≤ s.slcState page →
      exec (.sqDoorbell h page v) s = .next (a.inc (R.SLC_CNT_DB page) F.SLC_CNT_DB_DB_OFF 1)) ∧
    (2 ≤ s.hdState h → s.slcState page = 0 ∨ s.slcHd page ≠ h →
      exec (.sqDoorbell h page v) s = .next (a.inc (R.GLB_HD_STAT h) F.GLB_HD_STAT_DB_FOREIGN 1) ∧
      exec (.cqDoorbell h page v) s = .next (a.inc (R.GLB_HD_STAT h) F.GLB_HD_STAT_DB_FOREIGN 1))) ∧
  (s.live → s.hdState h = 2 → s.wen.apQ.get dNil h = [] → s.wen.pf = [] →
    (∀ a : ApWrite, a.wf = true →
      (s.apFind h a.bar a.off = none → exec (.apertureWrite h a) s = .next (s.apRefuse h a.reqId none)) ∧
      (∀ r bs, s.apFind h a.bar a.off = some r → a.data = bs.map some → s.apMustWait h (.wr r a.off a.tc bs) = false →
        let e := s.apEnt h r
        a.off + bs.length ≤ e.start + e.size →
        (s.slcState e.slice = 1 → s.reachable e.dev = true → ∃ t x, exec (.apertureWrite h a) s = .next t ∧
          s.msg s.freeSlot = none ∧ t.msg s.freeSlot = some x ∧ x.why = .apWrite h r a.off e.ack ∧ x.opc = 1 ∧ x.len = bs.length ∧
          x.tc = a.tc ∧ x.rwin = e.dev * 65536 + e.win + e.gen * 2 ^ 24 ∧ x.rkey = e.key ∧ x.roff = e.woff + (a.off - e.start) ∧
          x.slice = e.slice ∧ x.data.get dNil 0 = bs ∧ x.mcrc = some (crc32c bs) ∧
          t = { s with free := t.free, wen := t.wen, tel := t.tel }) ∧
        (s.slcState e.slice ≠ 1 → ∃ t, exec (.apertureWrite h a) s = .next t ∧ t.wen.msgs = s.wen.msgs ∧
          t.get (R.WEN_AP_ERR h) F.WEN_AP_ERR_COUNT = min 8191 (s.get (R.WEN_AP_ERR h) F.WEN_AP_ERR_COUNT + 1) ∧
          (s.on (R.WEN_AP_ERR h) F.WEN_AP_ERR_VALID = false → t.get (R.WEN_AP_ERR h) F.WEN_AP_ERR_STATUS = 11 ∧
            t.get (R.WEN_AP_ERR h) F.WEN_AP_ERR_RANGE = r % 256 ∧ t.get (R.WEN_AP_ERR h) F.WEN_AP_ERR_VALID = 1 ∧
            t.rd (R.WEN_AP_ADDR_LO h) = BitVec.ofNat 32 a.off))) ∧
      (∀ r, s.apFind h a.bar a.off = some r → a.off + a.data.length ≤ (s.apEnt h r).start + (s.apEnt h r).size →
        exec (.apertureWrite h a) s = .next (forAll (runsOf a.off a.data) (fun x u => u.apSubmit h (.wr r x.1 a.tc x.2)) s))) ∧
    (∀ a : ApRead, a.wf = true →
      (s.apFind h a.bar a.off = none → exec (.apertureRead h a) s = .next (s.apRefuse h a.reqId (some a.tag))) ∧
      (∀ r, s.apFind h a.bar a.off = some r → a.off + a.len ≤ (s.apEnt h r).start + (s.apEnt h r).size →
        let q : ApReq := .rd r a.off a.len a.tc a.reqId a.tag
        let e := s.apEnt h r
        (s.apMustWait h q = true → ∃ t, exec (.apertureRead h a) s = .next t ∧ t.wen.apQ.get dNil h = [(s.wen.msgNo, q)] ∧ t.wen.msgs = s.wen.msgs ∧
          t.out = s.out) ∧
        (s.apMustWait h q = false → e.ack = false → s.slcState e.slice ≠ 1 →
          exec (.apertureRead h a) s = .next (s.emit (.completion (s.reqVport h a.reqId).1 a.reqId a.tag .ca []))) ∧
        (s.apMustWait h q = false → e.ack = false → a.len = 0 → s.slcState e.slice = 1 →
          exec (.apertureRead h a) s = .next (s.emit (.completion (s.reqVport h a.reqId).1 a.reqId a.tag .sc []))) ∧
        (s.apMustWait h q = false → e.ack = false → e.pref = false → 0 < a.len → s.slcState e.slice = 1 → s.reachable e.dev = true →
          ∃ t x, exec (.apertureRead h a) s = .next t ∧ t.msg s.freeSlot = some x ∧ x.why = .apRead h r a.off a.reqId a.tag ∧ x.opc = 3 ∧
            x.len = a.len ∧ x.roff = e.woff + (a.off - e.start) ∧ x.rkey = e.key ∧ t.out = s.out)))) ∧
  (s.live →
    (∀ (a : ApRead) r x d, a.wf = true → s.hdState h = 2 → s.wen.apQ.get dNil h = [] → s.wen.pf = [x] →
      s.apFind h a.bar a.off = some r → (s.apEnt h r).pref = true → (s.apEnt h r).ack = false →
      s.apMustWait h (.rd r a.off a.len a.tc a.reqId a.tag) = false → 0 < a.len →
      x.h = h → x.range = r → x.chunk = (a.off - (s.apEnt h r).start) / 4096 → x.data = some d →
      (a.off - (s.apEnt h r).start) % 4096 + a.len ≤ 4096 → a.off + a.len ≤ (s.apEnt h r).start + (s.apEnt h r).size →
      s.now ≤ x.at_ + 1000 * max 1 (s.get R.WEN_AP_CFG F.WEN_AP_CFG_PF_AGE) → s.slcState (s.apEnt h r).slice = 1 →
      ∃ t, exec (.apertureRead h a) s = .next t ∧ t.out
        = .completion (s.reqVport h a.reqId).1 a.reqId a.tag .sc ((d.drop ((a.off - (s.apEnt h r).start) % 4096)).take a.len) :: s.out) ∧
    (s.wen.apQ.get dNil h = [] → exec (.apertureReadRelease h) s = .next s) ∧
    (s.apBlocked h = true → exec (.apertureReadRelease h) s = .next s) ∧
    (∀ n q, s.wen.apQ.get dNil h = [(n, q)] → s.apBlocked h = false →
      (s.apAckHeld h n [] q = false →
        exec (.apertureReadRelease h) s = .next ((s.apGo h q).setWen fun w => { w with apQ := w.apQ.put dNil h [] })) ∧
      (s.apAckHeld h n [] q = true → ∃ t, exec (.apertureReadRelease h) s = .next t ∧ t.wen.apQ.get dNil h = [(n, q)] ∧
        t = { s with wen := { s.wen with apQ := t.wen.apQ } })) ∧
    (∀ r c x, r < 256 → s.wen.pf = [x] → x.h = h → x.range = r → x.chunk = c → x.data.isSome = true →
      exec (.prefetchExpiry h r c) s = .next (let t := s.setWen fun w => { w with pf := [] }
        if x.used then t else t.inc (R.WEN_AP_CNT h) F.WEN_AP_CNT_PF_DISC 1)) ∧
    (∀ r c, r < 256 → s.wen.pf = [] → exec (.prefetchExpiry h r c) s = .next s) ∧
    (∀ b, h < b → b < 16 →
      let l := s.msgList.filter fun x => s.yields h b x.1 x.2
      let waiting := s.msgList.any fun x => s.yields b h x.1 x.2
      (l = [] ∨ waiting = false → exec (.apertureYield h b) s = .next s) ∧
      (∀ k x, l = [(k, x)] → waiting = true → ∃ t, exec (.apertureYield h b) s = .next t ∧
        t.msg k = some { x with withdrawn := true, next := 0, pk := [] } ∧ (∀ j, j ≠ k → t.msg j = s.msg j) ∧
        (∀ sl y, y ∈ t.wen.shq.get dNil sl → ∀ z, y.msg = some z → z.1 ≠ k) ∧
        (∀ a, a ≠ R.GLB_HD_CNT2 h → t.rd a = s.rd a) ∧
        t.get (R.GLB_HD_CNT2 h) F.GLB_HD_CNT2_YIELDS = min (2 ^ F.GLB_HD_CNT2_YIELDS.w - 1) (s.get (R.GLB_HD_CNT2 h) F.GLB_HD_CNT2_YIELDS + 1)) ∧
      (let held := s.msgList.filter fun x => x.2.withdrawn && State.apOf x.2 == some h && s.apTo x.2 == some b
       let again := fun (x : Nat × Msg) (u : State) => if 256 ≤ u.apOut h then u else
         (u.setMsg x.1 (some { x.2 with withdrawn := false })).sendNext x.1
       (waiting = true → exec (.apertureReissue h b) s = .next s) ∧
       (waiting = false → held = [] → exec (.apertureReissue h b) s = .next (s.apDrain h)) ∧
       (∀ x, waiting = false → held = [x] → exec (.apertureReissue h b) s = .next ((again x s).apDrain h)) ∧
       (∀ x y, waiting = false → held = [x, y] → y.2.no < x.2.no →
         exec (.apertureReissue h b) s = .next ((again x (again y s)).apDrain h))))) ∧
  (∀ slot x status loc dev path, s.msg slot = some x → State.apOf x = some h → x.flr = true →
    let t := s.endMsg slot status loc dev path false
    t.msg slot = none ∧ t.out = s.out ∧ t.get (R.GLB_HD_CNT2 h) F.GLB_HD_CNT2_FLR_DISC
      = if dev = 255 then s.get (R.GLB_HD_CNT2 h) F.GLB_HD_CNT2_FLR_DISC
        else min (2 ^ F.GLB_HD_CNT2_FLR_DISC.w - 1) (s.get (R.GLB_HD_CNT2 h) F.GLB_HD_CNT2_FLR_DISC + 1))

/-- R410 to R417, R421, R422: the life of a slice: the checks of a command in their order, its transition, and the ends of
QUIESCING, STOPPING and RESETTING.
Clauses on points the spec leaves open follow the model's reading: notes/assumptions/68.md, notes/assumptions/128.md. -/
def Obligations.SliceLifecycle : Prop := ∀ (s : State) (m k : Nat) (f : Bool), s.Tidy → masterOk m = true → k < 4096 →
  let st := s.slcState k
  let said := fun (e : Nat) => s.slcSet k F.SLC_STATE_ERR e
  let busy := s.on (R.SLC_STATE k) F.SLC_STATE_BUSY
  let ok := fun (op : Nat) (fc : Bool) => s.takes m (R.SLC_CMD k) (State.slcWord op fc) ∧ busy = false ∧ s.slcMay m k op = true
  let only := fun (t : State) => (∀ a, a ≠ R.SLC_STATE k → a ≠ R.SLC_ID k → t.rd a = s.rd a) ∧ t = { s with regs := t.regs, wen := t.wen }
  let quotas := fun (t : State) => t.quotaOf 0 k = clampTo 1 65536 (s.get (R.SLC_Q_SRC k) F.SLC_Q_SRC_QUOTA) ∧
    t.quotaOf 1 k = clampTo 0 65536 (s.get (R.SLC_Q_INB k) F.SLC_Q_INB_QUOTA) ∧
    t.quotaOf 2 k = clampTo 17 524288 (s.get (R.SLC_Q_CELL k) F.SLC_Q_CELL_QUOTA) ∧
    (∀ j i, j ≠ k → i < 4 → t.quotaOf i j = s.quotaOf i j)
  let began := fun (op : Nat) => ({ op := op, arg := s.rd (R.SLC_ARG k) } : Slc)
  let resetting := fun (t : State) (x : Slc) => t.slcState k = 6 ∧ t.on (R.SLC_STATE k) F.SLC_STATE_BUSY = true ∧
    t.get (R.SLC_STATE k) F.SLC_STATE_RESETS = min 255 (s.get (R.SLC_STATE k) F.SLC_STATE_RESETS + 1) ∧
    t.get (R.SLC_STATE k) F.SLC_STATE_CAUSE = 0 ∧ t.slc k = x ∧
    (s.wen.revoking.length + (s.slcWindows k).length ≤ 256 → ∀ w ∈ s.slcWindows k, t.winState w = 2) ∧
    (∀ ty i, ty < 2 → i < 32768 → s.ctxSlice ty i = k → t.ctxEn ty i = false) ∧ (∀ e ∈ t.wen.inb, e.slice = k → e.st = 0) ∧
    (t.shaper k).tok = Int.ofNat (mantExp (s.shaper k).burst * 8000) ∧ (t.policer k).tok = Int.ofNat (mantExp (s.policer k).burst * 8000) ∧
    t.rd (R.SLC_CNT_DB k) = 0 ∧ t.rd (R.SLC_CNT_POL k) = 0 ∧ t.on (R.SLC_NCQ k) F.SLC_NCQ_EN = false ∧
    (∀ i, i < 4 → t.wen.irqs.contains (k, i) = false) ∧ ((∀ i, i < 4 → s.wen.irqs.contains (k, i) = false) → t.out = s.out) ∧
    (∀ i, i < 4 → s.wen.irqs = [(k, i)] → s.dmfOk (s.slcHd k) = true → t.out
      = .hostWrite (s.slcHd k) (s.get (R.SLC_IRQ_ADDR_HI k i) F.SLC_IRQ_ADDR_HI_ADDR * 2 ^ 32
        + s.get (R.SLC_IRQ_ADDR_LO k i) F.SLC_IRQ_ADDR_LO_ADDR * 4) (leBytes 4 (s.rd (R.SLC_IRQ_DATA k i)).toNat) none :: s.out)
  let stopping := fun (t : State) (op : Nat) => t.slcState k = 4 ∧ t.on (R.SLC_STATE k) F.SLC_STATE_BUSY = true ∧
    t.get (R.SLC_STATE k) F.SLC_STATE_CAUSE = 0 ∧ t.slc k = began op ∧ t.wen.shq.get dNil k = [] ∧
    (∀ x ∈ t.wen.wrs, x.slice ≠ k) ∧ (∀ x ∈ t.wen.rds, x.slice ≠ k) ∧ (∀ e ∈ t.wen.inb, e.slice = k → e.st ≠ 0) ∧
    (∀ slot x sq, s.msgList = [(slot, x)] → s.msg slot = some x → x.slice = k → x.flr = false → x.why = .wqe sq → t.msg slot = none ∧
      t.wen.held.get dNil x.cq = s.wen.held.get dNil x.cq ++ [State.msgRec x sq 11 (x.path % 4) 255])
  let domains := (∀ x ∈ s.msgList, match x.2.why with
    | .wqe _ => True
    | .apWrite h _ _ _ => h < 16
    | .apRead h _ _ _ _ => h < 16
    | .prefetch h _ _ => h < 16) ∧ ∀ e ∈ s.wen.apQ, e.1 < 16
  let reading := s.doms.any fun e => e.2.reads.any fun r => r.slice == some k || r.also == some k
  (∀ c ∈ [(Instr.sliceCreate m k, 1, false), (.sliceQuiesce m k, 2, false), (.sliceResume m k, 3, false), (.sliceDisable m k f, 4, f),
      (.sliceReset m k f, 5, f), (.sliceReassign m k, 6, false), (.sliceResize m k, 7, false), (.sliceDestroy m k, 8, false)],
    s.takes m (R.SLC_CMD k) (State.slcWord c.2.1 c.2.2) →
    (busy = true → exec c.1 s = .next (said 2)) ∧
    (busy = false → s.slcMay m k c.2.1 = false → exec c.1 s = .next (said 3)) ∧
    (busy = false → s.slcMay m k c.2.1 = true → State.slcAllows st c.2.1 c.2.2 = false → exec c.1 s = .next (said 1)) ∧
    (busy = false → s.slcMay m k c.2.1 = true → State.slcAllows st c.2.1 c.2.2 = true → (c.2.1 = 1 ∨ c.2.1 = 6) → s.slcArgOk k = false →
      exec c.1 s = .next (said 4))) ∧
  (ok 1 false → st = 0 → s.slcArgOk k = true → ∃ t, exec (.sliceCreate m k) s = .next t ∧
    t.slcState k = (if s.latched 1 k = true then 5 else 1) ∧
    (s.latched 1 k = true → t.get (R.SLC_STATE k) F.SLC_STATE_CAUSE = 2) ∧
    t.get (R.SLC_STATE k) F.SLC_STATE_ERR = 0 ∧ t.rd (R.SLC_ID k) = s.rd (R.SLC_ARG k) ∧ quotas t ∧ only t) ∧
  (ok 2 false → st = 1 → exec (.sliceQuiesce m k) s = .next ((said 0).slcSet k F.SLC_STATE_STATE 2)) ∧
  (ok 3 false → st = 3 → exec (.sliceResume m k) s = .next ((said 0).slcSet k F.SLC_STATE_STATE 1)) ∧
  (ok 4 f → st = 3 → exec (.sliceDisable m k f) s = .next ((said 0).slcSet k F.SLC_STATE_STATE 5)) ∧
  (ok 4 true → st = 1 ∨ st = 2 → domains → ∃ t, exec (.sliceDisable m k true) s = .next t ∧ stopping t 4) ∧
  (ok 5 f → st = 3 ∨ st = 5 → ∃ t, exec (.sliceReset m k f) s = .next t ∧ resetting t (began 5)) ∧
  (ok 5 true → st = 1 ∨ st = 2 → domains → ∃ t, exec (.sliceReset m k true) s = .next t ∧ stopping t 5) ∧
  (ok 6 false → st = 3 ∨ st = 5 → s.slcArgOk k = true → ∃ t, exec (.sliceReassign m k) s = .next t ∧ resetting t (began 6)) ∧
  (ok 7 false → st ≠ 0 → ∃ t, exec (.sliceResize m k) s = .next t ∧ t.slcState k = st ∧ quotas t ∧ only t ∧
    t.rd (R.SLC_ID k) = s.rd (R.SLC_ID k)) ∧
  (ok 8 false → st = 3 ∨ st = 5 → ∃ t, exec (.sliceDestroy m k) s = .next t ∧ resetting t (began 8)) ∧
  (exec (.sliceQuiesced k) s = .next
    (if st = 2 ∧ s.useOf 0 k = 0 ∧ (∀ e ∈ s.wen.inb, e.slice = k → e.st ≠ 0) ∧ (∀ x ∈ s.msgList, x.2.slice = k → x.2.withdrawn = false ∧ State.apHolds x.2 = false)
     then s.slcSet k F.SLC_STATE_STATE 3 else s)) ∧
  (st ≠ 4 ∨ reading = true → exec (.sliceStoppingDone k) s = .next s) ∧
  (st = 4 → reading = false → s.wen.held = [] →
    ((s.slc k).contained = true ∨ (s.slc k).op ≠ 5 ∧ (s.slc k).reset = false → exec (.sliceStoppingDone k) s
      = .next (((s.slcSet k F.SLC_STATE_STATE 5).slcSet k F.SLC_STATE_BUSY 0).setSlc k fun _ => {})) ∧
    (∀ a, s.slc k = { op := 5, arg := a } → s.get (R.SLC_STATE k) F.SLC_STATE_CAUSE = 0 →
      ∃ t, exec (.sliceStoppingDone k) s = .next t ∧ resetting t { op := 5, arg := a })) ∧
  (let waits := s.wen.revoking.any (fun x => x.2.2 == some k) || s.wen.revWait.any (fun x => x.2 == k)
   (st ≠ 6 ∨ waits = true → exec (.sliceResetDone k) s = .next s) ∧
   (st = 6 → waits = false → ∃ t, exec (.sliceResetDone k) s = .next t ∧ t.slc k = {} ∧ t.on (R.SLC_STATE k) F.SLC_STATE_BUSY = false ∧
     ((s.slc k).contained = true → t.slcState k = 5) ∧
     ((s.slc k).contained = false → (s.slc k).op ≠ 8 → t.slcState k = 3) ∧
     ((s.slc k).op = 6 → t.rd (R.SLC_ID k) = (s.slc k).arg) ∧
     ((s.slc k).contained = false → (s.slc k).op = 8 → t.slcState k = 0 ∧
       (∀ a fl, fl ∈ fieldsAt a → fl.rk ≠ .none → R.SLC_CMD k ≤ a → a < R.SLC_CMD k + 0x100 → a ≠ R.SLC_CNT_IRQ k →
         t.get a fl = fldOf (resetWord a) fl) ∧
       t.get (R.SLC_CNT_IRQ k) F.SLC_CNT_IRQ_CPL_LOST = s.get (R.SLC_CNT_IRQ k) F.SLC_CNT_IRQ_CPL_LOST) ∧
     (∀ a, a < R.SLC_CMD k ∨ R.SLC_CMD k + 0x100 ≤ a → t.rd a = s.rd a) ∧ t = { s with regs := t.regs, slcs := t.slcs }))

/-- R425 to R427, R429 to R431: an interrupt entry fires, is masked and unmasked; staged shaper and policer values are committed
together. -/
def Obligations.InterruptsAndRates : Prop := ∀ (s : State) (m k i : Nat) (v : Word), masterOk m = true → k < 4096 → i < 4 →
  let hd := s.slcHd k
  let ctl := R.SLC_IRQ_CTL k i
  let sent := Output.hostWrite hd (s.get (R.SLC_IRQ_ADDR_HI k i) F.SLC_IRQ_ADDR_HI_ADDR * 2 ^ 32
    + s.get (R.SLC_IRQ_ADDR_LO k i) F.SLC_IRQ_ADDR_LO_ADDR * 4) (leBytes 4 (s.rd (R.SLC_IRQ_DATA k i)).toNat) none
  (s.live → s.wen.irqs.contains (k, i) = true →
    (s.dmfOk hd = true → ∃ t, exec (.irqWrite k i) s = .next t ∧ t.out = sent :: s.out ∧ t.wen.irqs.contains (k, i) = false ∧
      t = { s with out := t.out, wen := t.wen }) ∧
    (s.dmfOk hd = false → ∃ t, exec (.irqWrite k i) s = .next t ∧ t.out = s.out ∧ t.on ctl F.SLC_IRQ_CTL_PEND = true ∧
      t.wen.irqs.contains (k, i) = false)) ∧
  (s.wen.irqs.contains (k, i) = false → exec (.irqWrite k i) s = .next s) ∧
  (s.takes m ctl v →
    (fldOf v F.SLC_IRQ_CTL_MASK = 0 → s.on ctl F.SLC_IRQ_CTL_PEND = true → s.dmfOk hd = true → 1 ≤ s.slcState k → s.slcState k ≤ 4 →
      ∃ t, exec (.irqUnmask m k i v) s = .next t ∧ t.out = sent :: s.out ∧ t.on ctl F.SLC_IRQ_CTL_PEND = false ∧
        t.on ctl F.SLC_IRQ_CTL_MASK = false ∧ (∀ a, a ≠ ctl → t.rd a = s.rd a) ∧ t = { s with regs := t.regs, out := t.out }) ∧
    (fldOf v F.SLC_IRQ_CTL_MASK = 1 ∨ s.on ctl F.SLC_IRQ_CTL_PEND = false → ∃ t, exec (.irqUnmask m k i v) s = .next t ∧
      t.get ctl F.SLC_IRQ_CTL_MASK = fldOf v F.SLC_IRQ_CTL_MASK ∧ t.get ctl F.SLC_IRQ_CTL_PEND = s.get ctl F.SLC_IRQ_CTL_PEND ∧
      (∀ a, a ≠ ctl → t.rd a = s.rd a) ∧ t = { s with regs := t.regs })) ∧
  (let bucket := fun (rate : Nat) => ({
     rate := s.get rate F.QOS_SHP_RATE_RATE, ovh := s.get rate F.QOS_SHP_RATE_OVH, burst := fldOf v F.QOS_SHP_CFG_BURST
     en := decide (fldOf v F.QOS_SHP_CFG_EN ≠ 0)
     tok := if fldOf v F.QOS_SHP_CFG_FILL ≠ 0 then Int.ofNat (mantExp (fldOf v F.QOS_SHP_CFG_BURST) * 8000) else 0
     last := s.now } : Bucket)
   (s.takes m (R.QOS_SHP_CFG k) v → fldOf v F.QOS_SHP_CFG_GO = 1 → ∃ t, exec (.shaperCommit m k v) s = .next t ∧
     t.shaper k = bucket (R.QOS_SHP_RATE k) ∧ t.policer k = s.policer k ∧ (∀ j, j ≠ k → t.shaper j = s.shaper j) ∧
     (∀ a, a ≠ R.QOS_SHP_CFG k → a ≠ R.QOS_SHP_TOK k → a ≠ R.QOS_POL_TOK k → t.rd a = s.rd a) ∧
     t = { s with regs := t.regs, wen := t.wen }) ∧
   (s.takes m (R.QOS_POL_CFG k) v → fldOf v F.QOS_POL_CFG_GO = 1 → ∃ t, exec (.policerCommit m k v) s = .next t ∧
     t.policer k = bucket (R.QOS_POL_RATE k) ∧ t.shaper k = s.shaper k ∧ (∀ j, j ≠ k → t.policer j = s.policer j) ∧
     (∀ a, a ≠ R.QOS_POL_CFG k → a ≠ R.QOS_SHP_TOK k → a ≠ R.QOS_POL_TOK k → t.rd a = s.rd a) ∧
     t = { s with regs := t.regs, wen := t.wen }) ∧
   (s.takes m (R.QOS_SHP_CFG k) v → fldOf v F.QOS_SHP_CFG_GO = 0 → exec (.shaperCommit m k v) s = .next (s.store m (R.QOS_SHP_CFG k) v)) ∧
   (s.takes m (R.QOS_POL_CFG k) v → fldOf v F.QOS_POL_CFG_GO = 0 → exec (.policerCommit m k v) s = .next (s.store m (R.QOS_POL_CFG k) v))) ∧
  (let b := (s.policer k).grown s.now
   (b.en = false → s.police k m = (true, s)) ∧
   (b.en = true → Int.ofNat ((m + b.ovh) * 8000) ≤ b.tok → (s.police k m).1 = true ∧
     ((s.police k m).2.policer k).tok = b.tok - Int.ofNat ((m + b.ovh) * 8000)) ∧
   (b.en = true → b.tok < Int.ofNat ((m + b.ovh) * 8000) → (s.police k m).1 = false ∧ (s.police k m).2.policer k = b ∧
     (s.police k m).2.get (R.SLC_CNT_POL k) F.SLC_CNT_POL_POL_DROP
       = min (2 ^ 32 - 1) (s.get (R.SLC_CNT_POL k) F.SLC_CNT_POL_POL_DROP + 1)))

/-- R457 to R473: the owl: a fault record, a class S timer and its acknowledgement, containment and recovery, second faults and
escalation, release and latching, its own parity, and the entry to the safe state.
Clauses on points the spec leaves open follow the model's reading: notes/assumptions/33.md, notes/assumptions/37.md,
notes/assumptions/60.md. An entry into Night that has not passed the digests ends (R513). -/
def Obligations.FaultHandling : Prop := ∀ (s : State) (f : FaultMsg) (m : Nat) (v : Word), f.wf = true → masterOk m = true →
  let d := faultDom f
  let heard := { s with faults := s.faults.erase f, owl := { s.owl with done := s.owl.done.erase f } }
  let isSafe := s.on R.FLT_STAT F.FLT_STAT_SAFE
  let slots := (s.owl.doms.filter fun e => e.2.st == 1).length
  let classC := kindC.contains f.kind
  let free := isSafe = false ∧ d.1 ≠ 0 ∧ (s.domFirst 2 d).isSome = false
  let safeNow := fun (t : State) (cause : Nat) => t.mode = 7 ∧ t.get R.GLB_MODE F.GLB_MODE_PREV = s.mode ∧ t.get R.MGT_FAB_ID F.MGT_FAB_ID_ROLE = 3 ∧
    t.on R.FLT_STAT F.FLT_STAT_SAFE = true ∧ t.get R.FLT_STAT F.FLT_STAT_SAFE_CAUSE = cause ∧ t.faultN = true ∧
    (∀ e, e < 16 → (t.den e).jobs = []) ∧ Output.safePins ∈ t.out ∧ Output.ibi 0xAE ∈ t.out ∧
    (∀ P, P < 128 → s.portUp P = true → Output.linkDown P ∈ t.out) ∧
    (∀ P, P < 128 → s.isPcie P = true → t.get (R.GRP_PCIE_STAT (P / 8) (P % 8)) F.GRP_PCIE_STAT_UP = 0) ∧
    (s.on R.FLT_SAFE F.FLT_SAFE_SLOT_OFF = false → ∀ sc, sc < 16 → t.sst sc F.SLOT_STAT_PERST = 1 ∧ t.slotState sc = s.slotState sc) ∧
    t.sett = s.sett ∧ t.cmem = s.cmem
  let entering := s.pwr.stage = .drain ∨ s.pwr.stage = .digest
  let stays := fun (t : State) => ¬ entering → t.pwr = s.pwr ∧ t.rd R.PWR_NIGHT_STAT = s.rd R.PWR_NIGHT_STAT
  let failed := fun (t : State) => (entering → t.pwr = { s.pwr with stage := .awake } ∧
    t.get R.PWR_NIGHT_STAT F.PWR_NIGHT_STAT_REF = 4) ∧ stays t
  let retrains := fun (e : Nat × Nat) => e.1 = 3 ∧ bit (s.get R.GLB_GRP_RESET F.GLB_GRP_RESET_GRP) e.2 = false ∧ s.mode ≠ 0 ∧ s.mode ≠ 7
  let now := fun (g : FaultMsg → Instr) (t : State) => exec (g f) s = .next t
  (isSafe = true → now .faultMessage (heard.record f d 6)) ∧
  (isSafe = false → d.1 = 0 → now .faultMessage (heard.record f d 5)) ∧
  (isSafe = false → d.1 ≠ 0 → (s.domFirst 2 d).isSome = true → now .faultMessage
    (State.record { heard with owl := { heard.owl with
      owed := s.owl.owed ++ (if classC = true ∧ s.owl.done.contains f = false then [f] else []) } } f d 3)) ∧
  (∀ r, free → s.domFirst 1 d = some r → now .faultMessage (State.escalate 4 r s.owl.seq 1 (heard.record f d 4))) ∧
  (free → s.domFirst 1 d = none → classC = false →
    let same := s.owl.timers.any fun t => t.source == f.source && t.kind == f.kind
    let quiet := s.on (R.FLT_KIND f.kind) F.FLT_KIND_NOESC
    (same = true → now .faultMessage (heard.record f d 2)) ∧
    (same = false → quiet = true → now .faultMessage (heard.record f d 3)) ∧
    (same = false → quiet = false → 64 ≤ s.owl.timers.length → now .faultMessage (State.escalate 4 d s.owl.seq 2 (heard.record f d 4))) ∧
    (same = false → quiet = false → s.owl.timers.length < 64 → ∃ t, now .faultMessage t ∧
      t.owl.timers = s.owl.timers ++ [⟨s.owl.seq, f.source, f.kind, d.1, d.2⟩] ∧ t.owl.doms = s.owl.doms ∧
      t.owl.seq = (s.owl.seq + 1) % 65536 ∧ t.get R.FLT_STAT F.FLT_STAT_OPEN_S = s.owl.timers.length + 1 ∧
      (∀ a, a ≠ R.FLT_STAT → a ≠ R.FLT_RING → a ≠ R.FLT_CNT → a ≠ R.PWR_NIGHT_STAT → t.rd a = s.rd a) ∧ failed t ∧
      t = { s with faults := t.faults, regs := t.regs, owl := t.owl, tel := t.tel, out := t.out, pwr := t.pwr })) ∧
  (free → s.domFirst 1 d = none → classC = true →
    (d.1 ≠ 6 → slots < 64 → ∃ t, now .faultMessage t ∧ (t.domSt d) = { s.domSt d with st := 1 } ∧ t.owl.seq = (s.owl.seq + 1) % 65536 ∧
      t.owl.owed = (if s.owl.done.contains f then s.owl.owed else s.owl.owed ++ [f]) ∧ t.owl.done = s.owl.done.erase f ∧
      (∀ x ∈ t.owl.timers, x ∈ s.owl.timers ∧ (s.ancestry (x.scope, x.idx)).contains d = false) ∧
      (∀ e, e.2 < 4096 → e ≠ d → t.domSt e
        = if (s.domSt e).st = 1 ∧ (s.ancestry e).contains d = true then { s.domSt e with st := 0 } else s.domSt e) ∧
      (∀ a, a ≠ R.FLT_STAT → a ≠ R.FLT_RING → a ≠ R.FLT_CNT → a ≠ R.PWR_NIGHT_STAT → t.rd a = s.rd a) ∧ failed t ∧
      t = { s with faults := t.faults, regs := t.regs, owl := t.owl, tel := t.tel, out := t.out, pwr := t.pwr }) ∧
    (d.1 ≠ 6 → 64 ≤ slots → ∃ t, now .faultMessage t ∧ safeNow t 3) ∧
    (d.1 = 6 → ∃ t, now .faultMessage t ∧ safeNow t 1)) ∧
  (isSafe = false → d.1 ≠ 0 → classC = true →
    (d.1 = 6 → ∃ t, now .classCContainment t ∧ safeNow t 1) ∧
    (d.1 ≠ 6 →
      let u := s.jobParity f
      (u.owl.owed.contains f = true →
        now .classCContainment (State.containAct { u with owl := { u.owl with owed := u.owl.owed.erase f } } d)) ∧
      (u.owl.owed.contains f = false → u.domFirst 1 d = none →
        now .classCContainment (State.containAct { u with owl := { u.owl with done := u.owl.done ++ [f] } } d)) ∧
      (u.owl.owed.contains f = false → (u.domFirst 1 d).isSome = true → now .classCContainment u))) ∧
  (f.kind ≠ 0x21 → s.jobParity f = s) ∧
  (∀ x, f.kind = 0x21 → s.msg f.detail = some x → f.slice = some x.slice → s.jobParity f = s.endMsg f.detail 10 false 255 x.path false) ∧
  (∀ e, f.kind = 0x21 → (∀ x, s.msg f.detail = some x → f.slice ≠ some x.slice) →
    (s.wen.inb.filter fun e => f.slice == some e.slice)[f.detail]? = some e → s.jobParity f = s.inbClose e 2 10) ∧
  (classC = false ∨ d.1 = 0 ∨ isSafe = true → now .classCContainment s) ∧
  (∀ (u : State) seq reason e, u.on R.FLT_STAT F.FLT_STAT_SAFE = false →
    (u.parent e = none → u = s → ∀ n, safeNow (State.escalate (n + 1) e seq reason u) 2) ∧
    (∀ p n, u.parent e = some p → (u.domFirst 2 p).isSome = true →
      State.escalate (n + 1) e seq reason u = u.record (State.escMsg seq reason) p 3) ∧
    (∀ p r n, u.parent e = some p → (u.domFirst 2 p).isSome = false → u.domFirst 1 p = some r →
      State.escalate (n + 1) e seq reason u = State.escalate n r seq reason u) ∧
    (∀ p n, u.parent e = some p → (u.domFirst 2 p).isSome = false → u.domFirst 1 p = none →
      State.escalate (n + 1) e seq reason u = u.containDom (State.escMsg seq reason) p true)) ∧
  (let b := heard.recordBytes f d 5
   let wr := s.get R.FLT_RING F.FLT_RING_WR
   let full := (wr + 512 - s.get R.FLT_RING F.FLT_RING_RD) % 512 = 256
   isSafe = false →
   (heard.record f d 5).owl.seq = (s.owl.seq + 1) % 65536 ∧
   (s.on (R.FLT_KIND f.kind) F.FLT_KIND_MASK = false → ¬ full →
     bytesAt zeroByte (heard.record f d 5).owl.ring (wr % 256 * 32) 32 = b ∧
     (heard.record f d 5).get R.FLT_RING F.FLT_RING_WR = (wr + 1) % 512 ∧ (heard.record f d 5).out = .cpIrq 0 0 :: s.out) ∧
   (s.on (R.FLT_KIND f.kind) F.FLT_KIND_MASK = false → full → (heard.record f d 5).owl.ring = s.owl.ring ∧
     (heard.record f d 5).get R.FLT_CNT F.FLT_CNT_REC_OVF = min 65535 (s.get R.FLT_CNT F.FLT_CNT_REC_OVF + 1)) ∧
   (s.on (R.FLT_KIND f.kind) F.FLT_KIND_MASK = true → (heard.record f d 5).owl.ring = s.owl.ring ∧ (heard.record f d 5).regs = s.regs)) ∧
  (∀ seq, seq < 65536 → isSafe = false →
    (s.owl.timers.find? (fun t => t.seq == seq) = none → exec (.faultTimerExpiry seq) s = .next s) ∧
    (∀ x, s.owl.timers.find? (fun t => t.seq == seq) = some x → exec (.faultTimerExpiry seq) s
      = .next (State.escalate 4 (x.scope, x.idx) seq 0
          (State.owlStat { s with owl := { s.owl with timers := s.owl.timers.filter fun y => y.seq != seq } })))) ∧
  (s.takes m R.FLT_ACK v →
    let seq := State.wfld v F.FLT_ACK_SEQ
    (s.owl.timers.any (fun t => t.seq == seq) = true → exec (.faultAck m v) s
      = .next (State.owlStat { s with owl := { s.owl with timers := s.owl.timers.filter fun y => y.seq != seq } })) ∧
    (s.owl.timers.any (fun t => t.seq == seq) = false → exec (.faultAck m v) s = .next (s.inc R.FLT_CNT F.FLT_CNT_ACK_BAD 1))) ∧
  (∀ sp idx, idx < 4096 →
    let e := (scopeNo sp, idx)
    let n := min 255 ((s.domSt e).rcnt + 1)
    let lim := max 1 (s.get R.FLT_CFG2 F.FLT_CFG2_REC_LIM)
    ((s.domSt e).st ≠ 1 → exec (.quietPeriodEnd sp idx) s = .next s) ∧
    ((s.domSt e).st = 1 → isSafe = false → n < lim → retrains e →
      exec (.quietPeriodEnd sp idx) s = .next (((s.setDomSt e fun _ => ⟨0, n⟩).owlStat).groupRelease idx)) ∧
    ((s.domSt e).st = 1 → isSafe = false → n < lim → ¬ retrains e → ∃ t, exec (.quietPeriodEnd sp idx) s = .next t ∧ t.domSt e = ⟨0, n⟩ ∧
      (sp ≠ .slice → stays t ∧ t = { s with regs := t.regs, owl := t.owl, pwr := t.pwr }) ∧
      (sp = .slice → s.slcState idx = 5 ∨ s.slcState idx = 3 → t.slcState idx = 6 ∧ t.get (R.SLC_STATE idx) F.SLC_STATE_CAUSE = 2)) ∧
    ((s.domSt e).st = 1 → isSafe = false → lim ≤ n → ∃ t, exec (.quietPeriodEnd sp idx) s = .next t ∧ t.domSt e = ⟨2, n⟩ ∧
      stays t ∧ t = { s with regs := t.regs, owl := t.owl, pwr := t.pwr })) ∧
  (s.takes m R.FLT_DOM_SEL v →
    let e := (fldOf v F.FLT_DOM_SEL_SCOPE, fldOf v F.FLT_DOM_SEL_INDEX)
    let clear := State.won v F.FLT_DOM_SEL_CLEAR && decide (1 ≤ e.1) && decide (e.1 ≤ 5) && (s.domSt e).st == 2
    (clear = true → retrains e → exec (.domainClear m v) s
      = .next (((s.store m R.FLT_DOM_SEL v).setDomSt e fun _ => ⟨0, 0⟩).groupRelease e.2)) ∧
    (clear = true → ¬ retrains e → ∃ t, exec (.domainClear m v) s = .next t ∧ t.domSt e = ⟨0, 0⟩ ∧ (e.1 ≠ 1 → t = { s with regs := t.regs, owl := t.owl })) ∧
    (clear = false → exec (.domainClear m v) s = .next (s.store m R.FLT_DOM_SEL v))) ∧
  (exec (.owlParity m true) s = .next (s.inc R.FLT_CNT F.FLT_CNT_REC_OVF 1)) ∧
  (isSafe = false → ∃ t, exec (.owlParity m false) s = .next t ∧ safeNow t 4 ∧ t.on R.FLT_STAT F.FLT_STAT_PAR = true) ∧
  (s.takes m R.FLT_SAFE v → isSafe = false →
    (fldOf v F.FLT_SAFE_GO = 1 → fldOf v F.FLT_SAFE_KEY = 0x5AFE → fldOf v F.FLT_SAFE_SLOT_OFF = 0 →
      ∃ t, exec (.fwSafe m v) s = .next t ∧ t.mode = 7 ∧ t.get R.FLT_STAT F.FLT_STAT_SAFE_CAUSE = 5 ∧ t.faultN = true) ∧
    (fldOf v F.FLT_SAFE_GO = 0 ∨ fldOf v F.FLT_SAFE_KEY ≠ 0x5AFE → exec (.fwSafe m v) s = .next (s.store m R.FLT_SAFE v)))

/-- R482, R483, R490, R493, R503: the way up of a slot, from HOLD to ON and the release of PERST_N; nothing while its power domain is
off. An entry into Night that has not passed the digests ends at the ramp (R513). The bound port is out of reset when
its group is; the places of the hot-plug bits are the model's (notes/assumptions/27.md). -/
def Obligations.SlotPowersUp : Prop := ∀ (s : State) (sc vsl : Nat), sc < 16 → vsl < 2048 →
  (s.pdOn 4 = false → ∀ i ∈ [Instr.slotRampStart sc, .slotPgLevel sc vsl, .slotPgQualified sc vsl, .perstRelease sc], exec i s = .next s) ∧
  (s.pdOn 4 = true →
  (s.slotState sc = 1 → s.sst sc F.SLOT_STAT_PRSNT = 1 → s.contained 5 sc = false → (s.feedOk sc 1 || s.feedOk sc 2) = true →
    2 ≤ s.mode → s.mode ≤ 6 → (s.slotPort sc).isSome = true →
    exec (.slotRampStart sc) s = .next ((((s.nightFail 3).set (R.SLOT_STAT sc) F.SLOT_STAT_STATE 2).set (R.SLOT_STAT sc) F.SLOT_STAT_HELD 0).set
      (R.SLOT_STAT sc) F.SLOT_STAT_FEED
      (if s.on (R.SLOT_CFG sc) F.SLOT_CFG_PRI then (if s.feedOk sc 2 then 2 else 1) else (if s.feedOk sc 1 then 1 else 2)))) ∧
  (s.slotState sc = 2 → s.pgTh sc ≤ vsl →
    exec (.slotPgLevel sc vsl) s
      = .next ((s.set (R.SLOT_MEAS_S sc) F.SLOT_MEAS_S_VSL vsl).set (R.SLOT_STAT sc) F.SLOT_STAT_STATE 3)) ∧
  (s.slotState sc = 3 → s.pgTh sc ≤ vsl → (s.slot sc).slowA = false → (s.slot sc).slowB = false →
    exec (.slotPgQualified sc vsl) s
      = .next ((((s.set (R.SLOT_MEAS_S sc) F.SLOT_MEAS_S_VSL vsl).set (R.SLOT_STAT sc) F.SLOT_STAT_STATE 4).set (R.SLOT_STAT sc)
          F.SLOT_STAT_PG 1).slotIsOn sc |>.slotRevert sc)) ∧
  (∀ u : State, u.slotIsOn sc = if (u.slot sc).turnOff = true then u else u.slotDone sc) ∧
  (s.slotState sc = 3 → ((s.slot sc).slowA || (s.slot sc).slowB) = true →
    exec (.slotPgQualified sc vsl) s = .next (s.set (R.SLOT_MEAS_S sc) F.SLOT_MEAS_S_VSL vsl)) ∧
  (∀ P, s.slotState sc = 4 → s.slotPort sc = some P → (s.slot sc).turnOff = false → 2 ≤ s.mode → s.mode ≤ 6 →
    bit (s.get R.GLB_GRP_RESET F.GLB_GRP_RESET_GRP) (P / 8) = false → s.contained 3 (P / 8) = false →
    exec (.perstRelease sc) s = .next (s.set (R.SLOT_STAT sc) F.SLOT_STAT_PERST 0)))

/-- R483, R485 to R489, R491, R492, R503: feeds become good and are lost, a switch-over runs, the slow-trip timer starts and stops; every trip
drains the slot with its cause, sends SLOT_TRIP or SLOT_PG, and leaves the rest alone.
Clauses on points the spec leaves open follow the model's reading: notes/assumptions/27.md, notes/assumptions/71.md. -/
def Obligations.SlotFeeds : Prop := ∀ (s : State) (sc v : Nat) (f : Feed), sc < 16 → v < 2048 →
  let n := feedNo f
  let pri := if s.on (R.SLOT_CFG sc) F.SLOT_CFG_PRI then 2 else 1
  let act := s.sst sc F.SLOT_STAT_FEED
  let back := s.slotState sc = 4 ∧ (s.slot sc).turnOff = false ∧ ((s.feedGone sc act = true ∧ s.feedOk sc (3 - act) = true) ∨
    (s.on (R.SLOT_CFG sc) F.SLOT_CFG_REVERT = true ∧ s.feedOk sc pri = true ∧ act = 3 - pri))
  let felt := s.feedOk sc n = true ∨ (s.slotLive sc = true ∧ s.feedUsed sc = n ∧ s.feedGone sc n = false)
  let good := fun (k : Nat) (u : State) => u.set (R.SLOT_STAT sc) (if n = 1 then F.SLOT_STAT_A_GOOD else F.SLOT_STAT_B_GOOD) k
  let gone := fun (b : Bool) (u : State) => u.setSlot sc fun x => if n = 1 then { x with lostA := b } else { x with lostB := b }
  let lost := (gone true (good 0 (s.feedVolt sc f v))).raise (0xD0 + sc) 0x41 none none n
  let cut := lost.feedGone sc (s.feedUsed sc) = true ∧ (s.slotState sc = 5 ∨ lost.feedOk sc (3 - s.feedUsed sc) = false)
  (s.pdOn 4 = false → ∀ i ∈ [Instr.feedGood sc f v, .feedLost sc f v, .switchBbmEnd sc v, .switchComplete sc v, .pwrbrkRelease sc,
    .slowTripTimerStart sc f (v % 1024), .slowTripTimerStop sc f (v % 1024), .fastTrip sc f, .slowTrip sc f, .rampTimeout sc, .pgLost sc v,
    .switchTimeout sc v], i.wf = true → exec i s = .next s) ∧
  (s.pdOn 4 = true →
  (s.inBand sc v = true → s.feedEn sc n = true →
    exec (.feedGood sc f v) s = .next ((good 1 (gone false (s.feedVolt sc f v))).slotRevert sc)) ∧
  (s.inBand sc v = true → s.feedEn sc n = false → exec (.feedGood sc f v) s = .next (gone false (s.feedVolt sc f v))) ∧
  (s.inBand sc v = false → exec (.feedGood sc f v) s = .next (s.feedVolt sc f v)) ∧
  (back → s.slotRevert sc = (((s.set (R.SLOT_STAT sc) F.SLOT_STAT_STATE 5).set (R.SLOT_STAT sc) F.SLOT_STAT_PWRBRK 1).set
    (R.SLOT_STAT sc) F.SLOT_STAT_FEED 0).setSlot sc fun x =>
      { x with target := 3 - act, inOn := false, brkHold := false, slowA := false, slowB := false }) ∧
  (¬ back → s.slotRevert sc = s) ∧
  (s.inBand sc v = false → felt → s.slotLive sc = false → exec (.feedLost sc f v) s = .next lost) ∧
  (s.inBand sc v = false → felt → s.slotLive sc = true → ¬ cut → exec (.feedLost sc f v) s = .next (lost.slotRevert sc)) ∧
  (s.inBand sc v = true ∨ ¬ felt → exec (.feedLost sc f v) s = .next (s.feedVolt sc f v)) ∧
  (s.inBand sc v = false → s.feedOk sc n = true → s.feedOk sc (3 - n) = true → s.slotState sc = 4 → act = n → (s.slot sc).turnOff = false →
    exec (.feedLost sc f v) s = .next (((lost.set (R.SLOT_STAT sc) F.SLOT_STAT_STATE 5).set (R.SLOT_STAT sc)
      F.SLOT_STAT_PWRBRK 1).set (R.SLOT_STAT sc) F.SLOT_STAT_FEED 0
      |>.setSlot sc fun x => { x with target := 3 - n, inOn := false, brkHold := false, slowA := false, slowB := false })) ∧
  (s.slotState sc = 5 → (s.slot sc).inOn = false → v < 5 →
    exec (.switchBbmEnd sc v) s = .next (((s.feedShunt sc (3 - (s.slot sc).target) v).set (R.SLOT_STAT sc) F.SLOT_STAT_FEED
      (s.slot sc).target).setSlot sc fun x => { x with inOn := true })) ∧
  (s.slotState sc = 5 → (s.slot sc).inOn = true → s.pgTh sc ≤ v →
    exec (.switchComplete sc v) s
      = .next ((((((s.set (R.SLOT_MEAS_S sc) F.SLOT_MEAS_S_VSL v).set (R.SLOT_STAT sc) F.SLOT_STAT_STATE 4).inc
          (R.SLOT_CNT sc) F.SLOT_CNT_SWITCHES 1).setSlot sc fun x => { x with inOn := false, brkHold := true }).slotIsOn sc).slotRevert sc)) ∧
  (s.slotState sc = 4 → (s.slot sc).brkHold = true →
    exec (.pwrbrkRelease sc) s = .next ((s.set (R.SLOT_STAT sc) F.SLOT_STAT_PWRBRK 0).setSlot sc fun x => { x with brkHold := false })) ∧
  (v < 1024 → s.gateOn sc (feedNo f) = true → s.slowTh sc < v →
    exec (.slowTripTimerStart sc f v) s = .next ((s.feedShunt sc (feedNo f) v).setSlot sc fun x =>
      if feedNo f = 1 then { x with slowA := true } else { x with slowB := true })) ∧
  (v < 1024 → v ≤ s.slowTh sc →
    exec (.slowTripTimerStop sc f v) s = .next ((s.feedShunt sc (feedNo f) v).setSlot sc fun x =>
      if feedNo f = 1 then { x with slowA := false } else { x with slowB := false })) ∧
  (s.gateOn sc (feedNo f) = true → ∃ t, exec (.fastTrip sc f) s = .next t ∧ SlotTripped s t sc 1 (feedNo f)) ∧
  ((if feedNo f = 1 then (s.slot sc).slowA else (s.slot sc).slowB) = true →
    ∃ t, exec (.slowTrip sc f) s = .next t ∧ SlotTripped s t sc 2 (feedNo f)) ∧
  (s.slotState sc = 2 → ∃ t, exec (.rampTimeout sc) s = .next t ∧ SlotTripped s t sc 3 (s.sst sc F.SLOT_STAT_FEED)) ∧
  (s.slotState sc = 4 → v < s.pgTh sc →
    ∃ t, exec (.pgLost sc v) s = .next t ∧ SlotTripped (s.slotVsl sc v) t sc 4 (s.sst sc F.SLOT_STAT_FEED)) ∧
  (s.slotState sc = 5 → (s.slot sc).inOn = true → v < s.pgTh sc →
    ∃ t, exec (.switchTimeout sc v) s = .next t ∧ SlotTripped (s.slotVsl sc v) t sc 6 (s.slot sc).target) ∧
  (s.inBand sc v = false → felt → s.slotLive sc = true → cut →
    ∃ t, exec (.feedLost sc f v) s = .next t ∧ SlotTripped lost t sc 5 3))

/-- R481, R484, R495, R498, R503: power-on and power-off requests by register and by host, presence, and the end of a drain. A state of
the slot that the request does not concern is left (the order of the PDC count and the events is that of R496).
Clauses on points the spec leaves open follow the model's reading: notes/assumptions/31.md, notes/assumptions/71.md,
notes/assumptions/72.md, notes/assumptions/129.md. -/
def Obligations.SlotRequests : Prop := ∀ (s : State) (m sc vsl : Nat), masterOk m = true → sc < 16 → vsl < 2048 →
  let held := fun (u : State) => (((u.nightFail 3).set (R.SLOT_STAT sc) F.SLOT_STAT_STATE 1).set (R.SLOT_STAT sc)
    F.SLOT_STAT_HELD 1).slotDone sc
  let asked := fun (P : Nat) (off : Bool) => let w := s.cfgWord (s.roleHd P) (2 + s.roleVdev P) .slotControl
    (s.setCfg (s.roleHd P) (2 + s.roleVdev P) .slotControl (if off then w ||| 0x400 else w &&& ~~~0x400)).setSlot sc
      fun x => { x with hostReq := true }
  (s.pdOn 4 = false →
    (∀ i ∈ [Instr.turnOffWaitEnd sc, .drainEnd sc vsl, .drainTimeout sc, .presenceOccupied sc, .presenceEmpty sc], exec i s = .next s) ∧
    (∀ P off, s.slotPort sc = some P → exec (.slotPowerControlWrite sc off) s = .next (asked P off))) ∧
  (s.pdOn 4 = true →
  (s.takes m (R.SLOT_CMD sc) 1 → s.slotState sc = 0 → (s.slotPort sc).isSome = true →
    (s.rampOk sc = false → exec (.slotOn m sc) s = .next (held s)) ∧
    (s.rampOk sc = true → exec (.slotOn m sc) s = .next (held s.used) ∨ exec (.slotOn m sc) s = .next (s.used.rampGo sc))) ∧
  (s.takes m (R.SLOT_CMD sc) 2 → 2 ≤ s.slotState sc → s.slotState sc ≤ 5 →
    exec (.slotOff m sc) s = .next ((s.set (R.SLOT_STAT sc) F.SLOT_STAT_PERST 1).setSlot sc fun x =>
      { x with turnOff := true, want := false })) ∧
  (∀ P, s.slotPort sc = some P → 2 ≤ s.slotState sc → s.slotState sc ≤ 5 →
    exec (.slotPowerControlWrite sc true) s
      = .next (((asked P true).set (R.SLOT_STAT sc) F.SLOT_STAT_PERST 1).setSlot sc fun x => { x with turnOff := true, want := false })) ∧
  ((s.slot sc).turnOff = true → ∃ t, exec (.turnOffWaitEnd sc) s = .next t ∧ t.sst sc F.SLOT_STAT_STATE = 6 ∧
    t.sst sc F.SLOT_STAT_PWRBRK = 1 ∧ t.sst sc F.SLOT_STAT_FEED = 0 ∧ t.sst sc F.SLOT_STAT_PERST = 1 ∧ (t.slot sc).turnOff = false ∧ (t.slot sc).want = false ∧
    (∀ a, a ≠ R.SLOT_STAT sc → t.rd a = s.rd a) ∧ t = { s with regs := t.regs, doms := t.doms, slots := t.slots }) ∧
  (s.slotState sc = 6 → vsl < s.get (R.SLOT_VLIM2 sc) F.SLOT_VLIM2_OFF_TH → (s.slot sc).want = false →
    ∃ t, exec (.drainEnd sc vsl) s = .next t ∧ t.sst sc F.SLOT_STAT_STATE = 0 ∧ t.sst sc F.SLOT_STAT_PWRBRK = 0 ∧
    t.get (R.SLOT_MEAS_S sc) F.SLOT_MEAS_S_VSL = vsl ∧
    (∀ a, a ≠ R.SLOT_STAT sc → a ≠ R.SLOT_MEAS_S sc → t.rd a = s.rd a) ∧
    t = { s with regs := t.regs, slots := t.slots, doms := t.doms, out := t.out }) ∧
  (s.slotState sc = 6 → (s.slot sc).want = false →
    ∃ t, exec (.drainTimeout sc) s = .next t ∧ t.sst sc F.SLOT_STAT_STATE = 0 ∧
    t.get (R.SLOT_CNT sc) F.SLOT_CNT_DRAIN_TO = min 255 (s.get (R.SLOT_CNT sc) F.SLOT_CNT_DRAIN_TO + 1) ∧
    (∀ a, a ≠ R.SLOT_STAT sc → a ≠ R.SLOT_CNT sc → t.rd a = s.rd a) ∧
    t = { s with regs := t.regs, slots := t.slots, doms := t.doms, out := t.out }) ∧
  (s.slotState sc = 6 → (s.slot sc).want = true →
    ∃ t, exec (.drainTimeout sc) s = .next t ∧ t.slotState sc ≤ 2 ∧ (t.slot sc).want = false) ∧
  (s.sst sc F.SLOT_STAT_PRSNT = 0 → exec (.presenceOccupied sc) s = .next (let t := (s.wakeIsland 31).presenceMove sc 1
    if s.on (R.SLOT_CFG sc) F.SLOT_CFG_AUTO_ON = true then t.slotReq sc true else t)) ∧
  (s.sst sc F.SLOT_STAT_PRSNT = 1 → exec (.presenceOccupied sc) s = .next (s.wakeIsland 31)) ∧
  (s.sst sc F.SLOT_STAT_PRSNT = 1 → (s.slotState sc = 0 ∨ s.slotState sc = 6) →
    exec (.presenceEmpty sc) s = .next ((s.wakeIsland 31).presenceMove sc 0))) ∧
  (∀ p, p < 2 → s.mode ≠ 4 → (s.presenceMove sc p).sst sc F.SLOT_STAT_PRSNT = p ∧
    (s.presenceMove sc p).sst sc F.SLOT_STAT_PDC_CNT = min 255 (s.sst sc F.SLOT_STAT_PDC_CNT + 1) ∧
    (s.presenceMove sc p).slotState sc = s.slotState sc ∧
    s.presenceMove sc p = { s with regs := (s.presenceMove sc p).regs, doms := (s.presenceMove sc p).doms, out := (s.presenceMove sc p).out })

/-- R503 to R508, R511 to R515, R517, R518, R600, R616: power domains switched off and on, Dusk, loss of a clock, a supply or of
cooling, the way into Night and out of it, and the pad hold. No rule says which source of R456 a
temperature message carries: it is a free one of them (notes/assumptions/2.md).
Clauses on points the spec leaves open follow the model's reading: notes/assumptions/39.md, notes/assumptions/73.md,
notes/assumptions/77.md. -/
def Obligations.PowerClocksNight : Prop := ∀ (s : State) (m : Nat) (v : Word), s.Tidy → masterOk m = true →
  let held := s.get R.PWR_PAD_HOLD F.PWR_PAD_HOLD_HELD
  let keep := s.get R.PWR_NIGHT_KEEP F.PWR_NIGHT_KEEP_KEEP
  let kept := fun (t : State) => ∀ o, t.cmem.get zeroByte o = if bit keep (o / 0x100000) then s.cmem.get zeroByte o else 0
  (∀ k, k ∈ [4, 26, 27, 28, 29, 30] → s.takes m R.PWR_PD_CTL v → v.toNat = 2 ^ k → s.pdOn k = true →
    (s.mayBeOff k = true → ∃ t, exec (.powerDomainControl m v) s = .next t ∧ t.pdOn k = false ∧ t.offBit k = true ∧
      (∀ j, j < 32 → j ≠ k → t.pdOn j = s.pdOn j) ∧
      (k = 4 → t.slots = [] ∧ t.get R.PWR_PAD_HOLD F.PWR_PAD_HOLD_HELD = held % 4 + 12) ∧
      (k = 30 → t.wen = {}) ∧ (26 ≤ k → k ≤ 29 → ∀ d, t.den d = if d / 4 = k - 26 then {} else s.den d) ∧
      (∀ a, a ≠ R.PWR_PD_CTL → a ≠ R.PWR_PD_STAT → a ≠ R.PWR_PAD_HOLD → t.rd a = s.rd a) ∧
      t = { s with regs := t.regs, slots := t.slots, dens := t.dens, wen := t.wen }) ∧
    (s.mayBeOff k = false → ∃ t, exec (.powerDomainControl m v) s = .next t ∧ t.pdOn k = true ∧ t.offBit k = false ∧
      t.get R.PWR_LP_STAT F.PWR_LP_STAT_PD_REF = 1 ∧ (∀ a, a ≠ R.PWR_PD_CTL → a ≠ R.PWR_LP_STAT → t.rd a = s.rd a) ∧
      t = { s with regs := t.regs })) ∧
  (∀ k, k < 32 → s.boot.stage = .ended → s.pwr.stage = .awake →
    (s.pdOn k = true → exec (.domainPowerUpDone k) s = .next s) ∧
    (s.pdOn k = false → k = 4 ∨ k = 30 → s.offBit k = false ∨ s.mayBeOff k = false → exec (.domainPowerUpDone k) s = .next (s.domainOn k)) ∧
    (s.pdOn k = false → 5 ≤ k → k ≤ 8 → exec (.domainPowerUpDone k) s = .next (s.quarterUp (k - 5))) ∧
    (s.pdOn k = false → 26 ≤ k → k ≤ 29 → s.offBit k = false ∨ s.mayBeOff k = false → ∃ t, exec (.domainPowerUpDone k) s = .next t ∧
      t.regs = (s.domainOn k).regs ∧ (∀ i, i < 4 → (t.den (4 * (k - 26) + i)).tbl = s.tblw.master)) ∧
    (∀ g, s.pdOn k = false → g < 16 → k = 10 + g →
      let held := bit (s.get R.GLB_GRP_RESET F.GLB_GRP_RESET_GRP) g = true ∧ s.pwr.due.contains g = false
      let u := (((s.domainOn k).judgeLayout g).grpLock g true).groupDue g false
      (s.groupUsed g = true → ¬ held → exec (.domainPowerUpDone k) s
        = .next (if u.contained 3 g = true then u else (u.grpBitClear g).groupStart g)) ∧
      (s.groupUsed g = false ∨ held → exec (.domainPowerUpDone k) s = .next s))) ∧
  (∀ k, k < 32 → (s.domainOn k).pdOn k = true ∧ (∀ j, j < 32 → j ≠ k → domainOf R.PWR_PD_STAT = 0 → k ≠ 0 → (s.domainOn k).pdOn j = s.pdOn j) ∧
    (∀ a f, f ∈ fieldsAt a → k ≠ 0 → domainOf (a % csrSpan) = k → f.rk ≠ .none →
      (s.domainOn k).get a f = fldOf (resetWord a) f)) ∧
  (∀ ci, ci < 36 →
    let en := bit (s.rd (State.duskEn ci)).toNat (ci % 32)
    let st := State.duskStat ci
    exec (.duskEntry ci) s = .next (if en && s.islandIdle ci then s.wr st (State.putBit (s.rd st) (ci % 32) true) else s) ∧
    exec (.islandWake ci) s = .next (if bit (s.rd st).toNat (ci % 32) then
      (s.wr st (State.putBit (s.rd st) (ci % 32) false)).count 35 1 ci 1 else s) ∧
    (s.asleep ci = true → (s.wakeIsland ci).asleep ci = false ∧ (∀ j, j < 36 → j ≠ ci → (s.wakeIsland ci).asleep j = s.asleep j)) ∧
    (∀ a, a % 4 = 0 → islandOf a = ci → s.powered a = true → s.nightShut m = false → s.asleep ci = true →
      plainReg a = true → s.checkAcc (.word m true a v.toNat) = none →
      exec (.registerWrite m a v) s = exec (.registerWrite m a v) (s.wakeIsland ci))) ∧
  (∀ a ci, a = (if ci < 32 then R.PWR_DUSK_EN_0 else R.PWR_DUSK_EN_1) → 2 ≤ ci → ci < 36 → s.takes m a v → bit v.toNat (ci % 32) = false →
    ∃ t, exec (.registerWrite m a v) s = .next t ∧ t.asleep ci = false) ∧
  (∀ g, g < 16 → ∃ t, exec (.pllLockLoss (.group g)) s = .next t ∧ bit (t.get R.PWR_CLK_STAT F.PWR_CLK_STAT_GRP_LOCK) g = false ∧
    (∀ j, j < 16 → j ≠ g → bit (t.get R.PWR_CLK_STAT F.PWR_CLK_STAT_GRP_LOCK) j = bit (s.get R.PWR_CLK_STAT F.PWR_CLK_STAT_GRP_LOCK) j) ∧
    t.faults = s.faults ++ [⟨0x80 + g, 0x07, none, none, 0⟩] ∧ (∀ a, a ≠ R.PWR_CLK_STAT → t.rd a = s.rd a) ∧
    t = { s with regs := t.regs, faults := t.faults }) ∧
  (exec (.pllLockLoss .core) s
    = .next ((s.set R.PWR_CLK_STAT F.PWR_CLK_STAT_CORE_LOCK 0).raise 0x1A7 0x48 none none 0x109)) ∧
  (∀ pd, pd < 32 → exec (.supplyOutOfRange pd) s = .next (s.raise (0x180 + pd) 0x48 none none pd)) ∧
  (∀ sensor degC, sensor < 17 →
    (degC ≤ 105 → exec (.tempThreshold sensor degC) s = .next s) ∧
    (105 < degC → ∃ t src, exec (.tempThreshold sensor degC) s = .next t ∧ src ∈ State.sources ∧
      t.faults = s.faults ++ [⟨src, if 115 < degC then 0x4A else 0x49, none, none, degC⟩] ∧
      t = { s with free := t.free, faults := t.faults })) ∧
  (s.pwr.stage = .awake →
    let en := s.on R.PWR_NIGHT_CFG F.PWR_NIGHT_CFG_EN
    let go := if s.nightRef = 0 then s.nightStage .drain else s.set R.PWR_NIGHT_STAT F.PWR_NIGHT_STAT_REF s.nightRef
    (en = true → s.allDown = true → exec .nightIdleTimeout s = .next go) ∧
    (en = false ∨ s.allDown = false → exec .nightIdleTimeout s = .next s) ∧
    (s.takes m R.PWR_NIGHT_CFG v → fldOf v F.PWR_NIGHT_CFG_GO = 1 → s.nightRef = 0 →
      exec (.nightGo m v) s = .next ((s.store m R.PWR_NIGHT_CFG v).nightStage .drain)) ∧
    (s.takes m R.PWR_NIGHT_CFG v → fldOf v F.PWR_NIGHT_CFG_GO = 1 → s.nightRef ≠ 0 →
      exec (.nightGo m v) s = .next ((s.store m R.PWR_NIGHT_CFG v).set R.PWR_NIGHT_STAT F.PWR_NIGHT_STAT_REF s.nightRef)) ∧
    (∀ l, exec (.nightDrainEnd l) s = .next s) ∧ exec .nightDigestDone s = .next s) ∧
  (s.pwr.stage = .drain →
    let gone := s.sett.pkts.all fun e => e.2.isNone
    (∀ l, s.nightRef ≠ 0 → exec (.nightDrainEnd l) s
      = .next ((s.set R.PWR_NIGHT_STAT F.PWR_NIGHT_STAT_REF s.nightRef).nightStage .awake)) ∧
    (∀ l, s.nightRef = 0 → gone = true → exec (.nightDrainEnd l) s = .next (s.nightStage .digest)) ∧
    (s.nightRef = 0 → gone = false → exec (.nightDrainEnd false) s = .next s) ∧
    (s.nightRef = 0 → gone = false →
      (∀ p k, s.pkt p = some k → k.mir = true → ∃ r ∈ s.sett.mirQ, r.pid = some p) →
      ∃ t, exec (.nightDrainEnd true) s = .next t ∧
      (∀ p, t.pkt p = none) ∧ t.sett.mirQ = [] ∧ t.sett.held = [] ∧ (∀ q, q < 1024 → t.queue q = []) ∧
      t.pwr = { s.pwr with stage := .digest } ∧ t.cmem = s.cmem)) ∧
  (s.pwr.stage = .digest →
    (s.sec.mb.isSome = true → exec .nightDigestDone s = .next s) ∧
    (s.sec.mb = none → s.nightRef ≠ 0 → exec .nightDigestDone s
      = .next ((s.set R.PWR_NIGHT_STAT F.PWR_NIGHT_STAT_REF s.nightRef).nightStage .awake)) ∧
    (s.sec.mb = none → s.nightRef = 0 → ∃ t, exec .nightDigestDone s = .next t ∧ t.rd R.PWR_PD_STAT = 1 ∧
      t.get R.PWR_PAD_HOLD F.PWR_PAD_HOLD_HELD = 15 ∧
      t.get R.PWR_NIGHT_STAT F.PWR_NIGHT_STAT_NIGHTS = min 65535 (s.get R.PWR_NIGHT_STAT F.PWR_NIGHT_STAT_NIGHTS + 1) ∧
      t.pwr.stage = .night ∧ t.pwr.img = s.get R.GLB_BOOT_STATUS F.GLB_BOOT_STATUS_ACTIVE_IMG ∧
      (∀ b, b < 16 → bit keep b = true → t.pwr.digests.get dNil b = sha384 (s.bankBytes b)) ∧ kept t)) ∧
  (∀ src : WakeSrc, src.wf = true → s.pwr.stage ≠ .night → exec (.nightWake src) s = .next s ∧ exec .nightAlarmExpiry s = .next s) ∧
  (∀ i code sc, sc < 16 → s.pwr.stage = .night → (i, code) ∈ [(Instr.nightWake .wakePin, 1), (.nightWake .i3cStart, 2), (.nightAlarmExpiry, 3),
      (.nightWake .alarm, 3), (.nightWake (.presence sc), 4)] → (code = 3 → s.on R.PWR_NIGHT_ALARM F.PWR_NIGHT_ALARM_ALARM = true) →
    ∃ t, exec i s = .next t ∧ t.mode = 0 ∧ t.get R.GLB_BOOT_STATUS F.GLB_BOOT_STATUS_CAUSE = 6 ∧
      t.get R.PWR_NIGHT_STAT F.PWR_NIGHT_STAT_WAKE_SRC = code ∧ t.get R.PWR_NIGHT_STAT F.PWR_NIGHT_STAT_FAST = b2n s.fastWake ∧
      t.boot.fast = s.fastWake ∧ t.pwr = { img := s.pwr.img } ∧ kept t) ∧
  (∀ g, g < 4 → s.takes m R.PWR_PAD_HOLD_RELEASE v → v.toNat = 2 ^ g →
    (bit held g = true → s.pdOn (if g < 2 then 3 else 4) = true → exec (.padHoldRelease m v) s
      = .next (s.set R.PWR_PAD_HOLD F.PWR_PAD_HOLD_HELD (held - 2 ^ g))) ∧
    (bit held g = false ∨ s.pdOn (if g < 2 then 3 else 4) = false → exec (.padHoldRelease m v) s = .next s))

/-- R522, R526, R529 to R532, R534 to R541: the security mailbox takes one command at a time and ends it by its rule and with its status;
SPDM requests, sessions and signatures are answered; JTAG does only what is granted. Random bytes, the code of a tamper message and what
a scan shifts out are free (notes/assumptions/2.md); the numbers of SPDM's codes are the standard's (notes/assumptions/38.md).
Clauses on points the spec leaves open follow the model's reading: notes/assumptions/74.md, notes/assumptions/75.md,
notes/assumptions/76.md, notes/assumptions/126.md. -/
def Obligations.SecurityCore : Prop := ∀ (s : State) (m : Nat), masterOk m = true →
  let idle := fun (t : State) => t.sec.mb = none ∧ t.get R.SEC_MB_STAT F.SEC_MB_STAT_BUSY = 0
  let ended := fun (t : State) (st : Nat) (out : List Byte) => idle t ∧ t.get R.SEC_MB_STAT F.SEC_MB_STAT_STATUS = st ∧
    t.get R.SEC_MB_STAT F.SEC_MB_STAT_OUT_LEN = out.length ∧ t.mbBytes out.length = out
  let done := fun (t : State) => exec .mailboxCommandDone s = .next t
  (∀ c ∈ [(Instr.getRandom m, 1), (.provisionKey m, 2), (.lockProv m, 3), (.revokeKey m, 4), (.advanceFloor m, 5), (.debugChallenge m, 6),
      (.debugUnlock m, 7), (.debugNever m, 8), (.certWrite m, 9)], s.takes m R.SEC_MB_CMD (BitVec.ofNat 32 c.2) →
    (s.sec.mb.isSome = true → exec c.1 s = .next (s.set R.SEC_MB_STAT F.SEC_MB_STAT_REJ 1)) ∧
    (s.sec.mb = none → ∃ t, exec c.1 s = .next t ∧ t.get R.SEC_MB_STAT F.SEC_MB_STAT_BUSY = 1 ∧
      t.get R.SEC_MB_STAT F.SEC_MB_STAT_OWNER = m % 32 ∧
      t.sec = { s.sec with mb := some {
        op := c.2, owner := m, mode := s.mode, len := s.get R.SEC_MB_LEN F.SEC_MB_LEN_LEN
        input := s.mbBytes (min (s.get R.SEC_MB_LEN F.SEC_MB_LEN_LEN) 32768), entropy := false } } ∧
      (∀ a, a ≠ R.SEC_MB_STAT → t.rd a = s.rd a) ∧ t = { s with regs := t.regs, sec := t.sec })) ∧
  (∀ st out, st < 8 → out.length ≤ 32768 → ended (s.mbEnd st out) st out ∧ (s.mbEnd st out).sec = { s.sec with mb := none } ∧
    s.mbEnd st out = { s with regs := (s.mbEnd st out).regs, sec := (s.mbEnd st out).sec }) ∧
  (s.sec.mb = none → done s) ∧
  (∀ l, (∀ c n, s.sec.mb = some c → c.cut = some n →
      s.otpProgram l = State.showOtp { s with sec := (l.take n).foldl OtpWrite.run s.sec }) ∧
    (∀ c, s.sec.mb = some c → c.cut = none → s.otpProgram l = State.showOtp { s with sec := l.foldl OtpWrite.run s.sec })) ∧
  (∀ c : MbCmd, s.sec.mb = some c → c.cut = none →
    let b := c.input
    let k := fieldAt b 0 1
    let blk := b.drop 64
    let item := fun (purpose : Nat) (use : KeySlot → Bool) (other : Nat) =>
      let i := State.sigItem s.sec.keys blk purpose 64 use (b.take 64)
      if i = 0 ∧ fieldAt blk 8 1 = other then 2 else i
    let failed := fun (i : Nat) => done ((s.set R.SEC_STAT F.SEC_STAT_LAST_FAIL i).mbEnd 4 [])
    let may := State.mbAllowed c.op c.owner c.mode
    (may = none → done (s.mbEnd 1 [])) ∧ (may = some false → done (s.mbEnd 3 [])) ∧
    (may = some true → 32768 < c.len → done (s.mbEnd 2 [])) ∧
    (may = some true → c.len ≤ 32768 →
      (c.op = 1 → b.length = 4 → 1 ≤ fieldAt b 0 4 → fieldAt b 0 4 ≤ 4096 →
        (c.entropy = true → done (s.mbEnd 7 [])) ∧
        (c.entropy = false → done ((s.usedN (fieldAt b 0 4)).mbEnd 0 (s.freeBytes (fieldAt b 0 4))))) ∧
      (c.op = 2 → b.length = 438 → k < 4 →
        let p := Config.purposeBits (fieldAt b 1 1)
        let rsa := sha384 ((b.drop 2).take 388)
        let slh := sha384 (b.drop 390)
        let x := s.key k
        let same := x.rsa = rsa ∧ x.slh = slh ∧ x.img = p.1 ∧ x.dbg = p.2 ∧ x.revoked = false
        (s.sec.provLock = true → done (s.mbEnd 3 [])) ∧
        (s.sec.provLock = false → x.prog = true → (same → done (s.mbEnd 0 [])) ∧ (¬ same → done (s.mbEnd 5 []))) ∧
        (s.sec.provLock = false → x.prog = false → ∃ t, done t ∧ ended t 0 [] ∧ (t.key k).prog = true ∧ (t.key k).revoked = x.revoked ∧
          (t.key k).rsa = rsa ∧ (t.key k).slh = slh ∧ (t.key k).img = (p.1 || x.img) ∧ (t.key k).dbg = (p.2 || x.dbg) ∧
          (∀ j, j ≠ k → t.key j = s.key j) ∧ bit (t.rd R.SEC_KEYS).toNat (4 * k) = true)) ∧
      (c.op = 3 →
        let any := (upTo 4).any fun j => State.imgSlot (s.key j)
        (any = false → done (s.mbEnd 5 [])) ∧
        (any = true → ∃ t, done t ∧ ended t 0 [] ∧ t.sec = { s.sec with mb := none, provLock3 := 3 } ∧
          t.on R.SEC_STAT F.SEC_STAT_PROV_LOCK = true)) ∧
      (c.op = 4 → b.length = 64 + sigBlockLen → k < 4 → fieldAt b 1 7 = 0 → fieldAt b 16 48 = 0 →
        let it := item 3 (·.img) k
        let here := fieldAt b 8 8 = 0 ∨ fieldAt b 8 8 = Config.deviceUid.toNat
        let others := (upTo 4).any fun j => j != k && State.imgSlot (s.key j)
        ((s.key k).revoked = false → others = false → done (s.mbEnd 5 [])) ∧
        ((s.key k).revoked = true ∨ others = true →
          (it ≠ 0 → failed it) ∧ (it = 0 → ¬ here → done (s.mbEnd 4 [])) ∧
          (it = 0 → here → (s.key k).revoked = true → done (s.mbEnd 0 [])) ∧
          (it = 0 → here → (s.key k).revoked = false → (s.key k).prog = false → done (s.mbEnd 5 [])) ∧
          (it = 0 → here → (s.key k).revoked = false → (s.key k).prog = true →
            ∃ t, done t ∧ ended t 0 [] ∧ t.key k = { s.key k with revoked3 := 3 } ∧ (t.key k).revoked = true ∧
              (∀ j, j ≠ k → t.key j = s.key j)))) ∧
      (c.op = 5 → b.length = 4 →
        let v := fieldAt b 0 4
        let ok := s.on R.GLB_BOOT_STATUS F.GLB_BOOT_STATUS_CONFIRMED = true ∧ v ≤ (s.rd R.SEC_SVN).toNat
        (¬ ok → done (s.mbEnd 3 [])) ∧
        (ok → s.sec.floor ≤ 64 → ∃ t, done t ∧ t.sec = { s.sec with mb := none, floor := max s.sec.floor (min v 64) } ∧
          ended t 0 (leBytes 4 (max s.sec.floor (min v 64))) ∧ t.get R.SEC_STAT F.SEC_STAT_FLOOR = max s.sec.floor (min v 64))) ∧
      (c.op = 6 → ∃ t n, done t ∧ n.length = 32 ∧ t.sec = { s.sec with mb := none, nonce := some n } ∧
        ended t 0 (leBytes 8 Config.deviceUid.toNat ++ n)) ∧
      (c.op = 7 → b.length = 64 + sigBlockLen →
        let it := item 2 (·.dbg) 4
        let perm := fieldAt b 40 4 % 8
        let good := s.sec.debugNever = false ∧ fieldAt b 0 8 = Config.deviceUid.toNat ∧ s.sec.nonce = some ((b.drop 8).take 32) ∧
          fieldAt b 44 20 = 0
        (it = 0 → good → ∃ t, done t ∧ ended t 0 (leBytes 4 perm) ∧ t.sec = { s.sec with mb := none, nonce := none } ∧
          (∀ i, i < 3 → t.dbgPerm i = (s.dbgPerm i || bit perm i))) ∧
        (it ≠ 0 ∨ ¬ good → ∃ t, done t ∧ ended t 4 [] ∧ t.sec = { s.sec with mb := none, nonce := none } ∧ t.rd R.SEC_DBG = s.rd R.SEC_DBG)) ∧
      (c.op = 8 → b.length = 4 → fieldAt b 0 4 = 0xDEAD0FF0 → ∃ t, done t ∧ ended t 0 [] ∧
        t.sec = { s.sec with mb := none, debugNever3 := 3 } ∧ t.on R.SEC_STAT F.SEC_STAT_DEBUG_NEVER = true) ∧
      (c.op = 8 → fieldAt b 0 4 ≠ 0xDEAD0FF0 ∨ b.length ≠ 4 → done (s.mbEnd 2 [])) ∧
      (c.op = 9 → 4 ≤ b.length → b.length ≤ 32768 → fieldAt b 0 4 + (b.length - 4) ≤ 0x20000 → 0x20000 ≤ s.flashSize →
        ∃ t, done t ∧ ended t 0 [] ∧
          bytesAt erasedByte t.flash0 (s.flashSize - 0x20000 + fieldAt b 0 4) (b.length - 4) = b.drop 4 ∧
          (∀ o, o < s.flashSize - 0x20000 → t.flash0.get erasedByte o = s.flash0.get erasedByte o) ∧ t.flash1 = s.flash1))) ∧
  (∃ t code, exec .trngHealthFail s = .next t ∧ t.faults = s.faults ++ [⟨0xC8, 0x50, none, none, code⟩] ∧ t.regs = s.regs ∧
    (∀ c, s.sec.mb = some c → c.op = 1 → t.sec = { s.sec with mb := some { c with entropy := true } }) ∧
    (s.sec.mb = none → t.sec = s.sec)) ∧
  (∀ (via : SpdmVia) (slot off len cmd : Nat) (g : Bool) (msg : List Byte), via.wf = true → slot < 8 →
    let up := s.spdmUp via && s.pwr.stage == .awake
    let asks := [Instr.getCertificate via slot off len, .challenge via slot msg, .getMeasurements via g msg, .keyExchange via slot msg,
      .vendorDefinedRequest via cmd]
    let chain := Config.certChain slot s.certBytes
    let part := (chain.drop off).take len
    let gives := fun (i : Instr) (code p1 : Nat) (body : List Byte) => exec i s = .next (s.spdmSay via code p1 0 body)
    let signs := fun (i : Instr) (code : Nat) (body : List Byte) => exec i s
      = .next (State.spdmSay { s with sec := { s.sec with slh := some (msg, false) } } via code 0 0
          (body ++ Config.rsaSign Config.identityRsa msg))
    (∀ (u : State) code p1 p2 body, let t := u.spdmSay via code p1 p2 body
      let said := [if code = 4 then 0x10 else 0x13] ++ leBytes 1 code ++ leBytes 1 p1 ++ leBytes 1 p2 ++ (if code = 0x7F then [] else body)
      let n := (said.length + 3) / 4
      t.out = .spdm via code body :: u.out ∧ t = { u with out := t.out, doms := t.doms } ∧ (via = .mctp → t.doms = u.doms) ∧
      (∀ h, via = .doe h → (∀ j, j ≠ h → t.dom j = u.dom j) ∧ (t.dom h).doeR = (u.dom h).doeR
        ++ [0x00010001, BitVec.ofNat 32 ((n + 2) % 2 ^ 18)] ++ (upTo n).map fun i => BitVec.ofNat 32 (fieldAt said (4 * i) 4))) ∧
    (fieldAt msg 1 1 = 0x84 → s.spdmHello via msg = some (s.spdmSay via 0x04 0 0 [0, 1, 0, 0x13])) ∧
    (up = false → ∀ i ∈ asks, exec i s = .next s) ∧
    (up = true →
      (slot < 2 → gives (.getCertificate via slot off len) 0x02 slot
        (leBytes 2 part.length ++ leBytes 2 (chain.length - off - part.length) ++ part)) ∧
      (2 ≤ slot → gives (.getCertificate via slot off len) 0x7F 1 [1]) ∧
      (slot = 0 → signs (.challenge via slot msg) 0x03 []) ∧
      (slot ≠ 0 → gives (.challenge via slot msg) 0x7F 1 [1] ∧ gives (.keyExchange via slot msg) 0x7F 1 [1]) ∧
      (slot = 0 → s.sec.sessions.length < 4 → ∃ t x, exec (.keyExchange via slot msg) s = .next t ∧ x.length = 416 ∧
        t = State.spdmSay { s with free := t.free, sec := { s.sec with
            slh := some (msg, false), nextSession := s.sec.nextSession + 1, sessions := s.sec.sessions ++ [(s.sec.nextSession, via)] } }
          via 0x64 0 0 (leBytes 2 s.sec.nextSession ++ [0, 0] ++ x ++ Config.rsaSign Config.identityRsa msg)) ∧
      (slot = 0 → 4 ≤ s.sec.sessions.length → gives (.keyExchange via slot msg) 0x7F 0x0A [0x0A]) ∧
      gives (.getMeasurements via false msg) 0x60 0 s.measurements ∧ signs (.getMeasurements via true msg) 0x60 s.measurements ∧
      (∀ x, s.sec.slh = some (x, true) →
        gives (.vendorDefinedRequest via 1) 0x7E 0 ([0, 0] ++ sha384 x ++ Config.slhSign Config.identitySlh x)) ∧
      (∀ x, s.sec.slh = some (x, false) → gives (.vendorDefinedRequest via 1) 0x7F 0x42 [0x42]))) ∧
  (∀ x r, s.sec.slh = some (x, r) → exec .slhSignatureReady s = .next { s with sec := { s.sec with slh := some (x, true) } }) ∧
  (∀ id via rest, s.sec.sessions = (id, via) :: rest → (∀ y ∈ rest, y.1 ≠ id) → exec (.endSession id) s
    = .next (State.spdmSay { s with sec := { s.sec with sessions := rest } } via 0x6C 0 0 [])) ∧
  (∀ id, (∀ y ∈ s.sec.sessions, y.1 ≠ id) → exec (.endSession id) s = .next s) ∧
  (∀ (cp a : Nat) (v : Word), cp < 4 → a < 0x4000000 →
    (s.dbgPerm 0 = false → exec (.jtagAccess (.debugHalt cp)) s = .next s) ∧
    (s.dbgPerm 2 = false → exec (.jtagAccess (.debugRead a)) s = .next s ∧ exec (.jtagAccess (.debugWrite a v)) s = .next s) ∧
    (s.dbgPerm 0 = true → s.sec.halted.contains cp = false →
      exec (.jtagAccess (.debugHalt cp)) s = .next { s with sec := { s.sec with halted := s.sec.halted ++ [cp] } }) ∧
    (s.dbgPerm 2 = true → inCmem a = true →
      exec (.jtagAccess (.debugRead a)) s = .next (s.emit (.jtag (leNat (s.cmemBytes (a % 0x1000000) 4)))) ∧
      exec (.jtagAccess (.debugWrite a v)) s = .next (s.cmemPut (a % 0x1000000) (leBytes 4 v.toNat))) ∧
    (∀ kd ∈ [JtagKind.idcode, .bypass, .boundaryScan], ∃ t x, exec (.jtagAccess kd) s = .next t ∧ t.out = .jtag x :: s.out ∧
      t = { s with free := t.free, out := t.out }))

/-- R542 to R550, R552 to R558, R560, R563 to R566: the check-value engine starts, runs, aborts and ends scan jobs and judges watched records; telemetry
selects counters, makes snapshot sets and writes its rings.
Clauses on points the spec leaves open follow the model's reading: notes/assumptions/19.md, notes/assumptions/94.md. -/
def Obligations.CheckAndTelemetry : Prop := ∀ (s : State) (m : Nat) (v : Word), masterOk m = true →
  let jstat := fun (t : State) j st res => t.get (R.CHK_JSTAT j) F.CHK_JSTAT_STATE = st ∧ t.get (R.CHK_JSTAT j) F.CHK_JSTAT_RESULT = res
  let ended := fun (t : State) (x : ChkJob) res val => jstat t x.j 3 res ∧ t.chk = { s.chk with jobs := s.chk.jobs.filter fun y => y.j != x.j } ∧
    t.rd (R.CHK_JOB_RES_LO x.j) = BitVec.ofNat 32 val ∧ t.rd (R.CHK_JOB_RES_HI x.j) = BitVec.ofNat 32 (val / 2 ^ 32) ∧
    t.rd R.CHK_DONE = s.rd R.CHK_DONE ||| BitVec.ofNat 32 (2 ^ x.j) ∧ t.out = .cpIrq 0 1 :: s.out ∧
    (∀ a, a ≠ R.CHK_JSTAT x.j → a ≠ R.CHK_JOB_RES_LO x.j → a ≠ R.CHK_JOB_RES_HI x.j → a ≠ R.CHK_DONE → a ≠ R.CHK_STAT → t.rd a = s.rd a)
  let slotAt := fun r => s.get (R.TEL_RING_CFG r) F.TEL_RING_CFG_BASE * 4096 +
    s.get (R.TEL_RING_PTR r) F.TEL_RING_PTR_WR % 2 ^ s.get (R.TEL_RING_CFG r) F.TEL_RING_CFG_LOG * ringSlot r
  let fits := fun r => s.get (R.TEL_RING_CFG r) F.TEL_RING_CFG_BASE * 4096 +
    2 ^ s.get (R.TEL_RING_CFG r) F.TEL_RING_CFG_LOG * ringSlot r ≤ 0x1000000
  let full := fun r => (s.get (R.TEL_RING_PTR r) F.TEL_RING_PTR_WR + 65536 - s.get (R.TEL_RING_PTR r) F.TEL_RING_PTR_RD) % 65536
    = 2 ^ s.get (R.TEL_RING_CFG r) F.TEL_RING_CFG_LOG
  let wrote := fun (t : State) r bs =>
    t.get (R.TEL_RING_PTR r) F.TEL_RING_PTR_WR = (s.get (R.TEL_RING_PTR r) F.TEL_RING_PTR_WR + 1) % 65536 ∧
    (∀ o, o < slotAt r ∨ slotAt r + ringSlot r ≤ o → t.cmem.get zeroByte o = s.cmem.get zeroByte o) ∧
    (s.nightShut 5 = false → (∀ i, i < ringSlot r / 64 →
        s.checkAcc { Acc.word 5 true (0x1000000 + slotAt r + 64 * i) 0 with size := 64 } = none) →
      bytesAt zeroByte t.cmem (slotAt r) (ringSlot r) = padTo (ringSlot r) bs ∧ t.faults = s.faults)
  (s.takes m R.CHK_CMD v → ∀ j, State.wfld v F.CHK_CMD_JOB = j →
    (State.wfld v F.CHK_CMD_OP = 1 →
      let len := (s.rd (R.CHK_JOB_LEN j)).toNat
      ((s.chkJob j).isSome = true ∨ len = 0 → exec (.checkJobStart m v) s = .next (s.set R.CHK_STAT F.CHK_STAT_REF 1)) ∧
      (s.chkJob j = none → len ≠ 0 → ∃ t, exec (.checkJobStart m v) s = .next t ∧ t.get (R.CHK_JSTAT j) F.CHK_JSTAT_STATE = 1 ∧
        t.chk = { s.chk with jobs := s.chk.jobs ++ [{
          j := j, addr := s.pair64 (R.CHK_JOB_ADDR_LO j) (R.CHK_JOB_ADDR_HI j), len := len, cfg := s.rd (R.CHK_JOB_CFG j) }] } ∧
        (∀ a, a ≠ R.CHK_JSTAT j → t.rd a = s.rd a) ∧ t = { s with regs := t.regs, chk := t.chk })) ∧
    (State.wfld v F.CHK_CMD_OP = 2 →
      ((∀ x, s.chkJob j = some x → x.result.isSome = true) →
        exec (.checkJobAbort m v) s = .next (s.set R.CHK_STAT F.CHK_STAT_ABORT_RES 2)) ∧
      (∀ x, s.chkJob j = some x → x.result = none → ∃ t, exec (.checkJobAbort m v) s = .next t ∧ ended t x 1 0 ∧
        t.get R.CHK_STAT F.CHK_STAT_ABORT_RES = 1 ∧ t = { s with regs := t.regs, chk := t.chk, doms := t.doms, out := t.out }))) ∧
  (∀ x r n, s.chk.jobs.find? (fun y => y.result.isSome) = some x → x.result = some (r, n) → x.j < 16 → r < 8 →
    ∃ t, exec .checkJobEnd s = .next t ∧ ended t x r (if r = 0 ∨ r = 3 then n else 0) ∧
      t.faults = s.faults ++ (if r = 3 then [⟨0xE0, 0x38, none, some x.addr, x.j⟩] else []) ∧
      t = { s with regs := t.regs, chk := t.chk, out := t.out, faults := t.faults }) ∧
  ((∀ x ∈ s.chk.jobs, x.result = none) → exec .checkJobEnd s = .next s) ∧
  (s.chk.jobs = [] → exec .checkJobRun s = .next s) ∧
  (∀ x rest, s.chk.jobs = x :: rest → (x.running = true ∨ x.result.isSome = true) → exec .checkJobRun s = .next s) ∧
  (∀ x rest, s.chk.jobs = x :: rest → x.running = false → x.result = none → x.j < 16 →
    let y := { x with running := true }
    let s' := (s.setChkJob y).set (R.CHK_JSTAT x.j) F.CHK_JSTAT_STATE 2
    let host := fldOf x.cfg F.CHK_JOB_CFG_SPACE = 1
    let h := fldOf x.cfg F.CHK_JOB_CFG_HD
    let at' := fun (u : State) res val => exec .checkJobRun s = .next (u.setChkJob { y with result := some (res, val) })
    let past := (if host then 2 ^ 64 else csrSpan) < x.addr + x.len
    (past ∨ (host ∧ (s.dom h).on = false) → at' s' 7 0) ∧
    (¬ past → host → (s.dom h).on = true → s.dmfOk h = false → at' s' 5 0) ∧
    (¬ past → host → (s.dom h).on = true → s.dmfOk h = true → x.got = [] →
      exec .checkJobRun s = .next (s'.hostRead h x.addr (min 512 x.len)
        (if fldOf x.cfg F.CHK_JOB_CFG_PASID_EN = 1 then some (fldOf x.cfg F.CHK_JOB_CFG_PASID) else none) (.check x.j) none)) ∧
    (¬ past → ¬ host → ∀ u, State.chkRead (x.len + 1) x.addr x.len s' = (u, none) → at' u 4 0) ∧
    (¬ past → ¬ host → ∀ u bs, State.chkRead (x.len + 1) x.addr x.len s' = (u, some bs) →
      let n := chkValue (fldOf x.cfg F.CHK_JOB_CFG_POLY) bs
      at' u (if fldOf x.cfg F.CHK_JOB_CFG_CMP = 1 ∧ n ≠ u.pair64 (R.CHK_JOB_EXP_LO x.j) (R.CHK_JOB_EXP_HI x.j) then 3 else 0) n)) ∧
  (∀ r data (rep : Bool), r < 32 →
    let go := fun (t : State) => exec (if rep then .recordRecheck r data else .recordCheck r data) s = .next t
    let st := R.CHK_REC_STAT r
    let told := fun (u : State) => u.on st F.CHK_REC_STAT_CHK_ERR || u.on st F.CHK_REC_STAT_STALE
    let en := s.on (R.CHK_REC_CFG r) F.CHK_REC_CFG_EN = true ∧ (rep = true → (s.chkRec r).again = true)
    let fails := fun (t u : State) (stale : Bool) => t.on st (if stale then F.CHK_REC_STAT_STALE else F.CHK_REC_STAT_CHK_ERR) = true ∧
      t.faults = u.faults ++ (if told u then []
        else [⟨0xE0, 0x38, none, some (u.recAddr r), r + 256 + 512 * (if stale then 2 else 1)⟩]) ∧ (t.chkRec r).again = false ∧
      (∀ a, a ≠ st → t.rd a = u.rd a) ∧ t = { u with regs := t.regs, chk := t.chk, faults := t.faults }
    (¬ en → go s) ∧
    (en → ∀ u, s.recRead r data = (u, none) → ∃ t, go t ∧ fails t u false) ∧
    (en → ∀ u b, s.recRead r data = (u, some b) → State.recWhole b = false →
      (rep = false → go (u.setChkRec r fun x => { x with again := true })) ∧ (rep = true → ∃ t, go t ∧ fails t u false)) ∧
    (en → ∀ u b, s.recRead r data = (u, some b) → State.recWhole b = true →
      let alive := fieldAt b 0 4
      let late := (u.chkRec r).seen = true ∧ isAfter alive (u.rd (R.CHK_REC_LAST r)).toNat = false
      let n := min 15 (u.get st F.CHK_REC_STAT_MISSES + 1)
      let lim := max 1 (u.get (R.CHK_REC_CFG r) F.CHK_REC_CFG_MISS_LIM)
      (¬ late → ∃ t, go t ∧ t.rd (R.CHK_REC_LAST r) = BitVec.ofNat 32 alive ∧ t.get st F.CHK_REC_STAT_MISSES = 0 ∧
        t.chkRec r = ⟨true, false⟩ ∧ t.faults = u.faults ∧ t = { u with regs := t.regs, chk := t.chk }) ∧
      (late → ∃ t, go t ∧ t.get st F.CHK_REC_STAT_MISSES = n ∧ (n < lim → t.faults = u.faults) ∧ (lim ≤ n → fails t u true) ∧
        t.rd (R.CHK_REC_LAST r) = u.rd (R.CHK_REC_LAST r))) ∧
    (s.on (R.CHK_REC_CFG r) F.CHK_REC_CFG_SPACE = true →
      let h := s.get (R.CHK_REC_CFG r) F.CHK_REC_CFG_HD
      let got := fun n b => s.recRead r data = (s.emit (.fetched h (s.recAddr r) n), b)
      (2 ^ 64 < s.recAddr r + 12 ∨ (s.dom h).on = false ∨ s.dmfOk h = false → s.recRead r data = (s, none)) ∧
      (s.recAddr r + 12 ≤ 2 ^ 64 → (s.dom h).on = true → s.dmfOk h = true →
        (∀ b, data = .ok b → got (12 + fieldAt b 4 2 % 4085) (some (b.take 4096))) ∧ (data = .error → got 12 none)))) ∧
  (∀ b i, b < 37 → i < State.bankSize b → s.takes m (R.TEL_CTR_SEL b i) v → ∃ t, exec (.counterSelect m b i v) s = .next t ∧
    let a := R.TEL_CTR_SEL b i
    let ev := fldOf v F.TEL_CTR_SEL_EVENT
    let q := fldOf v F.TEL_CTR_SEL_QUAL
    t.get a F.TEL_CTR_SEL_EVENT = ev ∧ t.get a F.TEL_CTR_SEL_QUAL = q ∧ t.get a F.TEL_CTR_SEL_ALL = fldOf v F.TEL_CTR_SEL_ALL ∧
    t.get a F.TEL_CTR_SEL_ENA = fldOf v F.TEL_CTR_SEL_ENA ∧
    t.get a F.TEL_CTR_SEL_BAD = b2n (State.selBad b ev q (fldOf v F.TEL_CTR_SEL_ALL != 0)) ∧
    (∀ k, t.tel.ctr.get dZero k = if k = b * 64 + i then 0 else s.tel.ctr.get dZero k) ∧
    (∀ k, k ∈ t.tel.changed ↔ k = b * 64 + i ∨ k ∈ s.tel.changed) ∧
    (∀ r, r ≠ a → t.rd r = s.rd r) ∧ t = { s with regs := t.regs, tel := { s.tel with ctr := t.tel.ctr, changed := t.tel.changed } }) ∧
  (s.on R.TEL_CFG F.TEL_CFG_EN = false ∨ ¬ fits 0 → exec .snapshotSet s = .next s) ∧
  (s.on R.TEL_CFG F.TEL_CFG_EN = true → fits 0 → full 0 → exec .snapshotSet s
    = .next (State.inc { s with tel := { s.tel with skipped := min 65535 (s.tel.skipped + 1) } } R.TEL_STAT F.TEL_STAT_SKIP 1)) ∧
  (s.on R.TEL_CFG F.TEL_CFG_EN = true → fits 0 → ¬ full 0 → s.asleep 6 = false →
    let cs := s.enabledCtrs
    let val := fun b i => if s.bankOff b then 0
      else if s.bankDusk b then s.tel.lastRead.get dZero (b * 64 + i) else s.tel.ctr.get dZero (b * 64 + i)
    let entry := fun (x : (Nat × Nat) × Nat) =>
      let b := x.1.1
      let i := x.1.2
      leBytes 8 (val b i) ++ leBytes 4 (s.now + 10 * x.2) ++ leBytes 1 b ++ leBytes 1 i ++
        leBytes 1 (s.get (R.TEL_CTR_SEL b i) F.TEL_CTR_SEL_BAD + 2 * b2n (s.bankDusk b) + 4 * b2n (s.bankOff b) +
          8 * b2n (s.tel.changed.contains (b * 64 + i)) + 16 * b2n (s.tel.cleared.contains b)) ++ [0]
    let header := leBytes 4 s.tel.setNo ++ leBytes 2 cs.length ++ leBytes 2 s.tel.skipped ++ leBytes 8 s.now ++
      leBytes 8 (s.now + 10 * (cs.length - 1)) ++ leBytes 8 0
    ∃ t, exec .snapshotSet s = .next t ∧ wrote t 0 (header ++ (cs.zip (upTo cs.length)).flatMap entry) ∧ .cpIrq 0 2 ∈ t.out ∧
      t.tel.ctr = s.tel.ctr ∧ t.tel.setNo = s.tel.setNo + 1 ∧ t.tel.skipped = 0 ∧ t.tel.changed = [] ∧ t.tel.cleared = [] ∧
      (∀ b i, (b, i) ∈ cs → t.tel.lastRead.get dZero (b * 64 + i) = val b i) ∧
      t = { s with regs := t.regs, cmem := t.cmem, tel := t.tel, out := t.out, faults := t.faults }) ∧
  (∀ b i, (b, i) ∈ s.enabledCtrs ↔ b < 37 ∧ i < State.bankSize b ∧ s.on (R.TEL_CTR_SEL b i) F.TEL_CTR_SEL_ENA = true) ∧
  (s.tel.spoorQ = [] ∨ ¬ fits 1 ∨ full 1 → exec .spoorRingWrite s = .next s) ∧
  (∀ r rest, s.tel.spoorQ = r :: rest → fits 1 → ¬ full 1 → s.asleep 6 = false → ∃ t, exec .spoorRingWrite s = .next t ∧ wrote t 1 r ∧
    t.tel = { s.tel with spoorQ := rest } ∧
    t.get R.TEL_SPOOR_CNT F.TEL_SPOOR_CNT_RECORDS = min 65535 (s.get R.TEL_SPOOR_CNT F.TEL_SPOOR_CNT_RECORDS + 1) ∧
    t = { s with regs := t.regs, cmem := t.cmem, tel := t.tel, out := t.out, faults := t.faults }) ∧
  (∀ ring, ring = 2 ∨ ring = 3 →
    let q := if ring = 2 then s.sett.mirQ else s.sett.trapQ
    (q = [] ∨ ¬ fits ring ∨ full ring → exec (.sampleRingWrite ring) s = .next s) ∧
    (∀ r rest, q = r :: rest → fits ring → ¬ full ring → s.asleep 6 = false →
      (∀ p k, r.pid = some p → s.pkt p = some k → k.fin = true → k.units = 0) → ∃ t, exec (.sampleRingWrite ring) s = .next t ∧ wrote t ring r.bytes ∧
      (ring = 3 → t.sett = { s.sett with trapQ := rest }) ∧
      (ring = 2 → t.sett.mirQ = rest ∧ (r.pid = none → t.sett = { s.sett with mirQ := rest }) ∧
        (∀ p k, r.pid = some p → s.pkt p = some k → t.pkt p = if k.fin then none else some { k with mir := false }) ∧
        (∀ p, r.pid ≠ some p → t.pkt p = s.pkt p)) ∧
      (ring = 2 → t.get R.SETT_MIRROR_CNT F.SETT_MIRROR_CNT_SENT = min 2047 (s.get R.SETT_MIRROR_CNT F.SETT_MIRROR_CNT_SENT + 1)) ∧
      t = { s with regs := t.regs, cmem := t.cmem, sett := t.sett, tel := t.tel, out := t.out, faults := t.faults }))

/-- R199, R471, R513, R571 to R584, R587, R588: the rings of a domain, the commands of the channel on every path with their checks and statuses, flash
operations, firmware-defined commands, events, and the MCTP path. PHASE of an MCTP answer, the read mode and the erase size, what programming
leaves in a byte that is not erased, and how far a failed operation got are free values (notes/assumptions/2.md, 42.md).
Clauses on points the spec leaves open follow the model's reading: notes/assumptions/11.md, notes/assumptions/12.md,
notes/assumptions/13.md, notes/assumptions/42.md, notes/assumptions/82.md, notes/assumptions/83.md, notes/assumptions/97.md,
notes/assumptions/130.md. -/
def Obligations.ManagementChannel : Prop := ∀ (s : State) (m h q : Nat) (v : Word), masterOk m = true → h < 16 → q < 17 →
  let cmd := fun (t : State) p => t.chan.cmds.get dNone p
  let others := fun (t : State) p => ∀ k, k ≠ p → cmd t k = cmd s k
  let zeroed := fun (t : State) => t.rd (R.MGT_CMD_IDX h) = 0 ∧ t.rd (R.MGT_RSP_IDX h) = 0 ∧ t.rd (R.MGT_EVT_IDX h) = 0
  let ctl := R.MGT_RING_CTL h
  let busy := fun (t : State) p => t.get (R.MGT_RING_STAT p) F.MGT_RING_STAT_BUSY
  let mctp := fun (rsp : List Byte) (ph : Nat) => Output.mctp ([0x7E] ++
    [BitVec.ofNat 8 (Config.vendorId.toNat / 256), BitVec.ofNat 8 Config.vendorId.toNat] ++ [1] ++ rsp ++ leBytes 1 ph)
  (s.takes m ctl v →
    (fldOf v F.MGT_RING_CTL_EN = 0 → ∀ i ∈ [Instr.ringDisable m h v, .ringEnable m h v], ∃ t, exec i s = .next t ∧ zeroed t ∧
      t.on ctl F.MGT_RING_CTL_EN = false ∧ t.doms = s.doms ∧ others t h ∧
      cmd t h = (match cmd s h with
        | some c => if c.stage = .firmware ∨ c.stage = .answered then none else some { c with quiet := true }
        | none => none) ∧
      busy t h = b2n (cmd t h).isSome ∧ t = { s with regs := t.regs, chan := { s.chan with cmds := t.chan.cmds } }) ∧
    (fldOf v F.MGT_RING_CTL_EN = 1 → s.on ctl F.MGT_RING_CTL_EN = false → ∃ t, exec (.ringEnable m h v) s = .next t ∧ zeroed t ∧
      t.on ctl F.MGT_RING_CTL_EN = true ∧
      t.dom h = { s.dom h with
        cmdLog := clampTo 4 12 (fldOf v F.MGT_RING_CTL_CMD_LOG), rspLog := clampTo 4 12 (fldOf v F.MGT_RING_CTL_RSP_LOG)
        evtLog := clampTo 4 12 (fldOf v F.MGT_RING_CTL_EVT_LOG), cmdBase := s.ringBase (R.MGT_CMD_BASE_LO h) (R.MGT_CMD_BASE_HI h)
        rspBase := s.ringBase (R.MGT_RSP_BASE_LO h) (R.MGT_RSP_BASE_HI h)
        evtBase := s.ringBase (R.MGT_EVT_BASE_LO h) (R.MGT_EVT_BASE_HI h) } ∧
      (∀ k, k ≠ h → t.dom k = s.dom k) ∧
      (∀ a, a ≠ ctl → a ≠ R.MGT_CMD_IDX h → a ≠ R.MGT_RSP_IDX h → a ≠ R.MGT_EVT_IDX h → t.rd a = s.rd a) ∧
      t = { s with regs := t.regs, doms := t.doms }) ∧
    (fldOf v F.MGT_RING_CTL_EN = 1 → s.on ctl F.MGT_RING_CTL_EN = true → exec (.ringEnable m h v) s = .next (s.store m ctl v))) ∧
  (s.takes m (R.MGT_CMD_IDX h) v →
    let pi := fldOf v F.MGT_CMD_IDX_PI
    let used := (pi + 65536 - s.get (R.MGT_CMD_IDX h) F.MGT_CMD_IDX_CI) % 65536
    (used ≤ 2 ^ (s.dom h).cmdLog → exec (.commandDoorbell m h v) s = .next (s.set (R.MGT_CMD_IDX h) F.MGT_CMD_IDX_PI pi)) ∧
    (2 ^ (s.dom h).cmdLog < used → exec (.commandDoorbell m h v) s = .next (s.set (R.MGT_RING_STAT h) F.MGT_RING_STAT_IDX_ERR 1))) ∧
  (∀ e : HostBytes,
    let ci := s.get (R.MGT_CMD_IDX h) F.MGT_CMD_IDX_CI
    let place := (s.get (R.MGT_RSP_IDX h) F.MGT_RSP_IDX_PI + 65536 - s.get (R.MGT_RSP_IDX h) F.MGT_RSP_IDX_CI) % 65536 < 2 ^ (s.dom h).rspLog
    let due := s.on ctl F.MGT_RING_CTL_EN = true ∧ s.dmfOk h = true ∧ cmd s h = none ∧ s.get (R.MGT_CMD_IDX h) F.MGT_CMD_IDX_PI ≠ ci ∧ place
    let s' := (s.wakeIsland 6).emit (.fetched h ((s.dom h).cmdBase + ci % 2 ^ (s.dom h).cmdLog * 64) 64)
    (¬ due → exec (.commandFetch h e) s = .next s) ∧
    (due → e = .error → exec (.commandFetch h e) s = .next (s'.set (R.MGT_RING_STAT h) F.MGT_RING_STAT_DMA_ERR 1)) ∧
    (∀ b, due → e = .ok b → b.length = 64 → ∃ t, t.get (R.MGT_CMD_IDX h) F.MGT_CMD_IDX_CI = (ci + 1) % 65536 ∧ others t h ∧
      cmd t h = some { bytes := b } ∧ busy t h = 1 ∧ (∀ a, a ≠ R.MGT_CMD_IDX h → a ≠ R.MGT_RING_STAT h → t.rd a = s'.rd a) ∧
      t = { s' with regs := t.regs, chan := { s.chan with cmds := t.chan.cmds } } ∧
      let opc := fieldAt b 0 1
      (opc < 9 ∨ 0x80 ≤ opc → exec (.commandFetch h e) s = .next t) ∧
      (9 ≤ opc → opc < 0x80 → exec (.commandFetch h e) s = .next (t.chAnswer h (if s.mode = 0 then 4 else 1) 0 [])))) ∧
  (∀ (c : ChCmd) (rsp : List Byte) (st b4 : Nat) (res : List Byte), cmd s q = some c →
    let t := s.answerWith q rsp none
    let fin := fun (t : State) => cmd t q = none ∧ others t q ∧ (q < 16 → busy t q = 0)
    (s.chAnswer q st b4 res = s.answerWith q (State.rspBytes c.bytes st b4 res) none) ∧
    (c.bytes.length = 64 → (State.rspBytes c.bytes st b4 res)
      = c.bytes.take 1 ++ leBytes 1 st ++ (c.bytes.drop 2).take 2 ++ leBytes 1 b4 ++ [0, 0, 0] ++ padTo 55 res) ∧
    (c.quiet = true → fin t ∧ t.out = s.out) ∧
    (c.quiet = false → q = 16 → fin t ∧ ∃ ph, ph < 2 ∧ t.out = mctp (padTo 63 rsp) ph :: s.out) ∧
    (c.quiet = false → q < 16 → s.dmfOk q = false →
      cmd t q = some { c with stage := .answered, rsp := rsp, rst := none } ∧ others t q ∧ t = { s with chan := t.chan }) ∧
    (c.quiet = false → q < 16 → s.dmfOk q = true →
      let d := s.dom q
      let i := s.get (R.MGT_RSP_IDX q) F.MGT_RSP_IDX_PI
      let a := d.rspBase + i % 2 ^ d.rspLog * 64
      let x := d.msix.get (fun _ => {}) (s.get (R.MGT_RING_CTL q) F.MGT_RING_CTL_RSP_VEC)
      fin t ∧ t.get (R.MGT_RSP_IDX q) F.MGT_RSP_IDX_PI = (i + 1) % 65536 ∧
      t.out = (if x.mask = false ∧ s.msixOn q = true then [.hostWrite q x.addr (leBytes 4 x.data) none,
          .msix q (s.get (R.MGT_RING_CTL q) F.MGT_RING_CTL_RSP_VEC)] else []) ++
        [.hostWrite q (a + 63) (leBytes 1 (if i / 2 ^ d.rspLog % 2 = 0 then 1 else 0)) none, .hostWrite q a (padTo 63 rsp) none] ++ s.out)) ∧
  (let kinds := [(Instr.cmdNop q, 0), (.getInfo q, 1), (.csrReadCmd q, 2), (.csrWriteCmd q, 3), (.flashInfo q, 4), (.flashRead q, 5),
     (.flashErase q, 7), (.resetCmd q, 8)]
   (cmd s q = none → (∀ x ∈ kinds, exec x.1 s = .next s) ∧ exec (.fwCommand q) s = .next s ∧ ∀ d, exec (.flashWrite q d) s = .next s) ∧
   (s.pwr.stage ≠ .awake → ∀ i ∈ [Instr.csrReadCmd q, .csrWriteCmd q, .resetCmd q], exec i s = .next s) ∧
   (∀ c : ChCmd, cmd s q = some c → c.stage ≠ .run ∨ s.pwr.stage = .night →
     (∀ x ∈ kinds, exec x.1 s = .next s) ∧ exec (.fwCommand q) s = .next s ∧ ∀ d, exec (.flashWrite q d) s = .next s) ∧
   ∀ c : ChCmd, cmd s q = some c → c.stage = .run → s.pwr.stage ≠ .night → c.bytes.length = 64 →
    let b := c.bytes
    let opc := fieldAt b 0 1
    let accepted := s.mode ≠ 0 ∧ (s.mode = 1 → opc ∈ [1, 4, 5, 6, 7, 8])
    let clean := fieldAt b 1 1 = 0 ∧ fieldAt b 4 4 = 0
    let ans := fun (i : Instr) (u : State) st b4 res => exec i s = .next (u.chAnswer q st b4 res)
    let n := fieldAt b 12 1
    let a := fieldAt b 8 4
    let master := if q = 16 then 9 else 16 + q
    let operands := a % 4 = 0 ∧ 1 ≤ n ∧ n ≤ 12
    let allowed := q = 16 ∨ (q = 0 ∧ s.mode = 1) ∨ (q < 16 ∧ bit (s.get R.MGT_FLASH_EN F.MGT_FLASH_EN_EN) q = true)
    let chips := 1 + s.get R.GLB_STRAP F.GLB_STRAP_FLASH
    let len := fieldAt b 16 4
    let buf := fieldAt b 24 8
    let cm := bit buf 63
    let o := fun (d : List Byte) =>
      ({ path := q, op := opc, cs := n, off := a, len := len, buf := buf, data := d, no := s.chan.flashNo } : FlashOp)
    let gathers := s.emit (.fetched q (buf % 2 ^ 63) len)
    let queued := fun (i : Instr) (u : State) (d : List Byte) => ∃ t, exec i s = .next t ∧ t.chan.flashQ = s.chan.flashQ ++ [o d] ∧
      cmd t q = some { c with stage := .flash } ∧ others t q ∧ t = { u with chan := { s.chan with
        flashQ := t.chan.flashQ, flashNo := s.chan.flashNo + 1, cmds := t.chan.cmds } }
    (∀ x ∈ kinds, (opc ≠ x.2 → exec x.1 s = .next s) ∧ (opc = x.2 → (x.2 ∈ [2, 3, 8] → s.pwr.stage = .awake) →
      (¬ accepted → ans x.1 s 4 0 []) ∧ (accepted → ¬ clean → ans x.1 s 2 0 []))) ∧
    (∀ d, (opc ≠ 6 → exec (.flashWrite q d) s = .next s) ∧ (opc = 6 → ¬ accepted → ans (.flashWrite q d) s 4 0 []) ∧
      (opc = 6 → accepted → ¬ clean → ans (.flashWrite q d) s 2 0 [])) ∧
    (opc < 0x80 → exec (.fwCommand q) s = .next s) ∧ (0x80 ≤ opc → s.mode ≤ 1 → ans (.fwCommand q) s 4 0 []) ∧
    (0x80 ≤ opc → 1 < s.mode → s.on R.MGT_FW_CFG F.MGT_FW_CFG_EN = false → ans (.fwCommand q) s 1 0 []) ∧
    (0x80 ≤ opc → 1 < s.mode → s.on R.MGT_FW_CFG F.MGT_FW_CFG_EN = true → ¬ clean → ans (.fwCommand q) s 2 0 []) ∧
    (0x80 ≤ opc → 1 < s.mode → s.on R.MGT_FW_CFG F.MGT_FW_CFG_EN = true → clean → ∃ t, exec (.fwCommand q) s = .next t ∧
      let wr := s.get R.MGT_FW_IDX F.MGT_FW_IDX_WR
      let e := (s.get R.MGT_FW_CFG F.MGT_FW_CFG_BASE * 4096 + wr % 2 ^ clampTo 5 8 (s.get R.MGT_FW_CFG F.MGT_FW_CFG_LOG) * 64) % 2 ^ 24
      bytesAt zeroByte t.cmem e 64 = b.take 4 ++ leBytes 1 q ++ b.drop 5 ∧
      (∀ k, k < e ∨ e + 64 ≤ k → t.cmem.get zeroByte k = s.cmem.get zeroByte k) ∧
      t.get R.MGT_FW_IDX F.MGT_FW_IDX_WR = (wr + 1) % 65536 ∧ t.out = .cpIrq 0 3 :: s.out ∧
      cmd t q = some { c with stage := .firmware } ∧ others t q ∧ (∀ r, r ≠ R.MGT_FW_IDX → t.rd r = s.rd r) ∧
      t = { s with regs := t.regs, cmem := t.cmem, out := t.out, chan := { s.chan with cmds := t.chan.cmds } }) ∧
    (accepted → clean →
      (opc = 0 → ans (.cmdNop q) s 0 0 []) ∧
      (opc = 1 → ans (.getInfo q) s 0 0 (leBytes 2 0xF256 ++ leBytes 1 0xB1 ++ leBytes 1 s.mode ++
        leBytes 1 (s.get R.GLB_BOOT_STATUS F.GLB_BOOT_STATUS_ACTIVE_IMG) ++ leBytes 1 q ++
        leBytes 1 (if s.fabIdValid then s.get R.MGT_FAB_ID F.MGT_FAB_ID_ID else 255) ++ [0] ++ leBytes 4 (s.rd R.SEC_SVN).toNat ++
        leBytes 8 Config.deviceUid.toNat)) ∧
      (opc = 2 → s.pwr.stage = .awake → ¬ operands → ans (.csrReadCmd q) s 2 0 []) ∧
      (operands → (∀ i, i < n → a + 4 * i ≠ R.TBL_FENCE ∧ a + 4 * i ≠ R.WEN_FENCE ∧ a + 4 * i ≠ R.GRD_FENCE) → s.wordsHold master a n = none) ∧
      (∀ pre w rest, opc = 2 → s.pwr.stage = .awake → operands → s.wordsHold master a n = some (pre, w, rest) →
        let r := State.wordsRead master pre.length a s
        let u := r.2.fenceHold (r.2.fenceRd master w (.chan q) (r.1.flatMap fun w => leBytes 4 w.toNat) rest)
        exec (.csrReadCmd q) s = .next { u with chan := { u.chan with
          cmds := u.chan.cmds.upd dNone q fun c => c.map fun x => { x with stage := .fence } } }) ∧
      (opc = 2 → s.pwr.stage = .awake → operands → s.wordsHold master a n = none →
        let r := State.wordsRead master n a s
        ans (.csrReadCmd q) r.2 (if r.1.length = n then 0 else 3) r.1.length (r.1.flatMap fun w => leBytes 4 w.toNat)) ∧
      (opc = 3 → s.pwr.stage = .awake → ¬ operands → ans (.csrWriteCmd q) s 2 0 []) ∧
      (opc = 3 → s.pwr.stage = .awake → operands →
        let r := State.wordsWrite master a ((upTo n).map fun i => BitVec.ofNat 32 (fieldAt b (16 + 4 * i) 4)) s
        ans (.csrWriteCmd q) r.2 (if r.1 = n then 0 else 3) r.1 []) ∧
      (opc = 4 → chips ≤ fieldAt b 8 1 → ans (.flashInfo q) s 2 0 []) ∧
      (opc = 4 → fieldAt b 8 1 < chips → ¬ allowed → ans (.flashInfo q) s 3 0 []) ∧
      (opc = 4 → fieldAt b 8 1 < chips → allowed → ∃ rm er, rm < 3 ∧ er < 256 ∧
        ans (.flashInfo q) (s.usedN 2) 0 0 (leBytes 4 s.flashSize ++ leBytes 1 chips ++ leBytes 1 rm ++ leBytes 1 er)) ∧
      (∀ data, ∀ x ∈ [(Instr.flashRead q, 5, 1, 65536), (.flashWrite q data, 6, 256, 65536), (.flashErase q, 7, 4096, 2 ^ 32)], opc = x.2.1 →
        let u := x.2.2.1
        let bad := chips ≤ n ∨ len = 0 ∨ x.2.2.2 < len ∨ a % u ≠ 0 ∨ len % u ≠ 0 ∨ s.flashSize < a + len ∨
          (opc ≠ 7 ∧ ((q = 16 ∧ cm = false) ∨ (cm = true ∧ 2 ^ 24 < buf % 2 ^ 24 + len)))
        let refused := ¬ allowed ∨ (n = 0 ∧ s.flashSize - 0x20000 < a + len)
        let acc : Acc := { Acc.word master (opc == 5) (0x1000000 + buf % 2 ^ 24) 0 with size := len }
        (bad → ans x.1 s 2 0 []) ∧ (¬ bad → refused → ans x.1 s 3 0 []) ∧
        (¬ bad → ¬ refused → opc ≠ 7 → cm = true → ∀ k i f, s.checkAcc acc = some (k, i, f) → ans x.1 (s.violate acc k i f) 3 0 []) ∧
        (¬ bad → ¬ refused →
          (opc = 7 ∨ (opc = 5 ∧ (cm = true → s.checkAcc acc = none)) → queued x.1 s []) ∧
          (opc = 6 → cm = true → s.checkAcc acc = none → queued x.1 s (s.cmemBytes (buf % 2 ^ 24) len)) ∧
          (opc = 6 → cm = false → s.dmfOk q = false → ans x.1 s 6 0 []) ∧
          (opc = 6 → cm = false → s.dmfOk q = true → data = .error → ans x.1 gathers 6 0 []) ∧
          (∀ d, opc = 6 → cm = false → s.dmfOk q = true → data = .ok d → queued x.1 gathers (padTo len d)))) ∧
      (opc = 8 → s.pwr.stage = .awake →
        let w := BitVec.ofNat 32 (fieldAt b 8 1 + 65536 * fieldAt b 10 2)
        let acc := Acc.word master true R.GLB_RESET w.toNat
        let sound := (fieldAt b 8 1 = 1 ∨ fieldAt b 8 1 = 2) ∧ fieldAt b 10 2 = 0xD2C7
        (¬ sound → ans (.resetCmd q) s 2 0 []) ∧
        (sound → ¬ (s.mode = 1 ∧ q = 0) → ∀ k i f, s.checkAcc acc = some (k, i, f) → ans (.resetCmd q) (s.violate acc k i f) 3 0 []) ∧
        (sound → (s.mode = 1 ∧ q = 0) ∨ s.checkAcc acc = none → c.quiet = true ∨ q = 16 ∨ s.dmfOk q = true →
          exec (.resetCmd q) s = .next ((s.answerWith q (State.rspBytes b 0 0 []) none).glbReset w))))) ∧
  (∀ res, s.chan.flashQ = [] → exec (.flashOpDone res) s = .next s) ∧
  (∀ (o : FlashOp) rest res, s.chan.flashQ = o :: rest →
    let s' := { s with chan := { s.chan with flashQ := rest } }
    let dev := fun (t : State) => if o.cs = 0 then t.flash0 else t.flash1
    let left := fun (u : State) n => (∀ k, k < o.off ∨ o.off + n ≤ k → (dev u).get erasedByte k = (dev s).get erasedByte k) ∧
      (if o.cs = 0 then u.flash1 = s.flash1 else u.flash0 = s.flash0) ∧ u = { s' with free := u.free, flash0 := u.flash0, flash1 := u.flash1 }
    let part := fun (u : State) n => left u n ∧
      (o.op = 7 → ∀ k, k < n → (dev u).get erasedByte (o.off + k) = 0xFF) ∧
      (o.op = 6 → ∀ k, k < n → (dev s).get erasedByte (o.off + k) = 0xFF → (dev u).get erasedByte (o.off + k) = o.data.getD k 0)
    let ans := fun (u : State) st => exec (.flashOpDone res) s = .next (u.chAnswer o.path st 0 [])
    (s.mode = 7 → ans s' 5) ∧
    (o.cut = true → ∃ u, u = { s' with free := u.free } ∧ ans u 5) ∧
    (s.mode ≠ 7 → o.cut = false → res = .ok → o.op = 5 → bit o.buf 63 = true →
      ans (s'.cmemPut (o.buf % 2 ^ 24) (bytesAt erasedByte (dev s) o.off o.len)) 0) ∧
    (s.mode ≠ 7 → o.cut = false → res = .ok → o.op = 5 → bit o.buf 63 = false →
      (s.dmfOk o.path = true → ans (s'.emit (.hostWrite o.path (o.buf % 2 ^ 63) (bytesAt erasedByte (dev s) o.off o.len) none)) 0) ∧
      (s.dmfOk o.path = false → ans s' 6)) ∧
    (s.mode ≠ 7 → o.cut = false → res = .ok → (o.op = 6 ∧ o.data.length = o.len) ∨ o.op = 7 → ∃ u, part u o.len ∧ ans u 0) ∧
    (s.mode ≠ 7 → o.cut = false → res ≠ .ok → (o.op = 6 ∧ o.data.length = o.len) ∨ o.op = 7 →
      ∃ u n, n ≤ o.len ∧ n % (if o.op = 7 then 4096 else 256) = 0 ∧ part u n ∧ ans u 5)) ∧
  (s.takes m R.MGT_FW_POST v →
    let s' := s.store m R.MGT_FW_POST v
    let p := fldOf v F.MGT_FW_POST_PATH
    let b := s.fwData
    let fits := ∃ c, cmd s p = some c ∧ p < 17 ∧ c.stage = .firmware ∧ b.take 1 = c.bytes.take 1 ∧ (b.drop 2).take 2 = (c.bytes.drop 2).take 2
    let legal := p < 16 ∧ (fieldAt b 0 1 = 1 ∨ 0x80 ≤ fieldAt b 0 1)
    (fldOf v F.MGT_FW_POST_GO = 0 → exec (.fwPostResponse m v) s = .next s' ∧ exec (.fwPostEvent m v) s = .next s') ∧
    (fldOf v F.MGT_FW_POST_GO = 1 → fldOf v F.MGT_FW_POST_KIND = 0 →
      (fits → exec (.fwPostResponse m v) s = .next (s'.chAnswer p (fieldAt b 1 1) 0 ((b.drop 8).take 55))) ∧
      (¬ fits → exec (.fwPostResponse m v) s = .next (s'.inc R.MGT_FW_STAT F.MGT_FW_STAT_FW_LATE 1))) ∧
    (fldOf v F.MGT_FW_POST_GO = 1 → fldOf v F.MGT_FW_POST_KIND = 1 →
      (¬ legal → exec (.fwPostEvent m v) s = .next (s'.set R.MGT_FW_STAT F.MGT_FW_STAT_POST_ERR 1)) ∧
      (legal → (s.dom p).evq.length < 256 → ∃ t, exec (.fwPostEvent m v) s = .next t ∧
        t.dom p = { s.dom p with evq := (s.dom p).evq ++
          [leBytes 1 (fieldAt b 0 1) ++ [0, 0, 0] ++ padTo 4 ((b.drop 4).take 4) ++ leBytes 8 (fieldAt b 8 8) ++ padTo 48 (b.drop 16)] } ∧
        (∀ k, k ≠ p → t.dom k = s.dom k) ∧ t = { s' with doms := t.doms }) ∧
      (legal → 256 ≤ (s.dom p).evq.length → exec (.fwPostEvent m v) s
        = .next ((s'.setDom p fun d => { d with evLost := true }).inc (R.GLB_HD_CNT p) F.GLB_HD_CNT_EVT_OVF 1)))) ∧
  (∀ c, cmd s q = some c → c.stage = .firmware → exec (.fwTimeout q) s = .next (s.chAnswer q 7 0 [])) ∧
  ((∀ c, cmd s q = some c → c.stage ≠ .firmware) → exec (.fwTimeout q) s = .next s) ∧
  (let d := s.dom h
   let i := s.get (R.MGT_EVT_IDX h) F.MGT_EVT_IDX_PI
   let place := (i + 65536 - s.get (R.MGT_EVT_IDX h) F.MGT_EVT_IDX_CI) % 65536 < 2 ^ d.evtLog
   let ready := s.on ctl F.MGT_RING_CTL_EN = true ∧ s.dmfOk h = true ∧ place
   (d.evq = [] ∨ ¬ ready → exec (.eventRingWrite h) s = .next s) ∧
   (∀ e rest, d.evq = e :: rest → ready → ∃ t, exec (.eventRingWrite h) s = .next t ∧
      let a := d.evtBase + i % 2 ^ d.evtLog * 64
      let vec := s.get ctl F.MGT_RING_CTL_EVT_VEC
      let x := d.msix.get (fun _ => {}) vec
      (t.dom h).evq = rest ∧ (t.dom h).evLost = false ∧ (t.dom h).evSeq = (d.evSeq + 1) % 65536 ∧ (∀ k, k ≠ h → t.dom k = s.dom k) ∧
      t.get (R.MGT_EVT_IDX h) F.MGT_EVT_IDX_PI = (i + 1) % 65536 ∧ (∀ r, r ≠ R.MGT_EVT_IDX h → t.rd r = s.rd r) ∧
      t.out = (if x.mask = false ∧ s.msixOn h = true then [.hostWrite h x.addr (leBytes 4 x.data) none, .msix h vec] else []) ++
        [.hostWrite h (a + 63) (leBytes 1 (if i / 2 ^ d.evtLog % 2 = 0 then 1 else 0)) none,
          .hostWrite h a (padTo 63 (e.take 1 ++ leBytes 1 (b2n d.evLost) ++ leBytes 2 d.evSeq ++ e.drop 4)) none] ++ s.out ∧
      t = { s with regs := t.regs, doms := t.doms, out := t.out })) ∧
  (∀ e : List Byte, e.length = 64 →
    let u := (s.wakeIsland 32).wakeIsland 6
    (s.nightShut 9 = true → exec (.mctpCommand e) s = .next s) ∧
    (s.nightShut 9 = false → (cmd s 16).isSome = true → ∃ t ph, exec (.mctpCommand e) s = .next t ∧ ph < 2 ∧
      t.out = mctp (State.rspBytes e 8 0 []) ph :: s.out ∧ t = { u with free := t.free, out := t.out }) ∧
    (s.nightShut 9 = false → cmd s 16 = none → ∃ t, cmd t 16 = some { bytes := e } ∧ others t 16 ∧
      t = { u with chan := { s.chan with cmds := t.chan.cmds } } ∧
      let opc := fieldAt e 0 1
      (opc < 9 ∨ 0x80 ≤ opc → exec (.mctpCommand e) s = .next t) ∧
      (9 ≤ opc → opc < 0x80 → exec (.mctpCommand e) s = .next (t.chAnswer 16 (if s.mode = 0 then 4 else 1) 0 [])))) ∧
  (∀ addr eid, addr < 128 → eid < 256 →
    (s.nightShut 9 = true → exec (.i3cAddressAssign addr) s = .next s ∧ exec (.setEndpointId eid) s = .next s) ∧
    (s.nightShut 9 = false → exec (.i3cAddressAssign addr) s = .next { s with chan := { s.chan with i3cAddr := some addr } } ∧
      exec (.setEndpointId eid) s = .next { s with chan := { s.chan with eid := eid } }))

/-- R266, R270, R320, R324, R337: what the stock segment puts into a den: its vectors for exactly the classes it handles, its region, and its
instructions below index 4,096; every other class of a den so loaded ends with NO_VECTOR. The words of the paths that the spec does not
print are the model's own (notes/assumptions/110.md). -/
def Obligations.StockSegment : Prop := ∀ (s : State) (d c i : Nat), d < 16 → c < 64 → i < 16384 →
  let handled := [0, 1, 8, 2, 3, 4, 5, 10, 6, 11, 7, 9, 16, 17, 18, 19, 20, 25, 24]
  let entry := fun k => fldOf (Stock.vector k) F.DEN_VEC_ENTRY
  let t := s.loadProgram d
  (s.denProgram d = some Stock.segment →
    (∀ k, k < 64 → t.rd (R.DEN_VEC d 0 k) = Stock.vector k) ∧ t.get (R.DEN_REGION d 0) F.DEN_REGION_LO = 0 ∧
    t.get (R.DEN_REGION d 0) F.DEN_REGION_HI = 8191 ∧ t.get (R.DEN_PROG_CTL d) F.DEN_PROG_CTL_SEL = 0 ∧
    t.tblw.shadow.get dInstr (16384 * d + i)
      = (if i < Stock.program.length then Stock.program.getD i 0 else s.tblw.shadow.get dInstr (16384 * d + i)) ∧
    (∀ a, (∀ k, k < 64 → a ≠ R.DEN_VEC d 0 k) → a ≠ R.DEN_REGION d 0 → a ≠ R.DEN_PROG_CTL d → t.rd a = s.rd a) ∧
    t = { s with regs := t.regs, tblw := { s.tblw with shadow := t.tblw.shadow } }) ∧
  (s.denProgram d = none → t = s) ∧
  (fldOf (Stock.vector c) F.DEN_VEC_EN = (if c ∈ handled then 1 else 0)) ∧ Stock.program.length ≤ 4096 ∧
  entry 0 = entry 1 ∧ entry 0 = entry 8 ∧ entry 2 = entry 3 ∧ entry 4 = entry 5 ∧ entry 4 = entry 10 ∧ entry 6 = entry 11 ∧ entry 7 = entry 9 ∧
  entry 17 = 0x400 ∧ (∀ k, k ∈ [18, 19, 20, 25] → entry k = entry 17) ∧ (∀ k, k ∈ handled → entry k < Stock.program.length) ∧
  (∀ x, x ∈ [(0x400, (0x1008000000070000 : DWord)), (0x401, 0x2010400800000000), (0x403, 0x0C00810000000100), (0x405, 0x1018000000010005),
    (0x408, 0x0920860000000000), (0x40C, 0x2901250000000100)] → Stock.program.getD x.1 0 = x.2)
end

