-- ==== Sys2Proof/Laws/State.lean ====
section
/-! SUPPORT. One lemma per field of the state and named update: what the update leaves, and what it sets. -/

namespace Sys2Proof.Machine.State

/-- Two states that agree in every field are the same state. -/
theorem ext {s t : State} (h0 : s.pending = t.pending) (h1 : s.now = t.now) (h2 : s.free = t.free) (h3 : s.regs = t.regs) (h4 : s.out = t.out) (h5 : s.faults = t.faults) (h6 : s.cmem = t.cmem) (h7 : s.flash0 = t.flash0) (h8 : s.flash1 = t.flash1) (h9 : s.flashSize = t.flashSize) (h10 : s.boot = t.boot) (h11 : s.pwr = t.pwr) (h12 : s.sec = t.sec) (h13 : s.samp = t.samp) (h14 : s.lanes = t.lanes) (h15 : s.links = t.links) (h16 : s.eq = t.eq) (h17 : s.sett = t.sett) (h18 : s.dens = t.dens) (h19 : s.tblw = t.tblw) (h20 : s.ports = t.ports) (h21 : s.doms = t.doms) (h22 : s.slots = t.slots) (h23 : s.owl = t.owl) (h24 : s.chk = t.chk) (h25 : s.tel = t.tel) (h26 : s.chan = t.chan) (h27 : s.wen = t.wen) (h28 : s.slcs = t.slcs) (h29 : s.fab = t.fab) (h30 : s.faultN = t.faultN) : s = t := by
  cases s; cases t; simp_all

variable (s : State)


/-! ### wr -/

@[simp] theorem wr_pending (a : Nat) (w : Word) : (s.wr a w).pending = s.pending := rfl
@[simp] theorem wr_now (a : Nat) (w : Word) : (s.wr a w).now = s.now := rfl
@[simp] theorem wr_free (a : Nat) (w : Word) : (s.wr a w).free = s.free := rfl
@[simp] theorem wr_regs (a : Nat) (w : Word) : (s.wr a w).regs = s.regs.put resetWord a w := rfl
@[simp] theorem wr_out (a : Nat) (w : Word) : (s.wr a w).out = s.out := rfl
@[simp] theorem wr_faults (a : Nat) (w : Word) : (s.wr a w).faults = s.faults := rfl
@[simp] theorem wr_cmem (a : Nat) (w : Word) : (s.wr a w).cmem = s.cmem := rfl
@[simp] theorem wr_flash0 (a : Nat) (w : Word) : (s.wr a w).flash0 = s.flash0 := rfl
@[simp] theorem wr_flash1 (a : Nat) (w : Word) : (s.wr a w).flash1 = s.flash1 := rfl
@[simp] theorem wr_flashSize (a : Nat) (w : Word) : (s.wr a w).flashSize = s.flashSize := rfl
@[simp] theorem wr_boot (a : Nat) (w : Word) : (s.wr a w).boot = s.boot := rfl
@[simp] theorem wr_pwr (a : Nat) (w : Word) : (s.wr a w).pwr = s.pwr := rfl
@[simp] theorem wr_sec (a : Nat) (w : Word) : (s.wr a w).sec = s.sec := rfl
@[simp] theorem wr_samp (a : Nat) (w : Word) : (s.wr a w).samp = s.samp := rfl
@[simp] theorem wr_lanes (a : Nat) (w : Word) : (s.wr a w).lanes = s.lanes := rfl
@[simp] theorem wr_links (a : Nat) (w : Word) : (s.wr a w).links = s.links := rfl
@[simp] theorem wr_eq (a : Nat) (w : Word) : (s.wr a w).eq = s.eq := rfl
@[simp] theorem wr_sett (a : Nat) (w : Word) : (s.wr a w).sett = s.sett := rfl
@[simp] theorem wr_dens (a : Nat) (w : Word) : (s.wr a w).dens = s.dens := rfl
@[simp] theorem wr_tblw (a : Nat) (w : Word) : (s.wr a w).tblw = s.tblw := rfl
@[simp] theorem wr_ports (a : Nat) (w : Word) : (s.wr a w).ports = s.ports := rfl
@[simp] theorem wr_doms (a : Nat) (w : Word) : (s.wr a w).doms = s.doms := rfl
@[simp] theorem wr_slots (a : Nat) (w : Word) : (s.wr a w).slots = s.slots := rfl
@[simp] theorem wr_owl (a : Nat) (w : Word) : (s.wr a w).owl = s.owl := rfl
@[simp] theorem wr_chk (a : Nat) (w : Word) : (s.wr a w).chk = s.chk := rfl
@[simp] theorem wr_tel (a : Nat) (w : Word) : (s.wr a w).tel = s.tel := rfl
@[simp] theorem wr_chan (a : Nat) (w : Word) : (s.wr a w).chan = s.chan := rfl
@[simp] theorem wr_wen (a : Nat) (w : Word) : (s.wr a w).wen = s.wen := rfl
@[simp] theorem wr_slcs (a : Nat) (w : Word) : (s.wr a w).slcs = s.slcs := rfl
@[simp] theorem wr_fab (a : Nat) (w : Word) : (s.wr a w).fab = s.fab := rfl
@[simp] theorem wr_faultN (a : Nat) (w : Word) : (s.wr a w).faultN = s.faultN := rfl

/-! ### set -/

@[simp] theorem set_pending (a : Nat) (f : Fld) (v : Nat) : (s.set a f v).pending = s.pending := rfl
@[simp] theorem set_now (a : Nat) (f : Fld) (v : Nat) : (s.set a f v).now = s.now := rfl
@[simp] theorem set_free (a : Nat) (f : Fld) (v : Nat) : (s.set a f v).free = s.free := rfl
@[simp] theorem set_out (a : Nat) (f : Fld) (v : Nat) : (s.set a f v).out = s.out := rfl
@[simp] theorem set_faults (a : Nat) (f : Fld) (v : Nat) : (s.set a f v).faults = s.faults := rfl
@[simp] theorem set_cmem (a : Nat) (f : Fld) (v : Nat) : (s.set a f v).cmem = s.cmem := rfl
@[simp] theorem set_flash0 (a : Nat) (f : Fld) (v : Nat) : (s.set a f v).flash0 = s.flash0 := rfl
@[simp] theorem set_flash1 (a : Nat) (f : Fld) (v : Nat) : (s.set a f v).flash1 = s.flash1 := rfl
@[simp] theorem set_flashSize (a : Nat) (f : Fld) (v : Nat) : (s.set a f v).flashSize = s.flashSize := rfl
@[simp] theorem set_boot (a : Nat) (f : Fld) (v : Nat) : (s.set a f v).boot = s.boot := rfl
@[simp] theorem set_pwr (a : Nat) (f : Fld) (v : Nat) : (s.set a f v).pwr = s.pwr := rfl
@[simp] theorem set_sec (a : Nat) (f : Fld) (v : Nat) : (s.set a f v).sec = s.sec := rfl
@[simp] theorem set_samp (a : Nat) (f : Fld) (v : Nat) : (s.set a f v).samp = s.samp := rfl
@[simp] theorem set_lanes (a : Nat) (f : Fld) (v : Nat) : (s.set a f v).lanes = s.lanes := rfl
@[simp] theorem set_links (a : Nat) (f : Fld) (v : Nat) : (s.set a f v).links = s.links := rfl
@[simp] theorem set_eq (a : Nat) (f : Fld) (v : Nat) : (s.set a f v).eq = s.eq := rfl
@[simp] theorem set_sett (a : Nat) (f : Fld) (v : Nat) : (s.set a f v).sett = s.sett := rfl
@[simp] theorem set_dens (a : Nat) (f : Fld) (v : Nat) : (s.set a f v).dens = s.dens := rfl
@[simp] theorem set_tblw (a : Nat) (f : Fld) (v : Nat) : (s.set a f v).tblw = s.tblw := rfl
@[simp] theorem set_ports (a : Nat) (f : Fld) (v : Nat) : (s.set a f v).ports = s.ports := rfl
@[simp] theorem set_doms (a : Nat) (f : Fld) (v : Nat) : (s.set a f v).doms = s.doms := rfl
@[simp] theorem set_slots (a : Nat) (f : Fld) (v : Nat) : (s.set a f v).slots = s.slots := rfl
@[simp] theorem set_owl (a : Nat) (f : Fld) (v : Nat) : (s.set a f v).owl = s.owl := rfl
@[simp] theorem set_chk (a : Nat) (f : Fld) (v : Nat) : (s.set a f v).chk = s.chk := rfl
@[simp] theorem set_tel (a : Nat) (f : Fld) (v : Nat) : (s.set a f v).tel = s.tel := rfl
@[simp] theorem set_chan (a : Nat) (f : Fld) (v : Nat) : (s.set a f v).chan = s.chan := rfl
@[simp] theorem set_wen (a : Nat) (f : Fld) (v : Nat) : (s.set a f v).wen = s.wen := rfl
@[simp] theorem set_slcs (a : Nat) (f : Fld) (v : Nat) : (s.set a f v).slcs = s.slcs := rfl
@[simp] theorem set_fab (a : Nat) (f : Fld) (v : Nat) : (s.set a f v).fab = s.fab := rfl
@[simp] theorem set_faultN (a : Nat) (f : Fld) (v : Nat) : (s.set a f v).faultN = s.faultN := rfl

/-! ### inc -/

@[simp] theorem inc_pending (a : Nat) (f : Fld) (n : Nat) : (s.inc a f n).pending = s.pending := rfl
@[simp] theorem inc_now (a : Nat) (f : Fld) (n : Nat) : (s.inc a f n).now = s.now := rfl
@[simp] theorem inc_free (a : Nat) (f : Fld) (n : Nat) : (s.inc a f n).free = s.free := rfl
@[simp] theorem inc_out (a : Nat) (f : Fld) (n : Nat) : (s.inc a f n).out = s.out := rfl
@[simp] theorem inc_faults (a : Nat) (f : Fld) (n : Nat) : (s.inc a f n).faults = s.faults := rfl
@[simp] theorem inc_cmem (a : Nat) (f : Fld) (n : Nat) : (s.inc a f n).cmem = s.cmem := rfl
@[simp] theorem inc_flash0 (a : Nat) (f : Fld) (n : Nat) : (s.inc a f n).flash0 = s.flash0 := rfl
@[simp] theorem inc_flash1 (a : Nat) (f : Fld) (n : Nat) : (s.inc a f n).flash1 = s.flash1 := rfl
@[simp] theorem inc_flashSize (a : Nat) (f : Fld) (n : Nat) : (s.inc a f n).flashSize = s.flashSize := rfl
@[simp] theorem inc_boot (a : Nat) (f : Fld) (n : Nat) : (s.inc a f n).boot = s.boot := rfl
@[simp] theorem inc_pwr (a : Nat) (f : Fld) (n : Nat) : (s.inc a f n).pwr = s.pwr := rfl
@[simp] theorem inc_sec (a : Nat) (f : Fld) (n : Nat) : (s.inc a f n).sec = s.sec := rfl
@[simp] theorem inc_samp (a : Nat) (f : Fld) (n : Nat) : (s.inc a f n).samp = s.samp := rfl
@[simp] theorem inc_lanes (a : Nat) (f : Fld) (n : Nat) : (s.inc a f n).lanes = s.lanes := rfl
@[simp] theorem inc_links (a : Nat) (f : Fld) (n : Nat) : (s.inc a f n).links = s.links := rfl
@[simp] theorem inc_eq (a : Nat) (f : Fld) (n : Nat) : (s.inc a f n).eq = s.eq := rfl
@[simp] theorem inc_sett (a : Nat) (f : Fld) (n : Nat) : (s.inc a f n).sett = s.sett := rfl
@[simp] theorem inc_dens (a : Nat) (f : Fld) (n : Nat) : (s.inc a f n).dens = s.dens := rfl
@[simp] theorem inc_tblw (a : Nat) (f : Fld) (n : Nat) : (s.inc a f n).tblw = s.tblw := rfl
@[simp] theorem inc_ports (a : Nat) (f : Fld) (n : Nat) : (s.inc a f n).ports = s.ports := rfl
@[simp] theorem inc_doms (a : Nat) (f : Fld) (n : Nat) : (s.inc a f n).doms = s.doms := rfl
@[simp] theorem inc_slots (a : Nat) (f : Fld) (n : Nat) : (s.inc a f n).slots = s.slots := rfl
@[simp] theorem inc_owl (a : Nat) (f : Fld) (n : Nat) : (s.inc a f n).owl = s.owl := rfl
@[simp] theorem inc_chk (a : Nat) (f : Fld) (n : Nat) : (s.inc a f n).chk = s.chk := rfl
@[simp] theorem inc_tel (a : Nat) (f : Fld) (n : Nat) : (s.inc a f n).tel = s.tel := rfl
@[simp] theorem inc_chan (a : Nat) (f : Fld) (n : Nat) : (s.inc a f n).chan = s.chan := rfl
@[simp] theorem inc_wen (a : Nat) (f : Fld) (n : Nat) : (s.inc a f n).wen = s.wen := rfl
@[simp] theorem inc_slcs (a : Nat) (f : Fld) (n : Nat) : (s.inc a f n).slcs = s.slcs := rfl
@[simp] theorem inc_fab (a : Nat) (f : Fld) (n : Nat) : (s.inc a f n).fab = s.fab := rfl
@[simp] theorem inc_faultN (a : Nat) (f : Fld) (n : Nat) : (s.inc a f n).faultN = s.faultN := rfl

/-! ### emit -/

@[simp] theorem emit_pending (o : Output) : (s.emit o).pending = s.pending := rfl
@[simp] theorem emit_now (o : Output) : (s.emit o).now = s.now := rfl
@[simp] theorem emit_free (o : Output) : (s.emit o).free = s.free := rfl
@[simp] theorem emit_regs (o : Output) : (s.emit o).regs = s.regs := rfl
@[simp] theorem emit_out (o : Output) : (s.emit o).out = o :: s.out := rfl
@[simp] theorem emit_faults (o : Output) : (s.emit o).faults = s.faults := rfl
@[simp] theorem emit_cmem (o : Output) : (s.emit o).cmem = s.cmem := rfl
@[simp] theorem emit_flash0 (o : Output) : (s.emit o).flash0 = s.flash0 := rfl
@[simp] theorem emit_flash1 (o : Output) : (s.emit o).flash1 = s.flash1 := rfl
@[simp] theorem emit_flashSize (o : Output) : (s.emit o).flashSize = s.flashSize := rfl
@[simp] theorem emit_boot (o : Output) : (s.emit o).boot = s.boot := rfl
@[simp] theorem emit_pwr (o : Output) : (s.emit o).pwr = s.pwr := rfl
@[simp] theorem emit_sec (o : Output) : (s.emit o).sec = s.sec := rfl
@[simp] theorem emit_samp (o : Output) : (s.emit o).samp = s.samp := rfl
@[simp] theorem emit_lanes (o : Output) : (s.emit o).lanes = s.lanes := rfl
@[simp] theorem emit_links (o : Output) : (s.emit o).links = s.links := rfl
@[simp] theorem emit_eq (o : Output) : (s.emit o).eq = s.eq := rfl
@[simp] theorem emit_sett (o : Output) : (s.emit o).sett = s.sett := rfl
@[simp] theorem emit_dens (o : Output) : (s.emit o).dens = s.dens := rfl
@[simp] theorem emit_tblw (o : Output) : (s.emit o).tblw = s.tblw := rfl
@[simp] theorem emit_ports (o : Output) : (s.emit o).ports = s.ports := rfl
@[simp] theorem emit_doms (o : Output) : (s.emit o).doms = s.doms := rfl
@[simp] theorem emit_slots (o : Output) : (s.emit o).slots = s.slots := rfl
@[simp] theorem emit_owl (o : Output) : (s.emit o).owl = s.owl := rfl
@[simp] theorem emit_chk (o : Output) : (s.emit o).chk = s.chk := rfl
@[simp] theorem emit_tel (o : Output) : (s.emit o).tel = s.tel := rfl
@[simp] theorem emit_chan (o : Output) : (s.emit o).chan = s.chan := rfl
@[simp] theorem emit_wen (o : Output) : (s.emit o).wen = s.wen := rfl
@[simp] theorem emit_slcs (o : Output) : (s.emit o).slcs = s.slcs := rfl
@[simp] theorem emit_fab (o : Output) : (s.emit o).fab = s.fab := rfl
@[simp] theorem emit_faultN (o : Output) : (s.emit o).faultN = s.faultN := rfl
@[simp] theorem emit_rd (o : Output) (r : Nat) : (s.emit o).rd r = s.rd r := rfl
@[simp] theorem emit_get (o : Output) (r : Nat) (F : Fld) : (s.emit o).get r F = s.get r F := rfl
@[simp] theorem emit_on (o : Output) (r : Nat) (F : Fld) : (s.emit o).on r F = s.on r F := rfl

/-! ### raise -/

@[simp] theorem raise_pending (a b : Nat) (x y : Option Nat) (e : Nat) : (s.raise a b x y e).pending = s.pending := rfl
@[simp] theorem raise_now (a b : Nat) (x y : Option Nat) (e : Nat) : (s.raise a b x y e).now = s.now := rfl
@[simp] theorem raise_free (a b : Nat) (x y : Option Nat) (e : Nat) : (s.raise a b x y e).free = s.free := rfl
@[simp] theorem raise_regs (a b : Nat) (x y : Option Nat) (e : Nat) : (s.raise a b x y e).regs = s.regs := rfl
@[simp] theorem raise_out (a b : Nat) (x y : Option Nat) (e : Nat) : (s.raise a b x y e).out = s.out := rfl
@[simp] theorem raise_faults (a b : Nat) (x y : Option Nat) (e : Nat) : (s.raise a b x y e).faults = s.faults ++ [⟨a, b, x, y, e⟩] := rfl
@[simp] theorem raise_cmem (a b : Nat) (x y : Option Nat) (e : Nat) : (s.raise a b x y e).cmem = s.cmem := rfl
@[simp] theorem raise_flash0 (a b : Nat) (x y : Option Nat) (e : Nat) : (s.raise a b x y e).flash0 = s.flash0 := rfl
@[simp] theorem raise_flash1 (a b : Nat) (x y : Option Nat) (e : Nat) : (s.raise a b x y e).flash1 = s.flash1 := rfl
@[simp] theorem raise_flashSize (a b : Nat) (x y : Option Nat) (e : Nat) : (s.raise a b x y e).flashSize = s.flashSize := rfl
@[simp] theorem raise_boot (a b : Nat) (x y : Option Nat) (e : Nat) : (s.raise a b x y e).boot = s.boot := rfl
@[simp] theorem raise_pwr (a b : Nat) (x y : Option Nat) (e : Nat) : (s.raise a b x y e).pwr = s.pwr := rfl
@[simp] theorem raise_sec (a b : Nat) (x y : Option Nat) (e : Nat) : (s.raise a b x y e).sec = s.sec := rfl
@[simp] theorem raise_samp (a b : Nat) (x y : Option Nat) (e : Nat) : (s.raise a b x y e).samp = s.samp := rfl
@[simp] theorem raise_lanes (a b : Nat) (x y : Option Nat) (e : Nat) : (s.raise a b x y e).lanes = s.lanes := rfl
@[simp] theorem raise_links (a b : Nat) (x y : Option Nat) (e : Nat) : (s.raise a b x y e).links = s.links := rfl
@[simp] theorem raise_eq (a b : Nat) (x y : Option Nat) (e : Nat) : (s.raise a b x y e).eq = s.eq := rfl
@[simp] theorem raise_sett (a b : Nat) (x y : Option Nat) (e : Nat) : (s.raise a b x y e).sett = s.sett := rfl
@[simp] theorem raise_dens (a b : Nat) (x y : Option Nat) (e : Nat) : (s.raise a b x y e).dens = s.dens := rfl
@[simp] theorem raise_tblw (a b : Nat) (x y : Option Nat) (e : Nat) : (s.raise a b x y e).tblw = s.tblw := rfl
@[simp] theorem raise_ports (a b : Nat) (x y : Option Nat) (e : Nat) : (s.raise a b x y e).ports = s.ports := rfl
@[simp] theorem raise_doms (a b : Nat) (x y : Option Nat) (e : Nat) : (s.raise a b x y e).doms = s.doms := rfl
@[simp] theorem raise_slots (a b : Nat) (x y : Option Nat) (e : Nat) : (s.raise a b x y e).slots = s.slots := rfl
@[simp] theorem raise_owl (a b : Nat) (x y : Option Nat) (e : Nat) : (s.raise a b x y e).owl = s.owl := rfl
@[simp] theorem raise_chk (a b : Nat) (x y : Option Nat) (e : Nat) : (s.raise a b x y e).chk = s.chk := rfl
@[simp] theorem raise_tel (a b : Nat) (x y : Option Nat) (e : Nat) : (s.raise a b x y e).tel = s.tel := rfl
@[simp] theorem raise_chan (a b : Nat) (x y : Option Nat) (e : Nat) : (s.raise a b x y e).chan = s.chan := rfl
@[simp] theorem raise_wen (a b : Nat) (x y : Option Nat) (e : Nat) : (s.raise a b x y e).wen = s.wen := rfl
@[simp] theorem raise_slcs (a b : Nat) (x y : Option Nat) (e : Nat) : (s.raise a b x y e).slcs = s.slcs := rfl
@[simp] theorem raise_fab (a b : Nat) (x y : Option Nat) (e : Nat) : (s.raise a b x y e).fab = s.fab := rfl
@[simp] theorem raise_faultN (a b : Nat) (x y : Option Nat) (e : Nat) : (s.raise a b x y e).faultN = s.faultN := rfl
@[simp] theorem raise_rd (a b : Nat) (x y : Option Nat) (e : Nat) (r : Nat) : (s.raise a b x y e).rd r = s.rd r := rfl
@[simp] theorem raise_get (a b : Nat) (x y : Option Nat) (e : Nat) (r : Nat) (F : Fld) : (s.raise a b x y e).get r F = s.get r F := rfl
@[simp] theorem raise_on (a b : Nat) (x y : Option Nat) (e : Nat) (r : Nat) (F : Fld) : (s.raise a b x y e).on r F = s.on r F := rfl

/-! ### used -/

@[simp] theorem used_pending : (s.used).pending = s.pending := rfl
@[simp] theorem used_now : (s.used).now = s.now := rfl
@[simp] theorem used_free : (s.used).free = s.free + 1 := rfl
@[simp] theorem used_regs : (s.used).regs = s.regs := rfl
@[simp] theorem used_out : (s.used).out = s.out := rfl
@[simp] theorem used_faults : (s.used).faults = s.faults := rfl
@[simp] theorem used_cmem : (s.used).cmem = s.cmem := rfl
@[simp] theorem used_flash0 : (s.used).flash0 = s.flash0 := rfl
@[simp] theorem used_flash1 : (s.used).flash1 = s.flash1 := rfl
@[simp] theorem used_flashSize : (s.used).flashSize = s.flashSize := rfl
@[simp] theorem used_boot : (s.used).boot = s.boot := rfl
@[simp] theorem used_pwr : (s.used).pwr = s.pwr := rfl
@[simp] theorem used_sec : (s.used).sec = s.sec := rfl
@[simp] theorem used_samp : (s.used).samp = s.samp := rfl
@[simp] theorem used_lanes : (s.used).lanes = s.lanes := rfl
@[simp] theorem used_links : (s.used).links = s.links := rfl
@[simp] theorem used_eq : (s.used).eq = s.eq := rfl
@[simp] theorem used_sett : (s.used).sett = s.sett := rfl
@[simp] theorem used_dens : (s.used).dens = s.dens := rfl
@[simp] theorem used_tblw : (s.used).tblw = s.tblw := rfl
@[simp] theorem used_ports : (s.used).ports = s.ports := rfl
@[simp] theorem used_doms : (s.used).doms = s.doms := rfl
@[simp] theorem used_slots : (s.used).slots = s.slots := rfl
@[simp] theorem used_owl : (s.used).owl = s.owl := rfl
@[simp] theorem used_chk : (s.used).chk = s.chk := rfl
@[simp] theorem used_tel : (s.used).tel = s.tel := rfl
@[simp] theorem used_chan : (s.used).chan = s.chan := rfl
@[simp] theorem used_wen : (s.used).wen = s.wen := rfl
@[simp] theorem used_slcs : (s.used).slcs = s.slcs := rfl
@[simp] theorem used_fab : (s.used).fab = s.fab := rfl
@[simp] theorem used_faultN : (s.used).faultN = s.faultN := rfl
@[simp] theorem used_rd (r : Nat) : (s.used).rd r = s.rd r := rfl
@[simp] theorem used_get (r : Nat) (F : Fld) : (s.used).get r F = s.get r F := rfl
@[simp] theorem used_on (r : Nat) (F : Fld) : (s.used).on r F = s.on r F := rfl

/-! ### usedN -/

@[simp] theorem usedN_pending (n : Nat) : (s.usedN n).pending = s.pending := rfl
@[simp] theorem usedN_now (n : Nat) : (s.usedN n).now = s.now := rfl
@[simp] theorem usedN_free (n : Nat) : (s.usedN n).free = s.free + n := rfl
@[simp] theorem usedN_regs (n : Nat) : (s.usedN n).regs = s.regs := rfl
@[simp] theorem usedN_out (n : Nat) : (s.usedN n).out = s.out := rfl
@[simp] theorem usedN_faults (n : Nat) : (s.usedN n).faults = s.faults := rfl
@[simp] theorem usedN_cmem (n : Nat) : (s.usedN n).cmem = s.cmem := rfl
@[simp] theorem usedN_flash0 (n : Nat) : (s.usedN n).flash0 = s.flash0 := rfl
@[simp] theorem usedN_flash1 (n : Nat) : (s.usedN n).flash1 = s.flash1 := rfl
@[simp] theorem usedN_flashSize (n : Nat) : (s.usedN n).flashSize = s.flashSize := rfl
@[simp] theorem usedN_boot (n : Nat) : (s.usedN n).boot = s.boot := rfl
@[simp] theorem usedN_pwr (n : Nat) : (s.usedN n).pwr = s.pwr := rfl
@[simp] theorem usedN_sec (n : Nat) : (s.usedN n).sec = s.sec := rfl
@[simp] theorem usedN_samp (n : Nat) : (s.usedN n).samp = s.samp := rfl
@[simp] theorem usedN_lanes (n : Nat) : (s.usedN n).lanes = s.lanes := rfl
@[simp] theorem usedN_links (n : Nat) : (s.usedN n).links = s.links := rfl
@[simp] theorem usedN_eq (n : Nat) : (s.usedN n).eq = s.eq := rfl
@[simp] theorem usedN_sett (n : Nat) : (s.usedN n).sett = s.sett := rfl
@[simp] theorem usedN_dens (n : Nat) : (s.usedN n).dens = s.dens := rfl
@[simp] theorem usedN_tblw (n : Nat) : (s.usedN n).tblw = s.tblw := rfl
@[simp] theorem usedN_ports (n : Nat) : (s.usedN n).ports = s.ports := rfl
@[simp] theorem usedN_doms (n : Nat) : (s.usedN n).doms = s.doms := rfl
@[simp] theorem usedN_slots (n : Nat) : (s.usedN n).slots = s.slots := rfl
@[simp] theorem usedN_owl (n : Nat) : (s.usedN n).owl = s.owl := rfl
@[simp] theorem usedN_chk (n : Nat) : (s.usedN n).chk = s.chk := rfl
@[simp] theorem usedN_tel (n : Nat) : (s.usedN n).tel = s.tel := rfl
@[simp] theorem usedN_chan (n : Nat) : (s.usedN n).chan = s.chan := rfl
@[simp] theorem usedN_wen (n : Nat) : (s.usedN n).wen = s.wen := rfl
@[simp] theorem usedN_slcs (n : Nat) : (s.usedN n).slcs = s.slcs := rfl
@[simp] theorem usedN_fab (n : Nat) : (s.usedN n).fab = s.fab := rfl
@[simp] theorem usedN_faultN (n : Nat) : (s.usedN n).faultN = s.faultN := rfl
@[simp] theorem usedN_rd (n : Nat) (r : Nat) : (s.usedN n).rd r = s.rd r := rfl
@[simp] theorem usedN_get (n : Nat) (r : Nat) (F : Fld) : (s.usedN n).get r F = s.get r F := rfl
@[simp] theorem usedN_on (n : Nat) (r : Nat) (F : Fld) : (s.usedN n).on r F = s.on r F := rfl

/-! ### setLane -/

@[simp] theorem setLane_pending (g n : Nat) (f : Lane → Lane) : (s.setLane g n f).pending = s.pending := rfl
@[simp] theorem setLane_now (g n : Nat) (f : Lane → Lane) : (s.setLane g n f).now = s.now := rfl
@[simp] theorem setLane_free (g n : Nat) (f : Lane → Lane) : (s.setLane g n f).free = s.free := rfl
@[simp] theorem setLane_regs (g n : Nat) (f : Lane → Lane) : (s.setLane g n f).regs = s.regs := rfl
@[simp] theorem setLane_out (g n : Nat) (f : Lane → Lane) : (s.setLane g n f).out = s.out := rfl
@[simp] theorem setLane_faults (g n : Nat) (f : Lane → Lane) : (s.setLane g n f).faults = s.faults := rfl
@[simp] theorem setLane_cmem (g n : Nat) (f : Lane → Lane) : (s.setLane g n f).cmem = s.cmem := rfl
@[simp] theorem setLane_flash0 (g n : Nat) (f : Lane → Lane) : (s.setLane g n f).flash0 = s.flash0 := rfl
@[simp] theorem setLane_flash1 (g n : Nat) (f : Lane → Lane) : (s.setLane g n f).flash1 = s.flash1 := rfl
@[simp] theorem setLane_flashSize (g n : Nat) (f : Lane → Lane) : (s.setLane g n f).flashSize = s.flashSize := rfl
@[simp] theorem setLane_boot (g n : Nat) (f : Lane → Lane) : (s.setLane g n f).boot = s.boot := rfl
@[simp] theorem setLane_pwr (g n : Nat) (f : Lane → Lane) : (s.setLane g n f).pwr = s.pwr := rfl
@[simp] theorem setLane_sec (g n : Nat) (f : Lane → Lane) : (s.setLane g n f).sec = s.sec := rfl
@[simp] theorem setLane_samp (g n : Nat) (f : Lane → Lane) : (s.setLane g n f).samp = s.samp := rfl
@[simp] theorem setLane_lanes (g n : Nat) (f : Lane → Lane) : (s.setLane g n f).lanes = s.lanes.upd dLane (g * 17 + n) f := rfl
@[simp] theorem setLane_links (g n : Nat) (f : Lane → Lane) : (s.setLane g n f).links = s.links := rfl
@[simp] theorem setLane_eq (g n : Nat) (f : Lane → Lane) : (s.setLane g n f).eq = s.eq := rfl
@[simp] theorem setLane_sett (g n : Nat) (f : Lane → Lane) : (s.setLane g n f).sett = s.sett := rfl
@[simp] theorem setLane_dens (g n : Nat) (f : Lane → Lane) : (s.setLane g n f).dens = s.dens := rfl
@[simp] theorem setLane_tblw (g n : Nat) (f : Lane → Lane) : (s.setLane g n f).tblw = s.tblw := rfl
@[simp] theorem setLane_ports (g n : Nat) (f : Lane → Lane) : (s.setLane g n f).ports = s.ports := rfl
@[simp] theorem setLane_doms (g n : Nat) (f : Lane → Lane) : (s.setLane g n f).doms = s.doms := rfl
@[simp] theorem setLane_slots (g n : Nat) (f : Lane → Lane) : (s.setLane g n f).slots = s.slots := rfl
@[simp] theorem setLane_owl (g n : Nat) (f : Lane → Lane) : (s.setLane g n f).owl = s.owl := rfl
@[simp] theorem setLane_chk (g n : Nat) (f : Lane → Lane) : (s.setLane g n f).chk = s.chk := rfl
@[simp] theorem setLane_tel (g n : Nat) (f : Lane → Lane) : (s.setLane g n f).tel = s.tel := rfl
@[simp] theorem setLane_chan (g n : Nat) (f : Lane → Lane) : (s.setLane g n f).chan = s.chan := rfl
@[simp] theorem setLane_wen (g n : Nat) (f : Lane → Lane) : (s.setLane g n f).wen = s.wen := rfl
@[simp] theorem setLane_slcs (g n : Nat) (f : Lane → Lane) : (s.setLane g n f).slcs = s.slcs := rfl
@[simp] theorem setLane_fab (g n : Nat) (f : Lane → Lane) : (s.setLane g n f).fab = s.fab := rfl
@[simp] theorem setLane_faultN (g n : Nat) (f : Lane → Lane) : (s.setLane g n f).faultN = s.faultN := rfl
@[simp] theorem setLane_rd (g n : Nat) (f : Lane → Lane) (r : Nat) : (s.setLane g n f).rd r = s.rd r := rfl
@[simp] theorem setLane_get (g n : Nat) (f : Lane → Lane) (r : Nat) (F : Fld) : (s.setLane g n f).get r F = s.get r F := rfl
@[simp] theorem setLane_on (g n : Nat) (f : Lane → Lane) (r : Nat) (F : Fld) : (s.setLane g n f).on r F = s.on r F := rfl

/-! ### setLink -/

@[simp] theorem setLink_pending (g p : Nat) (f : Link → Link) : (s.setLink g p f).pending = s.pending := rfl
@[simp] theorem setLink_now (g p : Nat) (f : Link → Link) : (s.setLink g p f).now = s.now := rfl
@[simp] theorem setLink_free (g p : Nat) (f : Link → Link) : (s.setLink g p f).free = s.free := rfl
@[simp] theorem setLink_regs (g p : Nat) (f : Link → Link) : (s.setLink g p f).regs = s.regs := rfl
@[simp] theorem setLink_out (g p : Nat) (f : Link → Link) : (s.setLink g p f).out = s.out := rfl
@[simp] theorem setLink_faults (g p : Nat) (f : Link → Link) : (s.setLink g p f).faults = s.faults := rfl
@[simp] theorem setLink_cmem (g p : Nat) (f : Link → Link) : (s.setLink g p f).cmem = s.cmem := rfl
@[simp] theorem setLink_flash0 (g p : Nat) (f : Link → Link) : (s.setLink g p f).flash0 = s.flash0 := rfl
@[simp] theorem setLink_flash1 (g p : Nat) (f : Link → Link) : (s.setLink g p f).flash1 = s.flash1 := rfl
@[simp] theorem setLink_flashSize (g p : Nat) (f : Link → Link) : (s.setLink g p f).flashSize = s.flashSize := rfl
@[simp] theorem setLink_boot (g p : Nat) (f : Link → Link) : (s.setLink g p f).boot = s.boot := rfl
@[simp] theorem setLink_pwr (g p : Nat) (f : Link → Link) : (s.setLink g p f).pwr = s.pwr := rfl
@[simp] theorem setLink_sec (g p : Nat) (f : Link → Link) : (s.setLink g p f).sec = s.sec := rfl
@[simp] theorem setLink_samp (g p : Nat) (f : Link → Link) : (s.setLink g p f).samp = s.samp := rfl
@[simp] theorem setLink_lanes (g p : Nat) (f : Link → Link) : (s.setLink g p f).lanes = s.lanes := rfl
@[simp] theorem setLink_links (g p : Nat) (f : Link → Link) : (s.setLink g p f).links = s.links.upd dLink (g * 8 + p) f := rfl
@[simp] theorem setLink_eq (g p : Nat) (f : Link → Link) : (s.setLink g p f).eq = s.eq := rfl
@[simp] theorem setLink_sett (g p : Nat) (f : Link → Link) : (s.setLink g p f).sett = s.sett := rfl
@[simp] theorem setLink_dens (g p : Nat) (f : Link → Link) : (s.setLink g p f).dens = s.dens := rfl
@[simp] theorem setLink_tblw (g p : Nat) (f : Link → Link) : (s.setLink g p f).tblw = s.tblw := rfl
@[simp] theorem setLink_ports (g p : Nat) (f : Link → Link) : (s.setLink g p f).ports = s.ports := rfl
@[simp] theorem setLink_doms (g p : Nat) (f : Link → Link) : (s.setLink g p f).doms = s.doms := rfl
@[simp] theorem setLink_slots (g p : Nat) (f : Link → Link) : (s.setLink g p f).slots = s.slots := rfl
@[simp] theorem setLink_owl (g p : Nat) (f : Link → Link) : (s.setLink g p f).owl = s.owl := rfl
@[simp] theorem setLink_chk (g p : Nat) (f : Link → Link) : (s.setLink g p f).chk = s.chk := rfl
@[simp] theorem setLink_tel (g p : Nat) (f : Link → Link) : (s.setLink g p f).tel = s.tel := rfl
@[simp] theorem setLink_chan (g p : Nat) (f : Link → Link) : (s.setLink g p f).chan = s.chan := rfl
@[simp] theorem setLink_wen (g p : Nat) (f : Link → Link) : (s.setLink g p f).wen = s.wen := rfl
@[simp] theorem setLink_slcs (g p : Nat) (f : Link → Link) : (s.setLink g p f).slcs = s.slcs := rfl
@[simp] theorem setLink_fab (g p : Nat) (f : Link → Link) : (s.setLink g p f).fab = s.fab := rfl
@[simp] theorem setLink_faultN (g p : Nat) (f : Link → Link) : (s.setLink g p f).faultN = s.faultN := rfl
@[simp] theorem setLink_rd (g p : Nat) (f : Link → Link) (r : Nat) : (s.setLink g p f).rd r = s.rd r := rfl
@[simp] theorem setLink_get (g p : Nat) (f : Link → Link) (r : Nat) (F : Fld) : (s.setLink g p f).get r F = s.get r F := rfl
@[simp] theorem setLink_on (g p : Nat) (f : Link → Link) (r : Nat) (F : Fld) : (s.setLink g p f).on r F = s.on r F := rfl

/-! ### setPort -/

@[simp] theorem setPort_pending (P : Nat) (f : PPort → PPort) : (s.setPort P f).pending = s.pending := rfl
@[simp] theorem setPort_now (P : Nat) (f : PPort → PPort) : (s.setPort P f).now = s.now := rfl
@[simp] theorem setPort_free (P : Nat) (f : PPort → PPort) : (s.setPort P f).free = s.free := rfl
@[simp] theorem setPort_regs (P : Nat) (f : PPort → PPort) : (s.setPort P f).regs = s.regs := rfl
@[simp] theorem setPort_out (P : Nat) (f : PPort → PPort) : (s.setPort P f).out = s.out := rfl
@[simp] theorem setPort_faults (P : Nat) (f : PPort → PPort) : (s.setPort P f).faults = s.faults := rfl
@[simp] theorem setPort_cmem (P : Nat) (f : PPort → PPort) : (s.setPort P f).cmem = s.cmem := rfl
@[simp] theorem setPort_flash0 (P : Nat) (f : PPort → PPort) : (s.setPort P f).flash0 = s.flash0 := rfl
@[simp] theorem setPort_flash1 (P : Nat) (f : PPort → PPort) : (s.setPort P f).flash1 = s.flash1 := rfl
@[simp] theorem setPort_flashSize (P : Nat) (f : PPort → PPort) : (s.setPort P f).flashSize = s.flashSize := rfl
@[simp] theorem setPort_boot (P : Nat) (f : PPort → PPort) : (s.setPort P f).boot = s.boot := rfl
@[simp] theorem setPort_pwr (P : Nat) (f : PPort → PPort) : (s.setPort P f).pwr = s.pwr := rfl
@[simp] theorem setPort_sec (P : Nat) (f : PPort → PPort) : (s.setPort P f).sec = s.sec := rfl
@[simp] theorem setPort_samp (P : Nat) (f : PPort → PPort) : (s.setPort P f).samp = s.samp := rfl
@[simp] theorem setPort_lanes (P : Nat) (f : PPort → PPort) : (s.setPort P f).lanes = s.lanes := rfl
@[simp] theorem setPort_links (P : Nat) (f : PPort → PPort) : (s.setPort P f).links = s.links := rfl
@[simp] theorem setPort_eq (P : Nat) (f : PPort → PPort) : (s.setPort P f).eq = s.eq := rfl
@[simp] theorem setPort_sett (P : Nat) (f : PPort → PPort) : (s.setPort P f).sett = s.sett := rfl
@[simp] theorem setPort_dens (P : Nat) (f : PPort → PPort) : (s.setPort P f).dens = s.dens := rfl
@[simp] theorem setPort_tblw (P : Nat) (f : PPort → PPort) : (s.setPort P f).tblw = s.tblw := rfl
@[simp] theorem setPort_ports (P : Nat) (f : PPort → PPort) : (s.setPort P f).ports = s.ports.upd dPort P f := rfl
@[simp] theorem setPort_doms (P : Nat) (f : PPort → PPort) : (s.setPort P f).doms = s.doms := rfl
@[simp] theorem setPort_slots (P : Nat) (f : PPort → PPort) : (s.setPort P f).slots = s.slots := rfl
@[simp] theorem setPort_owl (P : Nat) (f : PPort → PPort) : (s.setPort P f).owl = s.owl := rfl
@[simp] theorem setPort_chk (P : Nat) (f : PPort → PPort) : (s.setPort P f).chk = s.chk := rfl
@[simp] theorem setPort_tel (P : Nat) (f : PPort → PPort) : (s.setPort P f).tel = s.tel := rfl
@[simp] theorem setPort_chan (P : Nat) (f : PPort → PPort) : (s.setPort P f).chan = s.chan := rfl
@[simp] theorem setPort_wen (P : Nat) (f : PPort → PPort) : (s.setPort P f).wen = s.wen := rfl
@[simp] theorem setPort_slcs (P : Nat) (f : PPort → PPort) : (s.setPort P f).slcs = s.slcs := rfl
@[simp] theorem setPort_fab (P : Nat) (f : PPort → PPort) : (s.setPort P f).fab = s.fab := rfl
@[simp] theorem setPort_faultN (P : Nat) (f : PPort → PPort) : (s.setPort P f).faultN = s.faultN := rfl
@[simp] theorem setPort_rd (P : Nat) (f : PPort → PPort) (r : Nat) : (s.setPort P f).rd r = s.rd r := rfl
@[simp] theorem setPort_get (P : Nat) (f : PPort → PPort) (r : Nat) (F : Fld) : (s.setPort P f).get r F = s.get r F := rfl
@[simp] theorem setPort_on (P : Nat) (f : PPort → PPort) (r : Nat) (F : Fld) : (s.setPort P f).on r F = s.on r F := rfl

/-! ### setDom -/

@[simp] theorem setDom_pending (h : Nat) (f : Dom → Dom) : (s.setDom h f).pending = s.pending := rfl
@[simp] theorem setDom_now (h : Nat) (f : Dom → Dom) : (s.setDom h f).now = s.now := rfl
@[simp] theorem setDom_free (h : Nat) (f : Dom → Dom) : (s.setDom h f).free = s.free := rfl
@[simp] theorem setDom_regs (h : Nat) (f : Dom → Dom) : (s.setDom h f).regs = s.regs := rfl
@[simp] theorem setDom_out (h : Nat) (f : Dom → Dom) : (s.setDom h f).out = s.out := rfl
@[simp] theorem setDom_faults (h : Nat) (f : Dom → Dom) : (s.setDom h f).faults = s.faults := rfl
@[simp] theorem setDom_cmem (h : Nat) (f : Dom → Dom) : (s.setDom h f).cmem = s.cmem := rfl
@[simp] theorem setDom_flash0 (h : Nat) (f : Dom → Dom) : (s.setDom h f).flash0 = s.flash0 := rfl
@[simp] theorem setDom_flash1 (h : Nat) (f : Dom → Dom) : (s.setDom h f).flash1 = s.flash1 := rfl
@[simp] theorem setDom_flashSize (h : Nat) (f : Dom → Dom) : (s.setDom h f).flashSize = s.flashSize := rfl
@[simp] theorem setDom_boot (h : Nat) (f : Dom → Dom) : (s.setDom h f).boot = s.boot := rfl
@[simp] theorem setDom_pwr (h : Nat) (f : Dom → Dom) : (s.setDom h f).pwr = s.pwr := rfl
@[simp] theorem setDom_sec (h : Nat) (f : Dom → Dom) : (s.setDom h f).sec = s.sec := rfl
@[simp] theorem setDom_samp (h : Nat) (f : Dom → Dom) : (s.setDom h f).samp = s.samp := rfl
@[simp] theorem setDom_lanes (h : Nat) (f : Dom → Dom) : (s.setDom h f).lanes = s.lanes := rfl
@[simp] theorem setDom_links (h : Nat) (f : Dom → Dom) : (s.setDom h f).links = s.links := rfl
@[simp] theorem setDom_eq (h : Nat) (f : Dom → Dom) : (s.setDom h f).eq = s.eq := rfl
@[simp] theorem setDom_sett (h : Nat) (f : Dom → Dom) : (s.setDom h f).sett = s.sett := rfl
@[simp] theorem setDom_dens (h : Nat) (f : Dom → Dom) : (s.setDom h f).dens = s.dens := rfl
@[simp] theorem setDom_tblw (h : Nat) (f : Dom → Dom) : (s.setDom h f).tblw = s.tblw := rfl
@[simp] theorem setDom_ports (h : Nat) (f : Dom → Dom) : (s.setDom h f).ports = s.ports := rfl
@[simp] theorem setDom_doms (h : Nat) (f : Dom → Dom) : (s.setDom h f).doms = s.doms.upd dDom h f := rfl
@[simp] theorem setDom_slots (h : Nat) (f : Dom → Dom) : (s.setDom h f).slots = s.slots := rfl
@[simp] theorem setDom_owl (h : Nat) (f : Dom → Dom) : (s.setDom h f).owl = s.owl := rfl
@[simp] theorem setDom_chk (h : Nat) (f : Dom → Dom) : (s.setDom h f).chk = s.chk := rfl
@[simp] theorem setDom_tel (h : Nat) (f : Dom → Dom) : (s.setDom h f).tel = s.tel := rfl
@[simp] theorem setDom_chan (h : Nat) (f : Dom → Dom) : (s.setDom h f).chan = s.chan := rfl
@[simp] theorem setDom_wen (h : Nat) (f : Dom → Dom) : (s.setDom h f).wen = s.wen := rfl
@[simp] theorem setDom_slcs (h : Nat) (f : Dom → Dom) : (s.setDom h f).slcs = s.slcs := rfl
@[simp] theorem setDom_fab (h : Nat) (f : Dom → Dom) : (s.setDom h f).fab = s.fab := rfl
@[simp] theorem setDom_faultN (h : Nat) (f : Dom → Dom) : (s.setDom h f).faultN = s.faultN := rfl
@[simp] theorem setDom_rd (h : Nat) (f : Dom → Dom) (r : Nat) : (s.setDom h f).rd r = s.rd r := rfl
@[simp] theorem setDom_get (h : Nat) (f : Dom → Dom) (r : Nat) (F : Fld) : (s.setDom h f).get r F = s.get r F := rfl
@[simp] theorem setDom_on (h : Nat) (f : Dom → Dom) (r : Nat) (F : Fld) : (s.setDom h f).on r F = s.on r F := rfl

/-! ### setDen -/

@[simp] theorem setDen_pending (d : Nat) (f : Den → Den) : (s.setDen d f).pending = s.pending := rfl
@[simp] theorem setDen_now (d : Nat) (f : Den → Den) : (s.setDen d f).now = s.now := rfl
@[simp] theorem setDen_free (d : Nat) (f : Den → Den) : (s.setDen d f).free = s.free := rfl
@[simp] theorem setDen_regs (d : Nat) (f : Den → Den) : (s.setDen d f).regs = s.regs := rfl
@[simp] theorem setDen_out (d : Nat) (f : Den → Den) : (s.setDen d f).out = s.out := rfl
@[simp] theorem setDen_faults (d : Nat) (f : Den → Den) : (s.setDen d f).faults = s.faults := rfl
@[simp] theorem setDen_cmem (d : Nat) (f : Den → Den) : (s.setDen d f).cmem = s.cmem := rfl
@[simp] theorem setDen_flash0 (d : Nat) (f : Den → Den) : (s.setDen d f).flash0 = s.flash0 := rfl
@[simp] theorem setDen_flash1 (d : Nat) (f : Den → Den) : (s.setDen d f).flash1 = s.flash1 := rfl
@[simp] theorem setDen_flashSize (d : Nat) (f : Den → Den) : (s.setDen d f).flashSize = s.flashSize := rfl
@[simp] theorem setDen_boot (d : Nat) (f : Den → Den) : (s.setDen d f).boot = s.boot := rfl
@[simp] theorem setDen_pwr (d : Nat) (f : Den → Den) : (s.setDen d f).pwr = s.pwr := rfl
@[simp] theorem setDen_sec (d : Nat) (f : Den → Den) : (s.setDen d f).sec = s.sec := rfl
@[simp] theorem setDen_samp (d : Nat) (f : Den → Den) : (s.setDen d f).samp = s.samp := rfl
@[simp] theorem setDen_lanes (d : Nat) (f : Den → Den) : (s.setDen d f).lanes = s.lanes := rfl
@[simp] theorem setDen_links (d : Nat) (f : Den → Den) : (s.setDen d f).links = s.links := rfl
@[simp] theorem setDen_eq (d : Nat) (f : Den → Den) : (s.setDen d f).eq = s.eq := rfl
@[simp] theorem setDen_sett (d : Nat) (f : Den → Den) : (s.setDen d f).sett = s.sett := rfl
@[simp] theorem setDen_dens (d : Nat) (f : Den → Den) : (s.setDen d f).dens = s.dens.upd dDen d f := rfl
@[simp] theorem setDen_tblw (d : Nat) (f : Den → Den) : (s.setDen d f).tblw = s.tblw := rfl
@[simp] theorem setDen_ports (d : Nat) (f : Den → Den) : (s.setDen d f).ports = s.ports := rfl
@[simp] theorem setDen_doms (d : Nat) (f : Den → Den) : (s.setDen d f).doms = s.doms := rfl
@[simp] theorem setDen_slots (d : Nat) (f : Den → Den) : (s.setDen d f).slots = s.slots := rfl
@[simp] theorem setDen_owl (d : Nat) (f : Den → Den) : (s.setDen d f).owl = s.owl := rfl
@[simp] theorem setDen_chk (d : Nat) (f : Den → Den) : (s.setDen d f).chk = s.chk := rfl
@[simp] theorem setDen_tel (d : Nat) (f : Den → Den) : (s.setDen d f).tel = s.tel := rfl
@[simp] theorem setDen_chan (d : Nat) (f : Den → Den) : (s.setDen d f).chan = s.chan := rfl
@[simp] theorem setDen_wen (d : Nat) (f : Den → Den) : (s.setDen d f).wen = s.wen := rfl
@[simp] theorem setDen_slcs (d : Nat) (f : Den → Den) : (s.setDen d f).slcs = s.slcs := rfl
@[simp] theorem setDen_fab (d : Nat) (f : Den → Den) : (s.setDen d f).fab = s.fab := rfl
@[simp] theorem setDen_faultN (d : Nat) (f : Den → Den) : (s.setDen d f).faultN = s.faultN := rfl
@[simp] theorem setDen_rd (d : Nat) (f : Den → Den) (r : Nat) : (s.setDen d f).rd r = s.rd r := rfl
@[simp] theorem setDen_get (d : Nat) (f : Den → Den) (r : Nat) (F : Fld) : (s.setDen d f).get r F = s.get r F := rfl
@[simp] theorem setDen_on (d : Nat) (f : Den → Den) (r : Nat) (F : Fld) : (s.setDen d f).on r F = s.on r F := rfl

/-! ### setSett -/

@[simp] theorem setSett_pending (f : Sett → Sett) : (s.setSett f).pending = s.pending := rfl
@[simp] theorem setSett_now (f : Sett → Sett) : (s.setSett f).now = s.now := rfl
@[simp] theorem setSett_free (f : Sett → Sett) : (s.setSett f).free = s.free := rfl
@[simp] theorem setSett_regs (f : Sett → Sett) : (s.setSett f).regs = s.regs := rfl
@[simp] theorem setSett_out (f : Sett → Sett) : (s.setSett f).out = s.out := rfl
@[simp] theorem setSett_faults (f : Sett → Sett) : (s.setSett f).faults = s.faults := rfl
@[simp] theorem setSett_cmem (f : Sett → Sett) : (s.setSett f).cmem = s.cmem := rfl
@[simp] theorem setSett_flash0 (f : Sett → Sett) : (s.setSett f).flash0 = s.flash0 := rfl
@[simp] theorem setSett_flash1 (f : Sett → Sett) : (s.setSett f).flash1 = s.flash1 := rfl
@[simp] theorem setSett_flashSize (f : Sett → Sett) : (s.setSett f).flashSize = s.flashSize := rfl
@[simp] theorem setSett_boot (f : Sett → Sett) : (s.setSett f).boot = s.boot := rfl
@[simp] theorem setSett_pwr (f : Sett → Sett) : (s.setSett f).pwr = s.pwr := rfl
@[simp] theorem setSett_sec (f : Sett → Sett) : (s.setSett f).sec = s.sec := rfl
@[simp] theorem setSett_samp (f : Sett → Sett) : (s.setSett f).samp = s.samp := rfl
@[simp] theorem setSett_lanes (f : Sett → Sett) : (s.setSett f).lanes = s.lanes := rfl
@[simp] theorem setSett_links (f : Sett → Sett) : (s.setSett f).links = s.links := rfl
@[simp] theorem setSett_eq (f : Sett → Sett) : (s.setSett f).eq = s.eq := rfl
@[simp] theorem setSett_sett (f : Sett → Sett) : (s.setSett f).sett = f s.sett := rfl
@[simp] theorem setSett_dens (f : Sett → Sett) : (s.setSett f).dens = s.dens := rfl
@[simp] theorem setSett_tblw (f : Sett → Sett) : (s.setSett f).tblw = s.tblw := rfl
@[simp] theorem setSett_ports (f : Sett → Sett) : (s.setSett f).ports = s.ports := rfl
@[simp] theorem setSett_doms (f : Sett → Sett) : (s.setSett f).doms = s.doms := rfl
@[simp] theorem setSett_slots (f : Sett → Sett) : (s.setSett f).slots = s.slots := rfl
@[simp] theorem setSett_owl (f : Sett → Sett) : (s.setSett f).owl = s.owl := rfl
@[simp] theorem setSett_chk (f : Sett → Sett) : (s.setSett f).chk = s.chk := rfl
@[simp] theorem setSett_tel (f : Sett → Sett) : (s.setSett f).tel = s.tel := rfl
@[simp] theorem setSett_chan (f : Sett → Sett) : (s.setSett f).chan = s.chan := rfl
@[simp] theorem setSett_wen (f : Sett → Sett) : (s.setSett f).wen = s.wen := rfl
@[simp] theorem setSett_slcs (f : Sett → Sett) : (s.setSett f).slcs = s.slcs := rfl
@[simp] theorem setSett_fab (f : Sett → Sett) : (s.setSett f).fab = s.fab := rfl
@[simp] theorem setSett_faultN (f : Sett → Sett) : (s.setSett f).faultN = s.faultN := rfl
@[simp] theorem setSett_rd (f : Sett → Sett) (r : Nat) : (s.setSett f).rd r = s.rd r := rfl
@[simp] theorem setSett_get (f : Sett → Sett) (r : Nat) (F : Fld) : (s.setSett f).get r F = s.get r F := rfl
@[simp] theorem setSett_on (f : Sett → Sett) (r : Nat) (F : Fld) : (s.setSett f).on r F = s.on r F := rfl

/-! ### setWen -/

@[simp] theorem setWen_pending (f : Wen → Wen) : (s.setWen f).pending = s.pending := rfl
@[simp] theorem setWen_now (f : Wen → Wen) : (s.setWen f).now = s.now := rfl
@[simp] theorem setWen_free (f : Wen → Wen) : (s.setWen f).free = s.free := rfl
@[simp] theorem setWen_regs (f : Wen → Wen) : (s.setWen f).regs = s.regs := rfl
@[simp] theorem setWen_out (f : Wen → Wen) : (s.setWen f).out = s.out := rfl
@[simp] theorem setWen_faults (f : Wen → Wen) : (s.setWen f).faults = s.faults := rfl
@[simp] theorem setWen_cmem (f : Wen → Wen) : (s.setWen f).cmem = s.cmem := rfl
@[simp] theorem setWen_flash0 (f : Wen → Wen) : (s.setWen f).flash0 = s.flash0 := rfl
@[simp] theorem setWen_flash1 (f : Wen → Wen) : (s.setWen f).flash1 = s.flash1 := rfl
@[simp] theorem setWen_flashSize (f : Wen → Wen) : (s.setWen f).flashSize = s.flashSize := rfl
@[simp] theorem setWen_boot (f : Wen → Wen) : (s.setWen f).boot = s.boot := rfl
@[simp] theorem setWen_pwr (f : Wen → Wen) : (s.setWen f).pwr = s.pwr := rfl
@[simp] theorem setWen_sec (f : Wen → Wen) : (s.setWen f).sec = s.sec := rfl
@[simp] theorem setWen_samp (f : Wen → Wen) : (s.setWen f).samp = s.samp := rfl
@[simp] theorem setWen_lanes (f : Wen → Wen) : (s.setWen f).lanes = s.lanes := rfl
@[simp] theorem setWen_links (f : Wen → Wen) : (s.setWen f).links = s.links := rfl
@[simp] theorem setWen_eq (f : Wen → Wen) : (s.setWen f).eq = s.eq := rfl
@[simp] theorem setWen_sett (f : Wen → Wen) : (s.setWen f).sett = s.sett := rfl
@[simp] theorem setWen_dens (f : Wen → Wen) : (s.setWen f).dens = s.dens := rfl
@[simp] theorem setWen_tblw (f : Wen → Wen) : (s.setWen f).tblw = s.tblw := rfl
@[simp] theorem setWen_ports (f : Wen → Wen) : (s.setWen f).ports = s.ports := rfl
@[simp] theorem setWen_doms (f : Wen → Wen) : (s.setWen f).doms = s.doms := rfl
@[simp] theorem setWen_slots (f : Wen → Wen) : (s.setWen f).slots = s.slots := rfl
@[simp] theorem setWen_owl (f : Wen → Wen) : (s.setWen f).owl = s.owl := rfl
@[simp] theorem setWen_chk (f : Wen → Wen) : (s.setWen f).chk = s.chk := rfl
@[simp] theorem setWen_tel (f : Wen → Wen) : (s.setWen f).tel = s.tel := rfl
@[simp] theorem setWen_chan (f : Wen → Wen) : (s.setWen f).chan = s.chan := rfl
@[simp] theorem setWen_wen (f : Wen → Wen) : (s.setWen f).wen = f s.wen := rfl
@[simp] theorem setWen_slcs (f : Wen → Wen) : (s.setWen f).slcs = s.slcs := rfl
@[simp] theorem setWen_fab (f : Wen → Wen) : (s.setWen f).fab = s.fab := rfl
@[simp] theorem setWen_faultN (f : Wen → Wen) : (s.setWen f).faultN = s.faultN := rfl
@[simp] theorem setWen_rd (f : Wen → Wen) (r : Nat) : (s.setWen f).rd r = s.rd r := rfl
@[simp] theorem setWen_get (f : Wen → Wen) (r : Nat) (F : Fld) : (s.setWen f).get r F = s.get r F := rfl
@[simp] theorem setWen_on (f : Wen → Wen) (r : Nat) (F : Fld) : (s.setWen f).on r F = s.on r F := rfl

/-! ### setFab -/

@[simp] theorem setFab_pending (f : Fab → Fab) : (s.setFab f).pending = s.pending := rfl
@[simp] theorem setFab_now (f : Fab → Fab) : (s.setFab f).now = s.now := rfl
@[simp] theorem setFab_free (f : Fab → Fab) : (s.setFab f).free = s.free := rfl
@[simp] theorem setFab_regs (f : Fab → Fab) : (s.setFab f).regs = s.regs := rfl
@[simp] theorem setFab_out (f : Fab → Fab) : (s.setFab f).out = s.out := rfl
@[simp] theorem setFab_faults (f : Fab → Fab) : (s.setFab f).faults = s.faults := rfl
@[simp] theorem setFab_cmem (f : Fab → Fab) : (s.setFab f).cmem = s.cmem := rfl
@[simp] theorem setFab_flash0 (f : Fab → Fab) : (s.setFab f).flash0 = s.flash0 := rfl
@[simp] theorem setFab_flash1 (f : Fab → Fab) : (s.setFab f).flash1 = s.flash1 := rfl
@[simp] theorem setFab_flashSize (f : Fab → Fab) : (s.setFab f).flashSize = s.flashSize := rfl
@[simp] theorem setFab_boot (f : Fab → Fab) : (s.setFab f).boot = s.boot := rfl
@[simp] theorem setFab_pwr (f : Fab → Fab) : (s.setFab f).pwr = s.pwr := rfl
@[simp] theorem setFab_sec (f : Fab → Fab) : (s.setFab f).sec = s.sec := rfl
@[simp] theorem setFab_samp (f : Fab → Fab) : (s.setFab f).samp = s.samp := rfl
@[simp] theorem setFab_lanes (f : Fab → Fab) : (s.setFab f).lanes = s.lanes := rfl
@[simp] theorem setFab_links (f : Fab → Fab) : (s.setFab f).links = s.links := rfl
@[simp] theorem setFab_eq (f : Fab → Fab) : (s.setFab f).eq = s.eq := rfl
@[simp] theorem setFab_sett (f : Fab → Fab) : (s.setFab f).sett = s.sett := rfl
@[simp] theorem setFab_dens (f : Fab → Fab) : (s.setFab f).dens = s.dens := rfl
@[simp] theorem setFab_tblw (f : Fab → Fab) : (s.setFab f).tblw = s.tblw := rfl
@[simp] theorem setFab_ports (f : Fab → Fab) : (s.setFab f).ports = s.ports := rfl
@[simp] theorem setFab_doms (f : Fab → Fab) : (s.setFab f).doms = s.doms := rfl
@[simp] theorem setFab_slots (f : Fab → Fab) : (s.setFab f).slots = s.slots := rfl
@[simp] theorem setFab_owl (f : Fab → Fab) : (s.setFab f).owl = s.owl := rfl
@[simp] theorem setFab_chk (f : Fab → Fab) : (s.setFab f).chk = s.chk := rfl
@[simp] theorem setFab_tel (f : Fab → Fab) : (s.setFab f).tel = s.tel := rfl
@[simp] theorem setFab_chan (f : Fab → Fab) : (s.setFab f).chan = s.chan := rfl
@[simp] theorem setFab_wen (f : Fab → Fab) : (s.setFab f).wen = s.wen := rfl
@[simp] theorem setFab_slcs (f : Fab → Fab) : (s.setFab f).slcs = s.slcs := rfl
@[simp] theorem setFab_fab (f : Fab → Fab) : (s.setFab f).fab = f s.fab := rfl
@[simp] theorem setFab_faultN (f : Fab → Fab) : (s.setFab f).faultN = s.faultN := rfl
@[simp] theorem setFab_rd (f : Fab → Fab) (r : Nat) : (s.setFab f).rd r = s.rd r := rfl
@[simp] theorem setFab_get (f : Fab → Fab) (r : Nat) (F : Fld) : (s.setFab f).get r F = s.get r F := rfl
@[simp] theorem setFab_on (f : Fab → Fab) (r : Nat) (F : Fld) : (s.setFab f).on r F = s.on r F := rfl

/-! ### setSlc -/

@[simp] theorem setSlc_pending (k : Nat) (f : Slc → Slc) : (s.setSlc k f).pending = s.pending := rfl
@[simp] theorem setSlc_now (k : Nat) (f : Slc → Slc) : (s.setSlc k f).now = s.now := rfl
@[simp] theorem setSlc_free (k : Nat) (f : Slc → Slc) : (s.setSlc k f).free = s.free := rfl
@[simp] theorem setSlc_regs (k : Nat) (f : Slc → Slc) : (s.setSlc k f).regs = s.regs := rfl
@[simp] theorem setSlc_out (k : Nat) (f : Slc → Slc) : (s.setSlc k f).out = s.out := rfl
@[simp] theorem setSlc_faults (k : Nat) (f : Slc → Slc) : (s.setSlc k f).faults = s.faults := rfl
@[simp] theorem setSlc_cmem (k : Nat) (f : Slc → Slc) : (s.setSlc k f).cmem = s.cmem := rfl
@[simp] theorem setSlc_flash0 (k : Nat) (f : Slc → Slc) : (s.setSlc k f).flash0 = s.flash0 := rfl
@[simp] theorem setSlc_flash1 (k : Nat) (f : Slc → Slc) : (s.setSlc k f).flash1 = s.flash1 := rfl
@[simp] theorem setSlc_flashSize (k : Nat) (f : Slc → Slc) : (s.setSlc k f).flashSize = s.flashSize := rfl
@[simp] theorem setSlc_boot (k : Nat) (f : Slc → Slc) : (s.setSlc k f).boot = s.boot := rfl
@[simp] theorem setSlc_pwr (k : Nat) (f : Slc → Slc) : (s.setSlc k f).pwr = s.pwr := rfl
@[simp] theorem setSlc_sec (k : Nat) (f : Slc → Slc) : (s.setSlc k f).sec = s.sec := rfl
@[simp] theorem setSlc_samp (k : Nat) (f : Slc → Slc) : (s.setSlc k f).samp = s.samp := rfl
@[simp] theorem setSlc_lanes (k : Nat) (f : Slc → Slc) : (s.setSlc k f).lanes = s.lanes := rfl
@[simp] theorem setSlc_links (k : Nat) (f : Slc → Slc) : (s.setSlc k f).links = s.links := rfl
@[simp] theorem setSlc_eq (k : Nat) (f : Slc → Slc) : (s.setSlc k f).eq = s.eq := rfl
@[simp] theorem setSlc_sett (k : Nat) (f : Slc → Slc) : (s.setSlc k f).sett = s.sett := rfl
@[simp] theorem setSlc_dens (k : Nat) (f : Slc → Slc) : (s.setSlc k f).dens = s.dens := rfl
@[simp] theorem setSlc_tblw (k : Nat) (f : Slc → Slc) : (s.setSlc k f).tblw = s.tblw := rfl
@[simp] theorem setSlc_ports (k : Nat) (f : Slc → Slc) : (s.setSlc k f).ports = s.ports := rfl
@[simp] theorem setSlc_doms (k : Nat) (f : Slc → Slc) : (s.setSlc k f).doms = s.doms := rfl
@[simp] theorem setSlc_slots (k : Nat) (f : Slc → Slc) : (s.setSlc k f).slots = s.slots := rfl
@[simp] theorem setSlc_owl (k : Nat) (f : Slc → Slc) : (s.setSlc k f).owl = s.owl := rfl
@[simp] theorem setSlc_chk (k : Nat) (f : Slc → Slc) : (s.setSlc k f).chk = s.chk := rfl
@[simp] theorem setSlc_tel (k : Nat) (f : Slc → Slc) : (s.setSlc k f).tel = s.tel := rfl
@[simp] theorem setSlc_chan (k : Nat) (f : Slc → Slc) : (s.setSlc k f).chan = s.chan := rfl
@[simp] theorem setSlc_wen (k : Nat) (f : Slc → Slc) : (s.setSlc k f).wen = s.wen := rfl
@[simp] theorem setSlc_slcs (k : Nat) (f : Slc → Slc) : (s.setSlc k f).slcs = s.slcs.upd (fun _ => {}) k f := rfl
@[simp] theorem setSlc_fab (k : Nat) (f : Slc → Slc) : (s.setSlc k f).fab = s.fab := rfl
@[simp] theorem setSlc_faultN (k : Nat) (f : Slc → Slc) : (s.setSlc k f).faultN = s.faultN := rfl
@[simp] theorem setSlc_rd (k : Nat) (f : Slc → Slc) (r : Nat) : (s.setSlc k f).rd r = s.rd r := rfl
@[simp] theorem setSlc_get (k : Nat) (f : Slc → Slc) (r : Nat) (F : Fld) : (s.setSlc k f).get r F = s.get r F := rfl
@[simp] theorem setSlc_on (k : Nat) (f : Slc → Slc) (r : Nat) (F : Fld) : (s.setSlc k f).on r F = s.on r F := rfl

/-! ### cmemPut -/

@[simp] theorem cmemPut_pending (off : Nat) (bs : List Byte) : (s.cmemPut off bs).pending = s.pending := rfl
@[simp] theorem cmemPut_now (off : Nat) (bs : List Byte) : (s.cmemPut off bs).now = s.now := rfl
@[simp] theorem cmemPut_free (off : Nat) (bs : List Byte) : (s.cmemPut off bs).free = s.free := rfl
@[simp] theorem cmemPut_regs (off : Nat) (bs : List Byte) : (s.cmemPut off bs).regs = s.regs := rfl
@[simp] theorem cmemPut_out (off : Nat) (bs : List Byte) : (s.cmemPut off bs).out = s.out := rfl
@[simp] theorem cmemPut_faults (off : Nat) (bs : List Byte) : (s.cmemPut off bs).faults = s.faults := rfl
@[simp] theorem cmemPut_cmem (off : Nat) (bs : List Byte) : (s.cmemPut off bs).cmem = putBytes zeroByte s.cmem off bs := rfl
@[simp] theorem cmemPut_flash0 (off : Nat) (bs : List Byte) : (s.cmemPut off bs).flash0 = s.flash0 := rfl
@[simp] theorem cmemPut_flash1 (off : Nat) (bs : List Byte) : (s.cmemPut off bs).flash1 = s.flash1 := rfl
@[simp] theorem cmemPut_flashSize (off : Nat) (bs : List Byte) : (s.cmemPut off bs).flashSize = s.flashSize := rfl
@[simp] theorem cmemPut_boot (off : Nat) (bs : List Byte) : (s.cmemPut off bs).boot = s.boot := rfl
@[simp] theorem cmemPut_pwr (off : Nat) (bs : List Byte) : (s.cmemPut off bs).pwr = s.pwr := rfl
@[simp] theorem cmemPut_sec (off : Nat) (bs : List Byte) : (s.cmemPut off bs).sec = s.sec := rfl
@[simp] theorem cmemPut_samp (off : Nat) (bs : List Byte) : (s.cmemPut off bs).samp = s.samp := rfl
@[simp] theorem cmemPut_lanes (off : Nat) (bs : List Byte) : (s.cmemPut off bs).lanes = s.lanes := rfl
@[simp] theorem cmemPut_links (off : Nat) (bs : List Byte) : (s.cmemPut off bs).links = s.links := rfl
@[simp] theorem cmemPut_eq (off : Nat) (bs : List Byte) : (s.cmemPut off bs).eq = s.eq := rfl
@[simp] theorem cmemPut_sett (off : Nat) (bs : List Byte) : (s.cmemPut off bs).sett = s.sett := rfl
@[simp] theorem cmemPut_dens (off : Nat) (bs : List Byte) : (s.cmemPut off bs).dens = s.dens := rfl
@[simp] theorem cmemPut_tblw (off : Nat) (bs : List Byte) : (s.cmemPut off bs).tblw = s.tblw := rfl
@[simp] theorem cmemPut_ports (off : Nat) (bs : List Byte) : (s.cmemPut off bs).ports = s.ports := rfl
@[simp] theorem cmemPut_doms (off : Nat) (bs : List Byte) : (s.cmemPut off bs).doms = s.doms := rfl
@[simp] theorem cmemPut_slots (off : Nat) (bs : List Byte) : (s.cmemPut off bs).slots = s.slots := rfl
@[simp] theorem cmemPut_owl (off : Nat) (bs : List Byte) : (s.cmemPut off bs).owl = s.owl := rfl
@[simp] theorem cmemPut_chk (off : Nat) (bs : List Byte) : (s.cmemPut off bs).chk = s.chk := rfl
@[simp] theorem cmemPut_tel (off : Nat) (bs : List Byte) : (s.cmemPut off bs).tel = s.tel := rfl
@[simp] theorem cmemPut_chan (off : Nat) (bs : List Byte) : (s.cmemPut off bs).chan = s.chan := rfl
@[simp] theorem cmemPut_wen (off : Nat) (bs : List Byte) : (s.cmemPut off bs).wen = s.wen := rfl
@[simp] theorem cmemPut_slcs (off : Nat) (bs : List Byte) : (s.cmemPut off bs).slcs = s.slcs := rfl
@[simp] theorem cmemPut_fab (off : Nat) (bs : List Byte) : (s.cmemPut off bs).fab = s.fab := rfl
@[simp] theorem cmemPut_faultN (off : Nat) (bs : List Byte) : (s.cmemPut off bs).faultN = s.faultN := rfl
@[simp] theorem cmemPut_rd (off : Nat) (bs : List Byte) (r : Nat) : (s.cmemPut off bs).rd r = s.rd r := rfl
@[simp] theorem cmemPut_get (off : Nat) (bs : List Byte) (r : Nat) (F : Fld) : (s.cmemPut off bs).get r F = s.get r F := rfl
@[simp] theorem cmemPut_on (off : Nat) (bs : List Byte) (r : Nat) (F : Fld) : (s.cmemPut off bs).on r F = s.on r F := rfl

/-! ### setSlot -/

@[simp] theorem setSlot_pending (sc : Nat) (f : Slot → Slot) : (s.setSlot sc f).pending = s.pending := rfl
@[simp] theorem setSlot_now (sc : Nat) (f : Slot → Slot) : (s.setSlot sc f).now = s.now := rfl
@[simp] theorem setSlot_free (sc : Nat) (f : Slot → Slot) : (s.setSlot sc f).free = s.free := rfl
@[simp] theorem setSlot_regs (sc : Nat) (f : Slot → Slot) : (s.setSlot sc f).regs = s.regs := rfl
@[simp] theorem setSlot_out (sc : Nat) (f : Slot → Slot) : (s.setSlot sc f).out = s.out := rfl
@[simp] theorem setSlot_faults (sc : Nat) (f : Slot → Slot) : (s.setSlot sc f).faults = s.faults := rfl
@[simp] theorem setSlot_cmem (sc : Nat) (f : Slot → Slot) : (s.setSlot sc f).cmem = s.cmem := rfl
@[simp] theorem setSlot_flash0 (sc : Nat) (f : Slot → Slot) : (s.setSlot sc f).flash0 = s.flash0 := rfl
@[simp] theorem setSlot_flash1 (sc : Nat) (f : Slot → Slot) : (s.setSlot sc f).flash1 = s.flash1 := rfl
@[simp] theorem setSlot_flashSize (sc : Nat) (f : Slot → Slot) : (s.setSlot sc f).flashSize = s.flashSize := rfl
@[simp] theorem setSlot_boot (sc : Nat) (f : Slot → Slot) : (s.setSlot sc f).boot = s.boot := rfl
@[simp] theorem setSlot_pwr (sc : Nat) (f : Slot → Slot) : (s.setSlot sc f).pwr = s.pwr := rfl
@[simp] theorem setSlot_sec (sc : Nat) (f : Slot → Slot) : (s.setSlot sc f).sec = s.sec := rfl
@[simp] theorem setSlot_samp (sc : Nat) (f : Slot → Slot) : (s.setSlot sc f).samp = s.samp := rfl
@[simp] theorem setSlot_lanes (sc : Nat) (f : Slot → Slot) : (s.setSlot sc f).lanes = s.lanes := rfl
@[simp] theorem setSlot_links (sc : Nat) (f : Slot → Slot) : (s.setSlot sc f).links = s.links := rfl
@[simp] theorem setSlot_eq (sc : Nat) (f : Slot → Slot) : (s.setSlot sc f).eq = s.eq := rfl
@[simp] theorem setSlot_sett (sc : Nat) (f : Slot → Slot) : (s.setSlot sc f).sett = s.sett := rfl
@[simp] theorem setSlot_dens (sc : Nat) (f : Slot → Slot) : (s.setSlot sc f).dens = s.dens := rfl
@[simp] theorem setSlot_tblw (sc : Nat) (f : Slot → Slot) : (s.setSlot sc f).tblw = s.tblw := rfl
@[simp] theorem setSlot_ports (sc : Nat) (f : Slot → Slot) : (s.setSlot sc f).ports = s.ports := rfl
@[simp] theorem setSlot_doms (sc : Nat) (f : Slot → Slot) : (s.setSlot sc f).doms = s.doms := rfl
@[simp] theorem setSlot_slots (sc : Nat) (f : Slot → Slot) : (s.setSlot sc f).slots = s.slots.upd (fun _ => {}) sc f := rfl
@[simp] theorem setSlot_owl (sc : Nat) (f : Slot → Slot) : (s.setSlot sc f).owl = s.owl := rfl
@[simp] theorem setSlot_chk (sc : Nat) (f : Slot → Slot) : (s.setSlot sc f).chk = s.chk := rfl
@[simp] theorem setSlot_tel (sc : Nat) (f : Slot → Slot) : (s.setSlot sc f).tel = s.tel := rfl
@[simp] theorem setSlot_chan (sc : Nat) (f : Slot → Slot) : (s.setSlot sc f).chan = s.chan := rfl
@[simp] theorem setSlot_wen (sc : Nat) (f : Slot → Slot) : (s.setSlot sc f).wen = s.wen := rfl
@[simp] theorem setSlot_slcs (sc : Nat) (f : Slot → Slot) : (s.setSlot sc f).slcs = s.slcs := rfl
@[simp] theorem setSlot_fab (sc : Nat) (f : Slot → Slot) : (s.setSlot sc f).fab = s.fab := rfl
@[simp] theorem setSlot_faultN (sc : Nat) (f : Slot → Slot) : (s.setSlot sc f).faultN = s.faultN := rfl
@[simp] theorem setSlot_rd (sc : Nat) (f : Slot → Slot) (r : Nat) : (s.setSlot sc f).rd r = s.rd r := rfl
@[simp] theorem setSlot_get (sc : Nat) (f : Slot → Slot) (r : Nat) (F : Fld) : (s.setSlot sc f).get r F = s.get r F := rfl
@[simp] theorem setSlot_on (sc : Nat) (f : Slot → Slot) (r : Nat) (F : Fld) : (s.setSlot sc f).on r F = s.on r F := rfl

/-! ### resetFields -/

@[simp] theorem resetFields_pending (p : Nat → Bool) (k : RKind → Bool) : (s.resetFields p k).pending = s.pending := rfl
@[simp] theorem resetFields_now (p : Nat → Bool) (k : RKind → Bool) : (s.resetFields p k).now = s.now := rfl
@[simp] theorem resetFields_free (p : Nat → Bool) (k : RKind → Bool) : (s.resetFields p k).free = s.free := rfl
@[simp] theorem resetFields_out (p : Nat → Bool) (k : RKind → Bool) : (s.resetFields p k).out = s.out := rfl
@[simp] theorem resetFields_faults (p : Nat → Bool) (k : RKind → Bool) : (s.resetFields p k).faults = s.faults := rfl
@[simp] theorem resetFields_cmem (p : Nat → Bool) (k : RKind → Bool) : (s.resetFields p k).cmem = s.cmem := rfl
@[simp] theorem resetFields_flash0 (p : Nat → Bool) (k : RKind → Bool) : (s.resetFields p k).flash0 = s.flash0 := rfl
@[simp] theorem resetFields_flash1 (p : Nat → Bool) (k : RKind → Bool) : (s.resetFields p k).flash1 = s.flash1 := rfl
@[simp] theorem resetFields_flashSize (p : Nat → Bool) (k : RKind → Bool) : (s.resetFields p k).flashSize = s.flashSize := rfl
@[simp] theorem resetFields_boot (p : Nat → Bool) (k : RKind → Bool) : (s.resetFields p k).boot = s.boot := rfl
@[simp] theorem resetFields_pwr (p : Nat → Bool) (k : RKind → Bool) : (s.resetFields p k).pwr = s.pwr := rfl
@[simp] theorem resetFields_sec (p : Nat → Bool) (k : RKind → Bool) : (s.resetFields p k).sec = s.sec := rfl
@[simp] theorem resetFields_samp (p : Nat → Bool) (k : RKind → Bool) : (s.resetFields p k).samp = s.samp := rfl
@[simp] theorem resetFields_lanes (p : Nat → Bool) (k : RKind → Bool) : (s.resetFields p k).lanes = s.lanes := rfl
@[simp] theorem resetFields_links (p : Nat → Bool) (k : RKind → Bool) : (s.resetFields p k).links = s.links := rfl
@[simp] theorem resetFields_eq (p : Nat → Bool) (k : RKind → Bool) : (s.resetFields p k).eq = s.eq := rfl
@[simp] theorem resetFields_sett (p : Nat → Bool) (k : RKind → Bool) : (s.resetFields p k).sett = s.sett := rfl
@[simp] theorem resetFields_dens (p : Nat → Bool) (k : RKind → Bool) : (s.resetFields p k).dens = s.dens := rfl
@[simp] theorem resetFields_tblw (p : Nat → Bool) (k : RKind → Bool) : (s.resetFields p k).tblw = s.tblw := rfl
@[simp] theorem resetFields_ports (p : Nat → Bool) (k : RKind → Bool) : (s.resetFields p k).ports = s.ports := rfl
@[simp] theorem resetFields_doms (p : Nat → Bool) (k : RKind → Bool) : (s.resetFields p k).doms = s.doms := rfl
@[simp] theorem resetFields_slots (p : Nat → Bool) (k : RKind → Bool) : (s.resetFields p k).slots = s.slots := rfl
@[simp] theorem resetFields_owl (p : Nat → Bool) (k : RKind → Bool) : (s.resetFields p k).owl = s.owl := rfl
@[simp] theorem resetFields_chk (p : Nat → Bool) (k : RKind → Bool) : (s.resetFields p k).chk = s.chk := rfl
@[simp] theorem resetFields_tel (p : Nat → Bool) (k : RKind → Bool) : (s.resetFields p k).tel = s.tel := rfl
@[simp] theorem resetFields_chan (p : Nat → Bool) (k : RKind → Bool) : (s.resetFields p k).chan = s.chan := rfl
@[simp] theorem resetFields_wen (p : Nat → Bool) (k : RKind → Bool) : (s.resetFields p k).wen = s.wen := rfl
@[simp] theorem resetFields_slcs (p : Nat → Bool) (k : RKind → Bool) : (s.resetFields p k).slcs = s.slcs := rfl
@[simp] theorem resetFields_fab (p : Nat → Bool) (k : RKind → Bool) : (s.resetFields p k).fab = s.fab := rfl
@[simp] theorem resetFields_faultN (p : Nat → Bool) (k : RKind → Bool) : (s.resetFields p k).faultN = s.faultN := rfl

end Sys2Proof.Machine.State
end

