-- ==== Sys2Proof/Laws/Tab.lean ====
section
/-! SUPPORT. What a sparse table holds after each operation on it, and that each operation keeps the canonical form. -/

set_option Elab.async false

namespace Sys2Proof.Machine

namespace Tab

variable {α : Type}

/-! ### Reads after writes -/

theorem get_above_gt (d : Nat → α) {k j : Nat} (h : k < j) : ∀ t : Tab α, (above k t).get d j = t.get d j
  | [] => rfl
  | (a, v) :: t => by
    by_cases ha : a ≤ k
    · have := get_above_gt d h t
      have h1 : j ≠ a := by omega
      have h2 : ¬ j < a := by omega
      simpa [above, ha, get, h1, h2] using this
    · simp [above, ha]

theorem get_above_le (d : Nat → α) {k j : Nat} (h : j ≤ k) : ∀ t : Tab α, (above k t).get d j = d j
  | [] => rfl
  | (a, v) :: t => by
    by_cases ha : a ≤ k
    · simpa [above, ha] using get_above_le d h t
    · have h1 : j ≠ a := by omega
      have h2 : j < a := by omega
      simp [above, ha, get, h1, h2]

variable [DecidableEq α]

/-- A key that was written holds what was written. -/
@[simp] theorem get_put_same (d : Nat → α) (k : Nat) (v : α) : ∀ t : Tab α, (t.put d k v).get d k = v
  | [] => by
    by_cases hv : v = d k <;> simp [put, hv, get]
  | (a, w) :: t => by
    by_cases h1 : k < a
    · have h2 : k ≠ a := by omega
      by_cases hv : v = d k <;> simp [put, h1, hv, get, h2]
    · by_cases h2 : k = a
      · subst h2
        by_cases hv : v = d k
        · simp [put, hv, get_above_le]
        · simp [put, hv, get]
      · have := get_put_same d k v t
        simpa [put, h1, h2, get] using this

/-- Any other key holds what it held. -/
theorem get_put_ne (d : Nat → α) {j k : Nat} (v : α) (h : j ≠ k) : ∀ t : Tab α, (t.put d k v).get d j = t.get d j
  | [] => by
    by_cases hv : v = d k <;> simp [put, hv, get, h]
  | (a, w) :: t => by
    by_cases h1 : k < a
    · by_cases hv : v = d k
      · simp [put, h1, hv]
      · by_cases hj : j < k
        · have h3 : j ≠ a := by omega
          have h4 : j < a := by omega
          simp [put, h1, hv, get, h, hj, h3, h4]
        · simp [put, h1, hv, get, h, hj]
    · by_cases h2 : k = a
      · subst h2
        by_cases hv : v = d k
        · by_cases hj : j < k
          · simp [put, hv, get, h, hj, get_above_le d (Nat.le_of_lt hj)]
          · simp [put, hv, get, h, hj, get_above_gt d (show k < j by omega)]
        · simp [put, hv, get, h]
      · have := get_put_ne d v h t
        simp [put, h1, h2, get, this]

theorem get_put (d : Nat → α) (j k : Nat) (v : α) (t : Tab α) : (t.put d k v).get d j = if j = k then v else t.get d j := by
  by_cases h : j = k
  · subst h; simp
  · simp [h, get_put_ne]

@[simp] theorem get_upd_same (d : Nat → α) (k : Nat) (f : α → α) (t : Tab α) : (t.upd d k f).get d k = f (t.get d k) := by
  simp [upd]

theorem get_upd_ne (d : Nat → α) {j k : Nat} (f : α → α) (h : j ≠ k) (t : Tab α) : (t.upd d k f).get d j = t.get d j := by
  simp [upd, get_put_ne d _ h]

omit [DecidableEq α] in
theorem get_reach (d : Nat → α) : ∀ (t : Tab α) (lo j : Nat), lo ≤ j → (reach lo t).get d j = t.get d j
  | [], _, _, _ => rfl
  | (a, v) :: t, lo, j, h => by
    by_cases ha : a < lo
    · have h1 : j ≠ a := by omega
      have h2 : ¬ j < a := by omega
      simpa [reach, ha, get, h1, h2] using get_reach d t lo j h
    · by_cases h1 : j = a
      · simp [reach, ha, get, h1]
      · by_cases h2 : j < a
        · simp [reach, ha, get, h1, h2]
        · simpa [reach, ha, get, h1, h2] using get_reach d t (a + 1) j (by omega)

omit [DecidableEq α] in
theorem get_reach_lt (d : Nat → α) : ∀ (t : Tab α) (lo j : Nat), j < lo → (reach lo t).get d j = d j
  | [], _, _, _ => rfl
  | (a, v) :: t, lo, j, h => by
    by_cases ha : a < lo
    · simpa [reach, ha] using get_reach_lt d t lo j h
    · have h1 : j ≠ a := by omega
      have h2 : j < a := by omega
      simp [reach, ha, get, h1, h2]

omit [DecidableEq α] in
/-- A read through a map over the reachable entries. -/
theorem get_filterMap (d : Nat → α) (f : Nat → α → Option α) (hf : ∀ k, f k (d k) = none ∨ f k (d k) = some (d k)) :
    ∀ (t : Tab α) (lo j : Nat), lo ≤ j →
      get d ((reach lo t).filterMap fun e => (f e.1 e.2).map fun v => (e.1, v)) j = (f j (t.get d j)).getD (d j)
  | [], _, j, _ => by rcases hf j with h | h <;> simp [reach, get, h]
  | (a, v) :: t, lo, j, h => by
    by_cases ha : a < lo
    · have h1 : j ≠ a := by omega
      have h2 : ¬ j < a := by omega
      simpa [reach, ha, get, h1, h2] using get_filterMap d f hf t lo j h
    · by_cases h1 : j = a
      · subst h1
        cases hv : f j v with
        | none =>
          have := lookup_above d f t (j + 1) j (by omega)
          simp [reach, ha, hv, get, this]
        | some w => simp [reach, ha, hv, get]
      · by_cases h2 : j < a
        · have := lookup_above d f t (a + 1) j (by omega)
          cases hv : f a v with
          | none => rcases hf j with h5 | h5 <;> simp [reach, ha, hv, get, h1, h2, this, h5]
          | some w => rcases hf j with h5 | h5 <;> simp [reach, ha, hv, get, h1, h2, h5]
        · have := get_filterMap d f hf t (a + 1) j (by omega)
          cases hv : f a v with
          | none => simpa [reach, ha, hv, get, h1, h2] using this
          | some w => simpa [reach, ha, hv, get, h1, h2] using this
where
  lookup_above (d : Nat → α) (f : Nat → α → Option α) : ∀ (t : Tab α) (lo j : Nat), j < lo →
      get d ((reach lo t).filterMap fun e => (f e.1 e.2).map fun v => (e.1, v)) j = d j
    | [], _, _, _ => rfl
    | (a, v) :: t, lo, j, h => by
      by_cases ha : a < lo
      · simpa [reach, ha] using lookup_above d f t lo j h
      · have h1 : j ≠ a := by omega
        have h2 : j < a := by omega
        cases hv : f a v with
        | none => simpa [reach, ha, hv] using lookup_above d f t (a + 1) j (by omega)
        | some w => simp [reach, ha, hv, get, h1, h2]

omit [DecidableEq α] in
theorem drop_eq (p : Nat → Bool) (t : Tab α) :
    drop p t = (reach 0 t).filterMap fun e => (if p e.1 then none else some e.2).map fun v => (e.1, v) := by
  unfold drop
  induction reach 0 t with
  | nil => rfl
  | cons e l ih => cases h : p e.1 <;> simp [h, ih]

theorem mapAll_eq (d : Nat → α) (f : Nat → α → α) (t : Tab α) :
    mapAll d f t = (reach 0 t).filterMap fun e => (if f e.1 e.2 = d e.1 then none else some (f e.1 e.2)).map fun v => (e.1, v) := by
  unfold mapAll
  congr 1
  funext e
  by_cases h : f e.1 e.2 = d e.1 <;> simp [h]

omit [DecidableEq α] in
/-- A dropped key holds the default, any other what it held. -/
theorem get_drop (d : Nat → α) (p : Nat → Bool) (t : Tab α) (j : Nat) : (drop p t).get d j = if p j then d j else t.get d j := by
  rw [drop_eq, get_filterMap d (fun k v => if p k then none else some v) (by intro k; cases p k <;> simp) t 0 j (Nat.zero_le _)]
  cases p j <;> simp

/-- Every key holds its value rewritten. -/
theorem get_mapAll (d : Nat → α) (f : Nat → α → α) (hf : ∀ k, f k (d k) = d k) (t : Tab α) (j : Nat) :
    (mapAll d f t).get d j = f j (t.get d j) := by
  rw [mapAll_eq, get_filterMap d (fun k v => if f k v = d k then none else some (f k v)) (by intro k; simp [hf]) t 0 j (Nat.zero_le _)]
  by_cases h : f j (get d t j) = d j <;> simp [h]

/-! ### Runs of values -/

omit [DecidableEq α] in
theorem get_dropWhile_lt (d : Nat → α) {a j : Nat} (h : a ≤ j) : ∀ t : Tab α,
    get d (t.dropWhile fun e => decide (e.1 < a)) j = t.get d j
  | [] => rfl
  | (k, v) :: t => by
    by_cases hk : k < a
    · have h1 : j ≠ k := by omega
      have h2 : ¬ j < k := by omega
      simpa [hk, get, h1, h2] using get_dropWhile_lt d h t
    · simp [hk]

omit [DecidableEq α] in
/-- A run of values is what the keys hold, one by one. -/
theorem run_eq (d : Nat → α) : ∀ (n a : Nat) (t : Tab α), run d n a t = (List.range n).map fun i => t.get d (a + i)
  | 0, _, _ => rfl
  | n + 1, a, t => by
    have hg := fun j (h : a ≤ j) => get_dropWhile_lt d h t
    rw [List.range_succ_eq_map]
    simp only [List.map_cons, List.map_map, Nat.add_zero]
    have e : ∀ i, t.get d (a + (i + 1)) = t.get d (a + 1 + i) := fun i => by congr 1; omega
    unfold run
    split
    · next h =>
      rw [run_eq d n (a + 1) []]
      rw [h] at hg
      have h0 := hg a (Nat.le_refl _)
      simp only [get] at h0
      rw [← h0]
      congr 1
      apply List.map_congr_left
      intro i _
      have := hg (a + 1 + i) (by omega)
      simp only [Function.comp, e]
      rw [← this]
    · next k v r h =>
      rw [h] at hg
      have hka : a ≤ k := by
        have := List.head_dropWhile_not (fun e : Nat × α => decide (e.1 < a)) (l := t) (by rw [h]; simp)
        simp [h] at this
        omega
      have h0 := hg a (Nat.le_refl _)
      by_cases hk : k = a
      · subst hk
        simp only [get, if_pos] at h0
        rw [if_pos rfl, run_eq d n (k + 1) r, ← h0]
        congr 1
        apply List.map_congr_left
        intro i _
        have := hg (k + 1 + i) (by omega)
        have h1 : k + 1 + i ≠ k := by omega
        have h2 : ¬ k + 1 + i < k := by omega
        simp only [get, h1, h2, if_false] at this
        simp only [Function.comp, Nat.succ_eq_add_one, e]
        rw [← this]
      · rw [if_neg hk, run_eq d n (a + 1) _]
        have h1 : a ≠ k := by omega
        have h2 : a < k := by omega
        simp only [get, h1, h2, if_false, if_true] at h0
        rw [← h0]
        congr 1
        apply List.map_congr_left
        intro i _
        have := hg (a + 1 + i) (by omega)
        simp only [Function.comp, Nat.succ_eq_add_one, e]
        rw [← this]

theorem get_lay_below (d : Nat → α) : ∀ (bs : List α) (a : Nat) (t : Tab α) (j : Nat), j < a → t.get d j = d j →
    (lay d a bs t).get d j = d j
  | [], _, _, _, _, ht => ht
  | b :: bs, a, t, j, h, ht => by
    by_cases hb : b = d a
    · simpa [lay, hb] using get_lay_below d bs (a + 1) (above a t) j (by omega) (get_above_le d (by omega) t)
    · have h1 : j ≠ a := by omega
      simp [lay, hb, get, h1, h]

theorem get_lay (d : Nat → α) : ∀ (bs : List α) (a : Nat) (t : Tab α) (j : Nat), a ≤ j →
    (lay d a bs t).get d j = if j < a + bs.length then bs.getD (j - a) (d j) else t.get d j
  | [], a, t, j, h => by
    have : ¬ j < a := by omega
    simp [lay, this]
  | b :: bs, a, t, j, h => by
    by_cases hj : j = a
    · subst hj
      by_cases hb : b = d j
      · simp [lay, hb, get_lay_below d bs (j + 1) (above j t) j (by omega) (get_above_le d (Nat.le_refl _) t)]
      · simp [lay, hb, get]
    · have ih := get_lay d bs (a + 1) (above a t) j (by omega)
      rw [get_above_gt d (by omega)] at ih
      have h1 : (j < a + 1 + bs.length) ↔ (j < a + (b :: bs).length) := by simp; omega
      have h2 : (b :: bs).getD (j - a) (d j) = bs.getD (j - (a + 1)) (d j) := by
        have : j - a = (j - (a + 1)) + 1 := by omega
        simp [this]
      rw [h2]
      simp only [h1] at ih
      have h3 : ¬ j < a := by omega
      by_cases hb : b = d a
      · simpa [lay, hb] using ih
      · simpa [lay, hb, get, hj, h3] using ih
/-! ### The canonical form -/

theorem wfFrom_mono (d : Nat → α) : ∀ (t : Tab α) {lo lo' : Nat}, lo' ≤ lo → wfFrom d lo t = true → wfFrom d lo' t = true
  | [], _, _, _, _ => rfl
  | (k, v) :: t, lo, lo', h, hw => by
    simp only [wfFrom, Bool.and_eq_true, decide_eq_true_eq] at hw ⊢
    exact ⟨⟨Nat.le_trans h hw.1.1, hw.1.2⟩, hw.2⟩

theorem wfFrom_put (d : Nat → α) (k : Nat) (v : α) : ∀ (t : Tab α) {lo : Nat}, lo ≤ k → wfFrom d lo t = true →
    wfFrom d lo (t.put d k v) = true
  | [], lo, h, _ => by
    by_cases hv : v = d k <;> simp [put, hv, wfFrom, h]
  | (a, w) :: t, lo, h, hw => by
    have hw0 := hw
    simp only [wfFrom, Bool.and_eq_true, decide_eq_true_eq] at hw
    by_cases h1 : k < a
    · by_cases hv : v = d k
      · simpa [put, h1, hv] using hw0
      · have : k + 1 ≤ a := h1
        simp only [put, h1, hv, if_true, if_false, wfFrom, Bool.and_eq_true, decide_eq_true_eq]
        exact ⟨⟨h, by simp⟩, ⟨this, hw.1.2⟩, hw.2⟩
    · by_cases h2 : k = a
      · subst h2
        by_cases hv : v = d k
        · have : above k t = t := above_wf d t hw.2
          simp only [put, hv, if_true, Nat.lt_irrefl, if_false, this]
          exact wfFrom_mono d t (lo := k + 1) (by omega) hw.2
        · simp only [put, hv, if_true, Nat.lt_irrefl, if_false, wfFrom, Bool.and_eq_true, decide_eq_true_eq]
          exact ⟨⟨h, by simp⟩, hw.2⟩
      · have := wfFrom_put d k v t (lo := a + 1) (by omega) hw.2
        simp only [put, h1, h2, if_false, wfFrom, Bool.and_eq_true, decide_eq_true_eq]
        exact ⟨hw.1, this⟩
where
  above_wf (d : Nat → α) {k : Nat} : ∀ t : Tab α, wfFrom d (k + 1) t = true → above k t = t
    | [], _ => rfl
    | (a, w) :: t, h => by
      simp only [wfFrom, Bool.and_eq_true, decide_eq_true_eq] at h
      have : ¬ a ≤ k := by omega
      simp [above, this]

/-- A write keeps the canonical form. -/
theorem wf_put (d : Nat → α) (k : Nat) (v : α) {t : Tab α} (h : t.wf d = true) : (t.put d k v).wf d = true :=
  wfFrom_put d k v t (Nat.zero_le _) h

theorem wf_upd (d : Nat → α) (k : Nat) (f : α → α) {t : Tab α} (h : t.wf d = true) : (t.upd d k f).wf d = true :=
  wf_put d k _ h

/-- A map over the reachable entries that lists no default gives the canonical form. -/
theorem wfFrom_filterMap (d : Nat → α) (f : Nat → α → Option α) : ∀ (t : Tab α) (lo : Nat),
    (∀ k v, (k, v) ∈ reach lo t → f k v ≠ some (d k)) →
      wfFrom d lo ((reach lo t).filterMap fun e => (f e.1 e.2).map fun v => (e.1, v)) = true
  | [], _, _ => rfl
  | (a, v) :: t, lo, hf => by
    by_cases ha : a < lo
    · simp only [reach, ha, if_true] at hf ⊢
      exact wfFrom_filterMap d f t lo hf
    · simp only [reach, ha, if_false] at hf ⊢
      have ih := wfFrom_filterMap d f t (a + 1) (fun k w h => hf k w (List.mem_cons_of_mem _ h))
      cases hv : f a v with
      | none =>
        simp only [List.filterMap_cons, hv, Option.map_none]
        exact wfFrom_mono d _ (by omega) ih
      | some w =>
        have hw : w ≠ d a := fun e => hf a v List.mem_cons_self (by rw [hv, e])
        simp only [List.filterMap_cons, hv, Option.map_some, wfFrom, Bool.and_eq_true, decide_eq_true_eq]
        exact ⟨⟨by omega, by simp [hw]⟩, ih⟩

/-- Rewriting every value keeps the canonical form. -/
theorem wf_mapAll (d : Nat → α) (f : Nat → α → α) (t : Tab α) : (mapAll d f t).wf d = true := by
  rw [mapAll_eq]
  apply wfFrom_filterMap d (fun k v => if f k v = d k then none else some (f k v))
  intro k v _
  by_cases h : f k v = d k <;> simp [h]

theorem mem_reach_ne (d : Nat → α) : ∀ (t : Tab α) {lo : Nat}, wfFrom d lo t = true → ∀ {lo' : Nat}, ∀ k v,
    (k, v) ∈ reach lo' t → v ≠ d k
  | [], _, _, _, _, _, h => by simp [reach] at h
  | (a, w) :: t, lo, hw, lo', k, v, h => by
    simp only [wfFrom, Bool.and_eq_true, decide_eq_true_eq] at hw
    by_cases ha : a < lo'
    · simp only [reach, ha, if_true] at h
      exact mem_reach_ne d t hw.2 k v h
    · simp only [reach, ha, if_false, List.mem_cons, Prod.mk.injEq] at h
      rcases h with ⟨rfl, rfl⟩ | h
      · intro e
        simp [e] at hw
      · exact mem_reach_ne d t hw.2 k v h

/-- Dropping entries keeps the canonical form. -/
theorem wf_drop (d : Nat → α) (p : Nat → Bool) {t : Tab α} (h : t.wf d = true) : (drop p t).wf d = true := by
  rw [drop_eq]
  apply wfFrom_filterMap d (fun k v => if p k then none else some v)
  intro k v hm
  have := mem_reach_ne d t h k v hm
  cases hp : p k <;> simp [this]

theorem wfFrom_above (d : Nat → α) {k : Nat} : ∀ (t : Tab α) {lo : Nat}, wfFrom d lo t = true → wfFrom d (k + 1) (above k t) = true
  | [], _, _ => rfl
  | (a, w) :: t, lo, h => by
    simp only [wfFrom, Bool.and_eq_true, decide_eq_true_eq] at h
    by_cases ha : a ≤ k
    · simpa [above, ha] using wfFrom_above d t h.2
    · simp only [above, ha, decide_false, List.dropWhile_cons_of_neg, Bool.false_eq_true, not_false_eq_true, wfFrom,
        Bool.and_eq_true, decide_eq_true_eq]
      exact ⟨⟨by omega, h.1.2⟩, h.2⟩

theorem wfFrom_lay (d : Nat → α) : ∀ (bs : List α) (a : Nat) (t : Tab α), wfFrom d a t = true → wfFrom d a (lay d a bs t) = true
  | [], _, _, h => h
  | b :: bs, a, t, h => by
    have ih := wfFrom_lay d bs (a + 1) (above a t) (wfFrom_above d t h)
    by_cases hb : b = d a
    · simp only [lay, hb, if_true]
      exact wfFrom_mono d _ (by omega) ih
    · simp only [lay, hb, if_false, wfFrom, Bool.and_eq_true, decide_eq_true_eq]
      exact ⟨⟨Nat.le_refl _, by simp⟩, ih⟩

theorem wfFrom_split (d : Nat → α) (a : Nat) (u : Tab α) (hu : wfFrom d a u = true) : ∀ (t : Tab α) {lo : Nat}, lo ≤ a →
    wfFrom d lo t = true → wfFrom d lo (t.takeWhile (fun e => decide (e.1 < a)) ++ u) = true
  | [], lo, h, _ => by simpa using wfFrom_mono d u h hu
  | (k, v) :: t, lo, h, hw => by
    simp only [wfFrom, Bool.and_eq_true, decide_eq_true_eq] at hw
    by_cases hk : k < a
    · have := wfFrom_split d a u hu t (lo := k + 1) hk hw.2
      simp only [List.takeWhile_cons, hk, decide_true, if_true, List.cons_append, wfFrom, Bool.and_eq_true, decide_eq_true_eq]
      exact ⟨hw.1, this⟩
    · simpa [List.takeWhile_cons, hk] using wfFrom_mono d u h hu

theorem wfFrom_dropWhile (d : Nat → α) (a : Nat) : ∀ (t : Tab α) {lo : Nat}, wfFrom d lo t = true →
    wfFrom d a (t.dropWhile fun e => decide (e.1 < a)) = true
  | [], _, _ => rfl
  | (k, v) :: t, lo, hw => by
    simp only [wfFrom, Bool.and_eq_true, decide_eq_true_eq] at hw
    by_cases hk : k < a
    · simpa [hk] using wfFrom_dropWhile d a t hw.2
    · simp only [hk, decide_false, List.dropWhile_cons_of_neg, Bool.false_eq_true, not_false_eq_true, wfFrom,
        Bool.and_eq_true, decide_eq_true_eq]
      exact ⟨⟨by omega, hw.1.2⟩, hw.2⟩

end Tab

/-! ### Memories of bytes -/

/-- A byte string stored keeps the canonical form. -/
theorem putBytes_wf (d : Nat → Byte) {t : Tab Byte} (a : Nat) (bs : List Byte) (h : t.wf d = true) :
    (putBytes d t a bs).wf d = true :=
  Tab.wfFrom_split d a _ (Tab.wfFrom_lay d bs a _ (Tab.wfFrom_dropWhile d a t h)) t (Nat.zero_le _) h

theorem get_takeWhile_append (d : Nat → Byte) (a : Nat) (u : Tab Byte) : ∀ (t : Tab Byte) (j : Nat),
    Tab.get d (t.takeWhile (fun e => decide (e.1 < a)) ++ u) j
      = if (t.takeWhile (fun e => decide (e.1 < a))).any (fun e => decide (j ≤ e.1)) then t.get d j else Tab.get d u j
  | [], j => by simp
  | (k, v) :: t, j => by
    by_cases hk : k < a
    · have ih := get_takeWhile_append d a u t j
      rw [List.takeWhile_cons_of_pos (by simpa using hk)]
      by_cases h1 : j = k
      · simp [Tab.get, h1]
      · by_cases h2 : j < k
        · have h3 : j ≤ k := by omega
          simp [Tab.get, h1, h2, h3]
        · have h3 : ¬ j ≤ k := by omega
          simp only [List.cons_append, Tab.get, h1, h2, if_false, List.any_cons, h3, decide_false, Bool.false_or]
          exact ih
    · simp [hk]

theorem get_dropWhile_below (d : Nat → Byte) {a j : Nat} (h : ¬ a ≤ j) : ∀ t : Tab Byte,
    Tab.get d (t.dropWhile fun e => decide (e.1 < a)) j = d j
  | [] => rfl
  | (k, v) :: t => by
    by_cases hk : k < a
    · simpa [hk] using get_dropWhile_below d h t
    · have h1 : j ≠ k := by omega
      have h2 : j < k := by omega
      simp [hk, Tab.get, h1, h2]

theorem get_pass (d : Nat → Byte) (a j : Nat) : ∀ t : Tab Byte,
    (t.takeWhile (fun e => decide (e.1 < a))).any (fun e => decide (j ≤ e.1)) = false →
      t.get d j = Tab.get d (t.dropWhile fun e => decide (e.1 < a)) j
  | [], _ => rfl
  | (k, v) :: t, h => by
    by_cases hk : k < a
    · simp only [List.takeWhile_cons, hk, decide_true, if_true, List.any_cons, Bool.or_eq_false_iff, decide_eq_false_iff_not] at h
      have h1 : j ≠ k := by omega
      have h2 : ¬ j < k := by omega
      simpa [hk, Tab.get, h1, h2] using get_pass d a j t h.2
    · simp [hk]

/-- What each address holds after a byte string was stored: the byte of the string inside it, what it held outside. -/
theorem putBytes_get (d : Nat → Byte) (t : Tab Byte) (a : Nat) (bs : List Byte) (j : Nat) :
    Tab.get d (putBytes d t a bs) j = if a ≤ j ∧ j < a + bs.length then bs.getD (j - a) (d j) else Tab.get d t j := by
  unfold putBytes
  rw [get_takeWhile_append]
  by_cases hj : a ≤ j
  · have hn : (t.takeWhile (fun e => decide (e.1 < a))).any (fun e => decide (j ≤ e.1)) = false := by
      rw [List.any_eq_false]
      intro e he
      have := List.all_takeWhile (p := fun e : Nat × Byte => decide (e.1 < a)) (l := t)
      have := List.all_eq_true.mp this e he
      simp at this ⊢
      omega
    rw [hn]
    simp only [Bool.false_eq_true, if_false]
    rw [Tab.get_lay d bs a _ j hj, Tab.get_dropWhile_lt d hj]
    simp [hj]
  · have : ¬ (a ≤ j ∧ j < a + bs.length) := by omega
    rw [if_neg this]
    by_cases hn : (t.takeWhile (fun e => decide (e.1 < a))).any (fun e => decide (j ≤ e.1)) = true
    · rw [if_pos hn]
    · rw [if_neg hn]
      have hd : Tab.get d (t.dropWhile fun e => decide (e.1 < a)) j = d j := get_dropWhile_below d hj t
      rw [Tab.get_lay_below d bs a _ j (by omega) hd, get_pass d a j t (by simpa using hn), hd]

/-- What is read back is what the addresses hold, one by one. -/
theorem bytesAt_eq (d : Nat → Byte) (t : Tab Byte) (a n : Nat) : bytesAt d t a n = (List.range n).map fun i => t.get d (a + i) :=
  Tab.run_eq d n a t

end Sys2Proof.Machine
end

