-- ==== Sys2Proof/Laws/Regs.lean ====
section
/-! SUPPORT. Registers and their fields: what a read gives after a write. -/

set_option Elab.async false

namespace Sys2Proof.Machine

/-! ### Fields of a word -/

theorem fldOf_lt (w : Word) (f : Fld) : fldOf w f < 2 ^ f.w := Nat.mod_lt _ (Nat.two_pow_pos _)

theorem fldOf_ofNat (f : Fld) (n : Nat) (h : f.lo + f.w ≤ 32) : fldOf (BitVec.ofNat 32 n) f = n / 2 ^ f.lo % 2 ^ f.w := by
  simp only [fldOf, bits, BitVec.toNat_ofNat]
  rw [show (2 : Nat) ^ 32 = 2 ^ f.lo * 2 ^ (32 - f.lo) by rw [← Nat.pow_add]; congr 1; omega]
  rw [Nat.mod_mul_right_div_self]
  exact Nat.mod_mod_of_dvd _ (Nat.pow_dvd_pow 2 (by omega))

/-- The word as low part, field and high part. -/
theorem setFld_toNat (w : Word) (f : Fld) (v : Nat) (h : f.lo + f.w ≤ 32) :
    (setFld w f v).toNat
      = w.toNat % 2 ^ f.lo + 2 ^ f.lo * (v % 2 ^ f.w + 2 ^ f.w * (w.toNat / 2 ^ f.lo / 2 ^ f.w)) := by
  have hx := w.isLt
  have p1 := Nat.two_pow_pos f.lo
  have p2 := Nat.two_pow_pos f.w
  have e1 : w.toNat = w.toNat % 2 ^ f.lo + 2 ^ f.lo * (w.toNat / 2 ^ f.lo) := (Nat.mod_add_div _ _).symm
  have e2 : w.toNat / 2 ^ f.lo = w.toNat / 2 ^ f.lo % 2 ^ f.w + 2 ^ f.w * (w.toNat / 2 ^ f.lo / 2 ^ f.w) := (Nat.mod_add_div _ _).symm
  have hv : v % 2 ^ f.w < 2 ^ f.w := Nat.mod_lt _ p2
  have hr : w.toNat % 2 ^ f.lo < 2 ^ f.lo := Nat.mod_lt _ p1
  have hq : w.toNat / 2 ^ f.lo / 2 ^ f.w < 2 ^ (32 - f.lo - f.w) := by
    rw [Nat.div_div_eq_div_mul, ← Nat.pow_add]
    apply Nat.div_lt_of_lt_mul
    rw [← Nat.pow_add]
    have : f.lo + f.w + (32 - f.lo - f.w) = 32 := by omega
    rw [this]; exact hx
  simp only [setFld, fldOf, bits, BitVec.toNat_ofNat]
  generalize hq' : w.toNat / 2 ^ f.lo / 2 ^ f.w = q at *
  generalize hr' : w.toNat % 2 ^ f.lo = r at *
  generalize hm : w.toNat / 2 ^ f.lo % 2 ^ f.w = m at *
  have e3 : w.toNat = r + 2 ^ f.lo * (m + 2 ^ f.w * q) := by rw [← e2]; exact e1
  have e4 : w.toNat - m * 2 ^ f.lo + v % 2 ^ f.w * 2 ^ f.lo = r + 2 ^ f.lo * (v % 2 ^ f.w + 2 ^ f.w * q) := by
    rw [e3, Nat.mul_add, Nat.mul_add, Nat.mul_comm m, Nat.mul_comm (v % 2 ^ f.w)]
    omega
  rw [e4]
  apply Nat.mod_eq_of_lt
  have h5 : v % 2 ^ f.w + 2 ^ f.w * q < 2 ^ f.w * 2 ^ (32 - f.lo - f.w) := by
    calc v % 2 ^ f.w + 2 ^ f.w * q < 2 ^ f.w + 2 ^ f.w * q := by omega
      _ = 2 ^ f.w * (q + 1) := by rw [Nat.mul_add, Nat.mul_one, Nat.add_comm]
      _ ≤ _ := Nat.mul_le_mul_left _ hq
  have h6 : 2 ^ f.w * 2 ^ (32 - f.lo - f.w) = 2 ^ (32 - f.lo) := by rw [← Nat.pow_add]; congr 1; omega
  rw [h6] at h5
  calc r + 2 ^ f.lo * (v % 2 ^ f.w + 2 ^ f.w * q) < 2 ^ f.lo + 2 ^ f.lo * (v % 2 ^ f.w + 2 ^ f.w * q) := by omega
    _ = 2 ^ f.lo * (v % 2 ^ f.w + 2 ^ f.w * q + 1) := by rw [Nat.mul_add (2 ^ f.lo) _ 1, Nat.mul_one, Nat.add_comm]
    _ ≤ 2 ^ f.lo * 2 ^ (32 - f.lo) := Nat.mul_le_mul_left _ h5
    _ = 2 ^ 32 := by rw [← Nat.pow_add]; congr 1; omega

/-- A field that was set holds the value, cut to its width. -/
theorem fldOf_setFld_same (w : Word) (f : Fld) (v : Nat) (h : f.lo + f.w ≤ 32) : fldOf (setFld w f v) f = v % 2 ^ f.w := by
  have p1 := Nat.two_pow_pos f.lo
  rw [fldOf, bits, setFld_toNat w f v h, Nat.add_mul_div_left _ _ p1, Nat.div_eq_of_lt (Nat.mod_lt _ p1), Nat.zero_add,
    Nat.add_mul_mod_self_left, Nat.mod_mod]

/-- A field beside the one that was set holds what it held. -/
theorem fldOf_setFld_ne (w : Word) (f g : Fld) (v : Nat) (h : f.lo + f.w ≤ 32) (hd : f.lo + f.w ≤ g.lo ∨ g.lo + g.w ≤ f.lo) :
    fldOf (setFld w f v) g = fldOf w g := by
  have p1 := Nat.two_pow_pos f.lo
  have p2 := Nat.two_pow_pos f.w
  simp only [fldOf, bits, setFld_toNat w f v h]
  rcases hd with hd | hd
  · have e : (2 : Nat) ^ g.lo = 2 ^ f.lo * 2 ^ f.w * 2 ^ (g.lo - f.lo - f.w) := by
      rw [← Nat.pow_add, ← Nat.pow_add]; congr 1; omega
    rw [e, ← Nat.div_div_eq_div_mul, ← Nat.div_div_eq_div_mul, Nat.add_mul_div_left _ _ p1, Nat.div_eq_of_lt (Nat.mod_lt _ p1),
      Nat.zero_add, Nat.add_mul_div_left _ _ p2, Nat.div_eq_of_lt (Nat.mod_lt _ p2), Nat.zero_add, ← Nat.div_div_eq_div_mul,
      ← Nat.div_div_eq_div_mul]
  · have e : (2 : Nat) ^ f.lo = 2 ^ g.lo * (2 ^ g.w * 2 ^ (f.lo - g.lo - g.w)) := by
      rw [← Nat.pow_add, ← Nat.pow_add]; congr 1; omega
    have hx : ∀ r X : Nat, (r + 2 ^ f.lo * X) / 2 ^ g.lo % 2 ^ g.w = r / 2 ^ g.lo % 2 ^ g.w := by
      intro r X
      rw [e, Nat.mul_assoc, Nat.add_mul_div_left _ _ (Nat.two_pow_pos g.lo), Nat.mul_assoc, Nat.add_mul_mod_self_left]
    rw [hx, ← hx (w.toNat % 2 ^ f.lo) (w.toNat / 2 ^ f.lo), Nat.mod_add_div]

/-! ### Registers -/

namespace State

variable (s : State)

@[simp] theorem rd_wr_same (a : Nat) (w : Word) : (s.wr a w).rd a = w := Tab.get_put_same _ _ _ _

theorem rd_wr_ne {a b : Nat} (w : Word) (h : b ≠ a) : (s.wr a w).rd b = s.rd b := Tab.get_put_ne _ _ h _

@[simp] theorem rd_set_same (a : Nat) (f : Fld) (v : Nat) : (s.set a f v).rd a = setFld (s.rd a) f v := rd_wr_same _ _ _

theorem rd_set_ne {a b : Nat} (f : Fld) (v : Nat) (h : b ≠ a) : (s.set a f v).rd b = s.rd b := rd_wr_ne _ _ h

theorem rd_inc_ne {a b : Nat} (f : Fld) (n : Nat) (h : b ≠ a) : (s.inc a f n).rd b = s.rd b := rd_wr_ne _ _ h

/-- A field set reads back, cut to its width. -/
theorem get_set_same (a : Nat) (f : Fld) (v : Nat) (h : f.lo + f.w ≤ 32) : (s.set a f v).get a f = v % 2 ^ f.w := by
  rw [get, rd_set_same, fldOf_setFld_same _ _ _ h]

/-- Another field of the same register is left. -/
theorem get_set_beside (a : Nat) (f g : Fld) (v : Nat) (h : f.lo + f.w ≤ 32) (hd : f.lo + f.w ≤ g.lo ∨ g.lo + g.w ≤ f.lo) :
    (s.set a f v).get a g = s.get a g := by
  rw [get, rd_set_same, fldOf_setFld_ne _ _ _ _ h hd, get]

theorem get_set_ne {a b : Nat} (f g : Fld) (v : Nat) (h : b ≠ a) : (s.set a f v).get b g = s.get b g := by
  rw [get, rd_set_ne _ _ _ h, get]

/-- A count raised reads back, saturated at its width. -/
theorem get_inc_same (a : Nat) (f : Fld) (n : Nat) (h : f.lo + f.w ≤ 32) :
    (s.inc a f n).get a f = min (2 ^ f.w - 1) (s.get a f + n) := by
  have p := Nat.two_pow_pos f.w
  rw [inc, get_set_same _ _ _ _ h, Nat.mod_eq_of_lt]
  · simp only [satAdd]; split <;> omega
  · simp only [satAdd]; split <;> omega

theorem get_inc_beside (a : Nat) (f g : Fld) (n : Nat) (h : f.lo + f.w ≤ 32) (hd : f.lo + f.w ≤ g.lo ∨ g.lo + g.w ≤ f.lo) :
    (s.inc a f n).get a g = s.get a g := get_set_beside _ _ _ _ _ h hd

theorem get_inc_ne {a b : Nat} (f g : Fld) (n : Nat) (h : b ≠ a) : (s.inc a f n).get b g = s.get b g := get_set_ne _ _ _ _ h

@[simp] theorem get_wr_same (a : Nat) (w : Word) (f : Fld) : (s.wr a w).get a f = fldOf w f := by rw [get, rd_wr_same]

theorem get_wr_ne {a b : Nat} (w : Word) (f : Fld) (h : b ≠ a) : (s.wr a w).get b f = s.get b f := by
  rw [get, rd_wr_ne _ _ h, get]

/-- What a register holds after its fields of some reset scopes were restored (R14). -/
theorem rd_resetFields (p : Nat → Bool) (k : RKind → Bool) (a : Nat) :
    (s.resetFields p k).rd a =
      if p a then
        (s.rd a &&& ~~~(BitVec.ofNat 32 (maskOf (fieldsAt a) (fun f => k f.rk))))
          ||| (resetWord a &&& BitVec.ofNat 32 (maskOf (fieldsAt a) (fun f => k f.rk)))
      else s.rd a := by
  have h : ∀ w m : Word, (w &&& ~~~m) ||| (w &&& m) = w := by
    intro w m
    ext i hi
    simp only [BitVec.getElem_or, BitVec.getElem_and, BitVec.getElem_not]
    cases w[i] <;> cases m[i] <;> rfl
  simp only [resetFields, rd]
  rw [Tab.get_mapAll]
  intro b
  by_cases hb : p b = true
  · simp only [hb, if_true]; exact h _ _
  · simp only [hb]; rfl

/-! ### The keyed tables -/

@[simp] theorem lane_setLane (g n : Nat) (f : Lane → Lane) : (s.setLane g n f).lane g n = f (s.lane g n) := Tab.get_upd_same _ _ _ _
@[simp] theorem link_setLink (g p : Nat) (f : Link → Link) : (s.setLink g p f).link g p = f (s.link g p) := Tab.get_upd_same _ _ _ _
@[simp] theorem port_setPort (P : Nat) (f : PPort → PPort) : (s.setPort P f).port P = f (s.port P) := Tab.get_upd_same _ _ _ _
@[simp] theorem dom_setDom (h : Nat) (f : Dom → Dom) : (s.setDom h f).dom h = f (s.dom h) := Tab.get_upd_same _ _ _ _
@[simp] theorem den_setDen (d : Nat) (f : Den → Den) : (s.setDen d f).den d = f (s.den d) := Tab.get_upd_same _ _ _ _
@[simp] theorem slc_setSlc (k : Nat) (f : Slc → Slc) : (s.setSlc k f).slc k = f (s.slc k) := Tab.get_upd_same _ _ _ _
@[simp] theorem slot_setSlot (k : Nat) (f : Slot → Slot) : (s.setSlot k f).slot k = f (s.slot k) := Tab.get_upd_same _ _ _ _

theorem dom_setDom_ne {h k : Nat} (f : Dom → Dom) (hk : k ≠ h) : (s.setDom h f).dom k = s.dom k := Tab.get_upd_ne _ _ hk _
theorem den_setDen_ne {d k : Nat} (f : Den → Den) (hk : k ≠ d) : (s.setDen d f).den k = s.den k := Tab.get_upd_ne _ _ hk _
theorem port_setPort_ne {P k : Nat} (f : PPort → PPort) (hk : k ≠ P) : (s.setPort P f).port k = s.port k := Tab.get_upd_ne _ _ hk _
theorem slot_setSlot_ne {c k : Nat} (f : Slot → Slot) (hk : k ≠ c) : (s.setSlot c f).slot k = s.slot k := Tab.get_upd_ne _ _ hk _
theorem slc_setSlc_ne {c k : Nat} (f : Slc → Slc) (hk : k ≠ c) : (s.setSlc c f).slc k = s.slc k := Tab.get_upd_ne _ _ hk _

end State

end Sys2Proof.Machine
end

