-- ==== Sys2Proof/Laws/Run.lean ====
section
/-! SUPPORT. What each of the shared operations around a meaning answers: `runOk`, `run`, `runLive`, `checked`, `cmdWrite`,
`forAll`; accesses of the internal masters, reads of fences, conditions for Night. -/

set_option Elab.async false

namespace Sys2Proof.Machine

/-- Whatever a command that exists does, it answers a next state and leaves the queue. -/
theorem runOk_answers {ok : Bool} {s : State} {f : State → State} (h : ok = true) :
    ∃ t, runOk ok s f = .next t ∧ t.pending = s.pending := ⟨{ f s with pending := s.pending }, by simp [runOk, h], rfl⟩

/-- A command that does not exist is refused. -/
theorem runOk_refuses {ok : Bool} {s : State} {f : State → State} (h : ok = false) : runOk ok s f = .refused .illFormed := by
  simp [runOk, h]

/-- An effect that leaves the queue is the next state. -/
theorem runOk_next {ok : Bool} {s t : State} {f : State → State} (h : ok = true) (hf : f s = t) (hp : t.pending = s.pending) :
    runOk ok s f = .next t := by
  subst hf
  simp only [runOk, h, if_true, Host.Outcome.next.injEq]
  rw [← hp]

theorem run_answers {c : Instr} {s : State} {f : State → State} (h : c.wf = true) :
    ∃ t, run c s f = .next t ∧ t.pending = s.pending := runOk_answers h

theorem run_refuses {c : Instr} {s : State} {f : State → State} (h : c.wf = false) : run c s f = .refused .illFormed :=
  runOk_refuses h

theorem run_next {c : Instr} {s t : State} {f : State → State} (h : c.wf = true) (hf : f s = t) (hp : t.pending = s.pending) :
    run c s f = .next t := runOk_next h hf hp

/-- A block that has not stopped in the safe state acts. -/
theorem runLive_next {c : Instr} {s t : State} {f : State → State} (h : c.wf = true) (hl : s.live) (hf : f s = t)
    (hp : t.pending = s.pending) : runLive c s f = .next t :=
  run_next h (by simp only [State.live] at hl; simp [hl, hf]) hp

/-- A block that has stopped in the safe state changes nothing (R471). -/
theorem runLive_safe {c : Instr} {s : State} {f : State → State} (h : c.wf = true) (hl : s.get R.GLB_MODE F.GLB_MODE_CUR = 7) :
    runLive c s f = .next s := run_next h (by simp [hl]) rfl

theorem runLive_answers {c : Instr} {s : State} {f : State → State} (h : c.wf = true) :
    ∃ t, runLive c s f = .next t ∧ t.pending = s.pending := run_answers h

namespace State

/-- An access of an island that is not in Dusk wakes nothing. -/
theorem wakeFor_awake {s : State} {a : Nat} (h : s.asleep (islandOf a) = false) : s.wakeFor a = s := by
  simp [wakeFor, wakeIsland, h]

/-- Nor does one of a domain that is off. -/
theorem wakeFor_off {s : State} {a : Nat} (h : s.powered a = false) : s.wakeFor a = s := by simp [wakeFor, h]

/-- An access that passes every check is performed, once its island is awake. -/
theorem checked_pass {s : State} {x : Acc} {act : State → State} (hn : s.nightShut x.m = false) (h : s.checkAcc x = none) :
    s.checked x act = act (s.wakeFor x.addr) := by simp [checked, hn, h]

/-- A refused access is its violation and nothing else. -/
theorem checked_refused {s : State} {x : Acc} {act : State → State} {k i a : Nat} (hn : s.nightShut x.m = false)
    (h : s.checkAcc x = some (k, i, a)) : s.checked x act = s.violate x k i a := by simp [checked, hn, h]

/-- A command written to a register that is powered, on a path that may, acts. -/
theorem cmdWrite_takes {s : State} {m a : Nat} {v : Word} {act : State → State} (h : s.takes m a v) :
    s.cmdWrite m a v act = act s := by
  obtain ⟨hn, hc, hp, ha⟩ := h
  rw [cmdWrite, checked_pass hn hc, Acc.word, wakeFor_awake ha, if_pos hp]

/-- A command written to a register whose domain is off is only counted (R505). -/
theorem cmdWrite_off {s : State} {m a : Nat} {v : Word} {act : State → State} (hn : s.nightShut m = false)
    (hc : s.checkAcc (.word m true a v.toNat) = none) (hp : s.powered a = false) :
    s.cmdWrite m a v act = s.inc R.PWR_LP_STAT F.PWR_LP_STAT_OFF_ACC 1 := by
  rw [cmdWrite, checked_pass hn hc, Acc.word, wakeFor_off hp, hp]
  rfl

theorem checked_read {s : State} {m a : Nat} {act : State → State} (h : s.readOk m a) :
    s.checked (.word m false a 0) act = act s := by
  rw [checked_pass h.1 h.2.1, Acc.word, wakeFor_awake h.2.2]

/-! ### Accesses of the internal masters, fences, the way into Night -/

/-- A write of control memory by an internal master that passes stores the bytes. -/
theorem cmemStore_pass {s : State} {m off : Nat} {bs : List Byte} (hn : s.nightShut m = false)
    (h : s.checkAcc { Acc.word m true (0x1000000 + off) 0 with size := bs.length } = none) :
    s.cmemStore m off bs = (s.wakeFor (0x1000000 + off)).cmemPut off bs := checked_pass hn h

/-- One that is refused stores none (R450). -/
theorem cmemStore_refused {s : State} {m off k i a : Nat} {bs : List Byte} (hn : s.nightShut m = false)
    (h : s.checkAcc { Acc.word m true (0x1000000 + off) 0 with size := bs.length } = some (k, i, a)) :
    s.cmemStore m off bs = s.violate { Acc.word m true (0x1000000 + off) 0 with size := bs.length } k i a := checked_refused hn h

/-- A refused read of control memory brings zeros (R450). -/
theorem cmemRead_refused {s : State} {m off n : Nat} {v : Nat × Nat × Nat}
    (h : s.checkAcc { Acc.word m false (0x1000000 + off) 0 with size := n } = some v) :
    (s.cmemRead m off n).2 = List.replicate n 0 := by simp [cmemRead, h]

/-- A read of a fence that is met answers 0 at once; any other is held behind those held before it. -/
theorem fenceWord_met {s : State} {m a : Nat} (h : s.fenceWaits m a = false) :
    s.fenceWord m a = s.emit (.readData m a (leBytes 4 0)) := by simp [fenceWord, h]

theorem fenceWord_held {s : State} {m a : Nat} (h : s.fenceWaits m a = true) :
    s.fenceWord m a = { s with tblw := { s.tblw with fences := s.tblw.fences ++ [s.fenceRd m a .word [] []] } } := by
  simp [fenceWord, fenceHold, h]

/-- A register that is no fence never makes a read wait. -/
theorem fenceWaits_plain {s : State} {m a : Nat} (h : isFence a = false) : s.fenceWaits m a = false := by simp [fenceWaits, h]

/-- A failed condition for Night changes PWR_NIGHT_STAT and the stage of the entry, and nothing while no entry is under way. -/
theorem nightFail_keeps (s : State) (code : Nat) :
    s.nightFail code = { s with regs := (s.nightFail code).regs, pwr := (s.nightFail code).pwr } := by
  unfold nightFail; split <;> rfl

theorem nightFail_idle {s : State} {code : Nat} (h : s.pwr.stage ≠ .drain) (h' : s.pwr.stage ≠ .digest) : s.nightFail code = s := by
  simp [nightFail, h, h']

end State

/-- What every round of a loop leaves, the loop leaves. -/
theorem forAll_keeps {α β : Type} (p : State → β) (f : α → State → State) (h : ∀ x s, p (f x s) = p s) :
    ∀ (l : List α) (s : State), p (forAll l f s) = p s
  | [], _ => rfl
  | x :: l, s => by
    have := forAll_keeps p f h l (f x s)
    simp only [forAll, List.foldl_cons] at this ⊢
    rw [this, h]

@[simp] theorem forAll_nil {α : Type} (f : α → State → State) (s : State) : forAll [] f s = s := rfl

theorem forAll_cons {α : Type} (x : α) (l : List α) (f : α → State → State) (s : State) :
    forAll (x :: l) f s = forAll l f (f x s) := rfl

end Sys2Proof.Machine
end

