-- ==== Sys2Proof/Laws/Fields.lean ====
section
/-! SUPPORT. A write of a register by its field types: what each field holds after it (R10). -/

set_option Elab.async false

namespace Sys2Proof.Machine

/-! ### Words by their bits -/

/-- Two words whose bits agree over a field agree in it. -/
theorem fldOf_congr {x y : Word} {f : Fld} (h : ∀ i, f.lo ≤ i → i < f.lo + f.w → x.getLsbD i = y.getLsbD i) :
    fldOf x f = fldOf y f := by
  simp only [fldOf, bits]
  apply Nat.eq_of_testBit_eq
  intro j
  rw [Nat.testBit_mod_two_pow, Nat.testBit_mod_two_pow, Nat.testBit_div_two_pow, Nat.testBit_div_two_pow]
  by_cases hj : j < f.w
  · have := h (j + f.lo) (by omega) (by omega)
    simp only [BitVec.getLsbD] at this
    simp [hj, this]
  · simp [hj]

theorem Fld.mask_testBit (f : Fld) (i : Nat) : f.mask.testBit i = (decide (f.lo ≤ i) && decide (i < f.lo + f.w)) := by
  rw [Fld.mask, Nat.mul_comm, Nat.testBit_two_pow_mul, Nat.testBit_two_pow_sub_one]
  by_cases h : f.lo ≤ i <;> simp [h]
  omega

theorem maskOf_testBit (fs : List Fld) (p : Fld → Bool) (i : Nat) :
    (maskOf fs p).testBit i = fs.any fun f => p f && (decide (f.lo ≤ i) && decide (i < f.lo + f.w)) := by
  induction fs with
  | nil => simp [maskOf]
  | cons f fs ih =>
    simp only [maskOf, List.foldr_cons, List.any_cons] at ih ⊢
    by_cases h : p f = true
    · simp [h, Nat.testBit_or, Fld.mask_testBit, ih]
    · simp only [Bool.not_eq_true] at h; simp [h, ih]

/-- Fields that lie in the word and beside one another. -/
def fldsOk : List Fld → Bool
  | [] => true
  | f :: fs => decide (f.lo + f.w ≤ 32) && fs.all (fun g => decide (f.lo + f.w ≤ g.lo) || decide (g.lo + g.w ≤ f.lo)) && fldsOk fs

theorem fldsOk_range {fs : List Fld} (h : fldsOk fs = true) {f : Fld} (hf : f ∈ fs) : f.lo + f.w ≤ 32 := by
  induction fs with
  | nil => cases hf
  | cons g fs ih =>
    simp only [fldsOk, Bool.and_eq_true, decide_eq_true_eq] at h
    rcases List.mem_cons.1 hf with rfl | hf
    · exact h.1.1
    · exact ih h.2 hf

/-- Inside a field, a mask of its register is that field's own part. -/
theorem maskOf_in {fs : List Fld} (h : fldsOk fs = true) {f : Fld} (hf : f ∈ fs) (p : Fld → Bool) {i : Nat} (h1 : f.lo ≤ i)
    (h2 : i < f.lo + f.w) : (maskOf fs p).testBit i = p f := by
  rw [maskOf_testBit]
  induction fs with
  | nil => cases hf
  | cons g fs ih =>
    simp only [fldsOk, Bool.and_eq_true, decide_eq_true_eq, List.all_eq_true, Bool.or_eq_true] at h
    rw [List.any_cons]
    rcases List.mem_cons.1 hf with rfl | hf
    · have : (fs.any fun g => p g && (decide (g.lo ≤ i) && decide (i < g.lo + g.w))) = false := by
        rw [List.any_eq_false]
        intro g hg
        have := h.1.2 g hg
        simp only [Bool.and_eq_true, decide_eq_true_eq, not_and]
        intro _ _; omega
      rw [this]; simp [h1, h2]
    · have := h.1.2 f hf
      rw [ih h.2 hf]
      have : (decide (g.lo ≤ i) && decide (i < g.lo + g.w)) = false := by
        simp only [Bool.and_eq_false_iff, decide_eq_false_iff_not]; omega
      simp [this]

/-! ### The table of registers -/

/-- The fields of every row of a block lie in their word, beside one another. -/
def rowsOk (l : List Row) : Bool := l.all fun r => fldsOk r.flds

theorem rowsGLB_ok : rowsOk rowsGLB = true := by decide +kernel
theorem rowsPWR_ok : rowsOk rowsPWR = true := by decide +kernel
theorem rowsFLT_ok : rowsOk rowsFLT = true := by decide +kernel
theorem rowsSEC_ok : rowsOk rowsSEC = true := by decide +kernel
theorem rowsMGT_ok : rowsOk rowsMGT = true := by decide +kernel
theorem rowsMGT_FAB_ok : rowsOk rowsMGT_FAB = true := by decide +kernel
theorem rowsTEL_ok : rowsOk rowsTEL = true := by decide +kernel
theorem rowsCHK_ok : rowsOk rowsCHK = true := by decide +kernel
theorem rowsSLOT_ok : rowsOk rowsSLOT = true := by decide +kernel
theorem rowsGRD_ok : rowsOk rowsGRD = true := by decide +kernel
theorem rowsGRP_ok : rowsOk rowsGRP = true := by decide +kernel
theorem rowsGRP_LINK_ok : rowsOk rowsGRP_LINK = true := by decide +kernel
theorem rowsGRP_PCIE_ok : rowsOk rowsGRP_PCIE = true := by decide +kernel
theorem rowsSETT_ok : rowsOk rowsSETT = true := by decide +kernel
theorem rowsDEN_ok : rowsOk rowsDEN = true := by decide +kernel
theorem rowsWEN_ok : rowsOk rowsWEN = true := by decide +kernel
theorem rowsSLC_ok : rowsOk rowsSLC = true := by decide +kernel
theorem rowsQOS_ok : rowsOk rowsQOS = true := by decide +kernel
theorem rowsTBL_ok : rowsOk rowsTBL = true := by decide +kernel

theorem rowsAt_ok (a : Nat) : rowsOk (rowsAt a) = true := by
  have hi : ∀ (p : Prop) [Decidable p] (x y : List Row), rowsOk x = true → rowsOk y = true → rowsOk (if p then x else y) = true := by
    intro p _ x y hx hy
    by_cases h : p
    · rw [if_pos h]; exact hx
    · rw [if_neg h]; exact hy
  unfold rowsAt
  refine hi _ _ _ rowsGLB_ok <| hi _ _ _ rowsPWR_ok <| hi _ _ _ rowsFLT_ok <| hi _ _ _ rowsSEC_ok <| hi _ _ _ rowsMGT_ok <|
    hi _ _ _ rowsMGT_FAB_ok <| hi _ _ _ rowsTEL_ok <| hi _ _ _ rowsCHK_ok <| hi _ _ _ rowsSLOT_ok <| hi _ _ _ rowsGRD_ok <|
    hi _ _ _ rfl <| hi _ _ _ (hi _ _ _ rowsGRP_ok <| hi _ _ _ rowsGRP_LINK_ok rowsGRP_PCIE_ok) <| hi _ _ _ rowsSETT_ok <|
    hi _ _ _ rowsDEN_ok <| hi _ _ _ rowsWEN_ok <| hi _ _ _ rowsSLC_ok <| hi _ _ _ rowsQOS_ok <| hi _ _ _ rfl <|
    hi _ _ _ rowsTBL_ok rfl

/-- The fields of every register lie in its word, beside one another. -/
theorem fieldsAt_ok (a : Nat) : fldsOk (fieldsAt a) = true := by
  unfold fieldsAt
  simp only
  split
  · rfl
  · split
    · next h => exact List.all_eq_true.1 (rowsAt_ok _) _ (List.mem_of_find?_eq_some h)
    · rfl

namespace State

variable (s : State)

/-- What a field of a register holds after a word was written to it. -/
theorem store_field {m a : Nat} {v : Word} (hl : s.gateLocked a = false) {f : Fld} (hf : f ∈ fieldsAt a) :
    (s.store m a v).get (s.phys m a) f =
      match f.ty with
      | .rw => fldOf v f
      | .w1c => fldOf (s.rd (s.phys m a) &&& ~~~v) f
      | .w1s => fldOf (s.rd (s.phys m a) ||| v) f
      | _ => s.get (s.phys m a) f := by
  have hok := fieldsAt_ok a
  have hr := fldsOk_range hok hf
  simp only [store, hl, Bool.false_eq_true, if_false, get, rd_wr_same]
  generalize s.rd (s.phys m a) = old
  have hm : ∀ (p : Fld → Bool) i, f.lo ≤ i → i < f.lo + f.w → (BitVec.ofNat 32 (maskOf (fieldsAt a) p)).getLsbD i = p f := by
    intro p i h1 h2
    rw [BitVec.getLsbD_ofNat, maskOf_in hok hf p h1 h2]
    simp; intro; omega
  split <;> next h =>
    refine fldOf_congr fun i h1 h2 => ?_
    have h32 : i < 32 := by omega
    simp only [BitVec.getLsbD_or, BitVec.getLsbD_and, BitVec.getLsbD_not, hm _ _ h1 h2, h, h32, decide_true, Bool.true_and]
    simp_all

/-- No other register changes, nor anything else. -/
theorem rd_store_ne {m a b : Nat} {v : Word} (hb : b ≠ s.phys m a) : (s.store m a v).rd b = s.rd b := by
  unfold store
  split
  · rfl
  · exact rd_wr_ne _ _ hb

theorem store_keeps (m a : Nat) (v : Word) : s.store m a v = { s with regs := (s.store m a v).regs } := by
  unfold store; split <;> rfl

/-- A locked gate's registers keep what they hold (R444). -/
theorem store_locked {m a : Nat} {v : Word} (h : s.gateLocked a = true) : s.store m a v = s := by simp [store, h]

/-! ### Accesses of one word -/

theorem wordsOf_word {a : Nat} (h : a % 4 = 0) : wordsOf a 4 = [a] := by
  simp only [wordsOf, h, Nat.zero_add]
  simp [upTo]; omega

theorem leNat_leBytes4 (v : Word) : BitVec.ofNat 32 (leNat (leBytes 4 v.toNat)) = v := by
  apply BitVec.eq_of_toNat_eq
  have := v.isLt
  simp only [leNat, leBytes, BitVec.toNat_ofNat]
  omega

theorem carried_word (a i : Nat) (v : Word) (h : i < 4) :
    carried a ((leBytes 4 v.toNat).map some) (a + i) = ((leBytes 4 v.toNat).map some).getD i none := by
  rw [carried, if_neg (by omega), show a + i - a = i by omega]

/-- A whole word written outside the byte spaces is a write of its register. -/
theorem busWrite_word {m a : Nat} {v : Word} (ha : a % 4 = 0) (hb : byteSpace a = false) (hp : s.powered a = true)
    (hw : s.asleep (islandOf a) = false) :
    s.busWrite m a ((leBytes 4 v.toNat).map some) = s.writeReg m a v := by
  have hc : inCmem a = false := by simp only [byteSpace, Bool.or_eq_false_iff] at hb; exact hb.1.1
  have hl : ((leBytes 4 v.toNat).map some).length = 4 := rfl
  simp only [busWrite, hc, hb, Bool.false_eq_true, if_false, hl, wordsOf_word ha, forAll_cons, forAll_nil, putWord, hp,
    Bool.not_true, wakeFor_awake hw]
  have h0 := carried_word a 0 v (by decide)
  have h1 := carried_word a 1 v (by decide)
  have h2 := carried_word a 2 v (by decide)
  have h3 := carried_word a 3 v (by decide)
  simp only [Nat.add_zero] at h0
  rw [h0, h1, h2, h3]
  exact congrArg (s.writeReg m a) (leNat_leBytes4 v)

/-- REGISTER_WRITE of a whole register on a path that may. -/
theorem execRegisterWrite_takes {s : State} {m a : Nat} {v : Word} {t : State} (hm : masterOk m = true) (hA : a < 0x4000000)
    (ha : a % 4 = 0) (hb : byteSpace a = false) (h : s.takes m a v) (ht : s.writeReg m a v = t) (hp : t.pending = s.pending) :
    execRegisterWrite m a v s = .next t := by
  unfold execRegisterWrite
  refine run_next (by simp [Instr.wf, hm, hA]) ?_ hp
  rw [checked_pass h.1 h.2.1, Acc.word, wakeFor_awake h.2.2.2, busWrite_word _ ha hb h.2.2.1 h.2.2.2, ht]

end State

end Sys2Proof.Machine
end

