-- ==== Sys2Proof/Laws/PerInstr.lean ====
section
/-! SUPPORT. For every command of the table: it is refused when it does not exist on the part, and otherwise answers a next
state and leaves the queue. -/

namespace Sys2Proof.Laws.Wf

open Sys2Proof Sys2Proof.Machine

/-- Whether a command is well formed decides whether it answers: it never stops for any other reason. -/
def Statement (c : Instr) : Prop := ∀ s : State,
  if c.wf then ∃ t, exec c s = .next t ∧ t.pending = s.pending else exec c s = .refused .illFormed

theorem law {ok : Bool} {r : Res'} {s : State} {f : State → State} (h : r = runOk ok s f) :
    if ok then ∃ t, r = .next t ∧ t.pending = s.pending else r = .refused .illFormed := by
  subst h
  cases h : ok
  · exact runOk_refuses rfl
  · exact runOk_answers rfl

theorem lawRun {c : Instr} {r : Res'} {s : State} {f : State → State} (h : r = run c s f) :
    if c.wf then ∃ t, r = .next t ∧ t.pending = s.pending else r = .refused .illFormed := by
  unfold run at h; exact law h

theorem lawLive {c : Instr} {r : Res'} {s : State} {f : State → State} (h : r = runLive c s f) :
    if c.wf then ∃ t, r = .next t ∧ t.pending = s.pending else r = .refused .illFormed := by
  unfold runLive at h; exact lawRun h

theorem registerWrite (m : Nat) (addr : Nat) (v : Word) : Statement (.registerWrite m addr v) := fun s =>
  lawRun (r := execRegisterWrite m addr v s) rfl
theorem cpAccess (a : CpAcc) : Statement (.cpAccess a) := fun s =>
  lawRun (r := execCpAccess a s) rfl
theorem guardFence (m : Nat) : Statement (.guardFence m) := fun s =>
  lawRun (r := execGuardFence m s) rfl
theorem gateLock (m : Nat) (k : Nat) (v : Word) : Statement (.gateLock m k v) := fun s =>
  lawRun (r := execGateLock m k v s) rfl
theorem resetPinLow (pin : ResetPin) (ns : Nat) : Statement (.resetPinLow pin ns) := fun s =>
  lawRun (r := execResetPinLow pin ns s) rfl
theorem coldReset (m : Nat) (v : Word) : Statement (.coldReset m v) := fun s =>
  lawRun (r := execColdReset m v s) rfl
theorem warmReset (m : Nat) (v : Word) : Statement (.warmReset m v) := fun s =>
  lawRun (r := execWarmReset m v s) rfl
theorem strapSample (boot : Nat) (flash : Nat) (i3c : Nat) : Statement (.strapSample boot flash i3c) := fun s =>
  lawRun (r := execStrapSample boot flash i3c s) rfl
theorem bootStart (testsPass : Bool) (flashAnswers : Bool) : Statement (.bootStart testsPass flashAnswers) := fun s =>
  lawRun (r := execBootStart testsPass flashAnswers s) rfl
theorem imageHeaderCheck (answers : Bool) : Statement (.imageHeaderCheck answers) := fun s =>
  lawRun (r := execImageHeaderCheck answers s) rfl
theorem segmentCheck (answers : Bool) : Statement (.segmentCheck answers) := fun s =>
  lawRun (r := execSegmentCheck answers s) rfl
theorem signatureVerify : Statement (.signatureVerify) := fun s =>
  lawRun (r := execSignatureVerify s) rfl
theorem settingsRecordApply : Statement (.settingsRecordApply) := fun s =>
  lawRun (r := execSettingsRecordApply s) rfl
theorem settingsDelayEnd : Statement (.settingsDelayEnd) := fun s =>
  lawRun (r := execSettingsDelayEnd s) rfl
theorem settingsPollTimeout : Statement (.settingsPollTimeout) := fun s =>
  lawRun (r := execSettingsPollTimeout s) rfl
theorem bootComplete : Statement (.bootComplete) := fun s =>
  lawRun (r := execBootComplete s) rfl
theorem bootConfirm (m : Nat) (v : Word) : Statement (.bootConfirm m v) := fun s =>
  lawRun (r := execBootConfirm m v s) rfl
theorem confirmTimeout : Statement (.confirmTimeout) := fun s =>
  lawRun (r := execConfirmTimeout s) rfl
theorem modeRequest (m : Nat) (v : Word) : Statement (.modeRequest m v) := fun s =>
  lawRun (r := execModeRequest m v s) rfl
theorem modeTransitionComplete : Statement (.modeTransitionComplete) := fun s =>
  lawRun (r := execModeTransitionComplete s) rfl
theorem groupReset (m : Nat) (v : Word) : Statement (.groupReset m v) := fun s =>
  lawRun (r := execGroupReset m v s) rfl
theorem groupResetDone (g : Nat) : Statement (.groupResetDone g) := fun s =>
  lawRun (r := execGroupResetDone g s) rfl
theorem pcieLinkTrain (port : Nat) (t : PcieTrain) : Statement (.pcieLinkTrain port t) := fun s =>
  lawRun (r := execPcieLinkTrain port t s) rfl
theorem pcieEqPhase (g : Nat) (n : Nat) (rate : Nat) (rejected : Bool) : Statement (.pcieEqPhase g n rate rejected) := fun s =>
  lawLive (r := execPcieEqPhase g n rate rejected s) rfl
theorem partnerPresetRequest (g : Nat) (n : Nat) (tx : TxRequest) : Statement (.partnerPresetRequest g n tx) := fun s =>
  lawLive (r := execPartnerPresetRequest g n tx s) rfl
theorem laneLock (g : Nat) (n : Nat) : Statement (.laneLock g n) := fun s =>
  lawLive (r := execLaneLock g n s) rfl
theorem laneAligned (g : Nat) (n : Nat) (inverted : Bool) : Statement (.laneAligned g n inverted) := fun s =>
  lawLive (r := execLaneAligned g n inverted s) rfl
theorem laneAlignLoss (g : Nat) (n : Nat) : Statement (.laneAlignLoss g n) := fun s =>
  lawLive (r := execLaneAlignLoss g n s) rfl
theorem alignTimeout (g : Nat) (n : Nat) : Statement (.alignTimeout g n) := fun s =>
  lawLive (r := execAlignTimeout g n s) rfl
theorem laneTrainingRecord (g : Nat) (p : Nat) (n : Nat) (bytes : List Byte) : Statement (.laneTrainingRecord g p n bytes) := fun s =>
  lawLive (r := execLaneTrainingRecord g p n bytes s) rfl
theorem propose (g : Nat) (p : Nat) : Statement (.propose g p) := fun s =>
  lawLive (r := execPropose g p s) rfl
theorem switchRate (g : Nat) (p : Nat) : Statement (.switchRate g p) := fun s =>
  lawLive (r := execSwitchRate g p s) rfl
theorem rateIdleEnd (g : Nat) (p : Nat) : Statement (.rateIdleEnd g p) := fun s =>
  lawLive (r := execRateIdleEnd g p s) rfl
theorem verifyEnd (g : Nat) (p : VerifyTime) : Statement (.verifyEnd g p) := fun s =>
  lawLive (r := execVerifyEnd g p s) rfl
theorem laneErrorWindow (g : Nat) (n : LaneWindow) : Statement (.laneErrorWindow g n) := fun s =>
  lawLive (r := execLaneErrorWindow g n s) rfl
theorem spareCmd (m : Nat) (g : Nat) (v : Word) : Statement (.spareCmd m g v) := fun s =>
  lawRun (r := execSpareCmd m g v s) rfl
theorem spareAligned (g : Nat) (p : SpareLock) : Statement (.spareAligned g p) := fun s =>
  lawLive (r := execSpareAligned g p s) rfl
theorem eyeScan (m : Nat) (g : Nat) (v : Word) : Statement (.eyeScan m g v) := fun s =>
  lawRun (r := execEyeScan m g v s) rfl
theorem eyeScanDone (g : Nat) (errs : Nat) : Statement (.eyeScanDone g errs) := fun s =>
  lawLive (r := execEyeScanDone g errs s) rfl
theorem marginCommand (g : Nat) (n : Nat) (c : MarginCmd) : Statement (.marginCommand g n c) := fun s =>
  lawLive (r := execMarginCommand g n c s) rfl
theorem eqOverride (m : Nat) (g : Nat) (v : Word) : Statement (.eqOverride m g v) := fun s =>
  lawRun (r := execEqOverride m g v s) rfl
theorem flitTransmit (g : Nat) (p : Nat) : Statement (.flitTransmit g p) := fun s =>
  lawLive (r := execFlitTransmit g p s) rfl
theorem flitReceive (g : Nat) (p : Nat) (f : Flit) (errs : List LaneErr) : Statement (.flitReceive g p f errs) := fun s =>
  lawLive (r := execFlitReceive g p f errs s) rfl
theorem replayTimeout (g : Nat) (p : Nat) : Statement (.replayTimeout g p) := fun s =>
  lawLive (r := execReplayTimeout g p s) rfl
theorem creditTimeout (g : Nat) (p : Nat) (cls : Nat) : Statement (.creditTimeout g p cls) := fun s =>
  lawLive (r := execCreditTimeout g p cls s) rfl
theorem initTimeout (g : Nat) (p : Nat) : Statement (.initTimeout g p) := fun s =>
  lawLive (r := execInitTimeout g p s) rfl
theorem retrainPortResetDone (g : Nat) (p : Nat) : Statement (.retrainPortResetDone g p) := fun s =>
  lawLive (r := execRetrainPortResetDone g p s) rfl
theorem swapReq (g : Nat) (p : Nat) (lane : Nat) : Statement (.swapReq g p lane) := fun s =>
  lawLive (r := execSwapReq g p lane s) rfl
theorem swapReady (g : Nat) (p : Nat) (lane : Nat) : Statement (.swapReady g p lane) := fun s =>
  lawLive (r := execSwapReady g p lane s) rfl
theorem swapGo (g : Nat) (p : Nat) (lane : Nat) : Statement (.swapGo g p lane) := fun s =>
  lawLive (r := execSwapGo g p lane s) rfl
theorem swapAbort (g : Nat) (p : Nat) (lane : Nat) (reason : Nat) : Statement (.swapAbort g p lane reason) := fun s =>
  lawLive (r := execSwapAbort g p lane reason s) rfl
theorem retrainReq (g : Nat) (p : Nat) (op : Nat) : Statement (.retrainReq g p op) := fun s =>
  lawLive (r := execRetrainReq g p op s) rfl
theorem swapBlockEnd (g : Nat) (p : Nat) : Statement (.swapBlockEnd g p) := fun s =>
  lawLive (r := execSwapBlockEnd g p s) rfl
theorem swapTimeout (g : Nat) (p : Nat) : Statement (.swapTimeout g p) := fun s =>
  lawLive (r := execSwapTimeout g p s) rfl
theorem linkCmdRetrain (m : Nat) (g : Nat) (p : Nat) : Statement (.linkCmdRetrain m g p) := fun s =>
  lawRun (r := execLinkCmdRetrain m g p s) rfl
theorem linkCmdRetrainFull (m : Nat) (g : Nat) (p : Nat) : Statement (.linkCmdRetrainFull m g p) := fun s =>
  lawRun (r := execLinkCmdRetrainFull m g p s) rfl
theorem linkCmdDisable (m : Nat) (g : Nat) (p : Nat) : Statement (.linkCmdDisable m g p) := fun s =>
  lawRun (r := execLinkCmdDisable m g p s) rfl
theorem linkCmdEnable (m : Nat) (g : Nat) (p : Nat) : Statement (.linkCmdEnable m g p) := fun s =>
  lawRun (r := execLinkCmdEnable m g p s) rfl
theorem hostDomainEnable (m : Nat) (h : Nat) (v : Word) : Statement (.hostDomainEnable m h v) := fun s =>
  lawRun (r := execHostDomainEnable m h v s) rfl
theorem hostDomainDisable (m : Nat) (h : Nat) (v : Word) : Statement (.hostDomainDisable m h v) := fun s =>
  lawRun (r := execHostDomainDisable m h v s) rfl
theorem tlpReceive (port : Nat) (t : Tlp) : Statement (.tlpReceive port t) := fun s =>
  lawLive (r := execTlpReceive port t s) rfl
theorem configRequest (h : Nat) (c : CfgReq) : Statement (.configRequest h c) := fun s =>
  lawRun (r := execConfigRequest h c s) rfl
theorem upstreamReset (h : Nat) (linkDown : Bool) : Statement (.upstreamReset h linkDown) := fun s =>
  lawRun (r := execUpstreamReset h linkDown s) rfl
theorem secondaryBusReset (h : Nat) (vdev : Nat) : Statement (.secondaryBusReset h vdev) := fun s =>
  lawRun (r := execSecondaryBusReset h vdev s) rfl
theorem portReset (m : Nat) (g : Nat) (p : Nat) : Statement (.portReset m g p) := fun s =>
  lawRun (r := execPortReset m g p s) rfl
theorem pciePortDisable (m : Nat) (g : Nat) (p : Nat) : Statement (.pciePortDisable m g p) := fun s =>
  lawRun (r := execPciePortDisable m g p s) rfl
theorem pciePortEnable (m : Nat) (g : Nat) (p : Nat) : Statement (.pciePortEnable m g p) := fun s =>
  lawRun (r := execPciePortEnable m g p s) rfl
theorem dmfBarAccess (h : Nat) (a : BarAcc) : Statement (.dmfBarAccess h a) := fun s =>
  lawRun (r := execDmfBarAccess h a s) rfl
theorem trackedTimeout (port : Nat) (tag : Nat) : Statement (.trackedTimeout port tag) := fun s =>
  lawLive (r := execTrackedTimeout port tag s) rfl
theorem dpcTrigger (port : Nat) (cause : DpcCause) : Statement (.dpcTrigger port cause) := fun s =>
  lawRun (r := execDpcTrigger port cause s) rfl
theorem dpcRelease (h : Nat) (vdev : Nat) : Statement (.dpcRelease h vdev) := fun s =>
  lawRun (r := execDpcRelease h vdev s) rfl
theorem dmfBmeWrite (h : Nat) (on : Bool) : Statement (.dmfBmeWrite h on) := fun s =>
  lawRun (r := execDmfBmeWrite h on s) rfl
theorem hostReadCompletion (h : Nat) (tag : Nat) (st : CplStatus) (data : List Byte) : Statement (.hostReadCompletion h tag st data) := fun s =>
  lawRun (r := execHostReadCompletion h tag st data s) rfl
theorem dmfFlr (h : Nat) : Statement (.dmfFlr h) := fun s =>
  lawRun (r := execDmfFlr h s) rfl
theorem flrComplete (h : Nat) (limit : Bool) : Statement (.flrComplete h limit) := fun s =>
  lawRun (r := execFlrComplete h limit s) rfl
theorem apertureYield (a : Nat) (b : Nat) : Statement (.apertureYield a b) := fun s =>
  lawLive (r := execApertureYield a b s) rfl
theorem apertureReissue (a : Nat) (b : Nat) : Statement (.apertureReissue a b) := fun s =>
  lawLive (r := execApertureReissue a b s) rfl
theorem ingressResume (port : Nat) : Statement (.ingressResume port) := fun s =>
  lawLive (r := execIngressResume port s) rfl
theorem jobDispatch (d : Nat) : Statement (.jobDispatch d) := fun s =>
  lawLive (r := execJobDispatch d s) rfl
theorem descriptorRelease (port : Nat) (tc : Nat) : Statement (.descriptorRelease port tc) := fun s =>
  lawLive (r := execDescriptorRelease port tc s) rfl
theorem admissionRetry (q : Nat) : Statement (.admissionRetry q) := fun s =>
  lawLive (r := execAdmissionRetry q s) rfl
theorem egressSchedule (port : Nat) : Statement (.egressSchedule port) := fun s =>
  lawLive (r := execEgressSchedule port s) rfl
theorem cellRead (port : Nat) (fails : Nat) : Statement (.cellRead port fails) := fun s =>
  lawLive (r := execCellRead port fails s) rfl
theorem cutThroughWaitTimeout (port : Nat) : Statement (.cutThroughWaitTimeout port) := fun s =>
  lawLive (r := execCutThroughWaitTimeout port s) rfl
theorem quarterControl (m : Nat) (v : Word) : Statement (.quarterControl m v) := fun s =>
  lawRun (r := execQuarterControl m v s) rfl
theorem quarterPowerUpDone (q : Nat) : Statement (.quarterPowerUpDone q) := fun s =>
  lawRun (r := execQuarterPowerUpDone q s) rfl
theorem jobWatchdog (th : Thr) : Statement (.jobWatchdog th) := fun s =>
  lawRun (r := execJobWatchdog th s) rfl
theorem kNop (th : Thr) : Statement (.kNop th) := fun s =>
  lawRun (r := execKNop th s) rfl
theorem kMov (th : Thr) : Statement (.kMov th) := fun s =>
  lawRun (r := execKMov th s) rfl
theorem kMovh (th : Thr) : Statement (.kMovh th) := fun s =>
  lawRun (r := execKMovh th s) rfl
theorem kAdd (th : Thr) : Statement (.kAdd th) := fun s =>
  lawRun (r := execKAdd th s) rfl
theorem kSub (th : Thr) : Statement (.kSub th) := fun s =>
  lawRun (r := execKSub th s) rfl
theorem kAnd (th : Thr) : Statement (.kAnd th) := fun s =>
  lawRun (r := execKAnd th s) rfl
theorem kOr (th : Thr) : Statement (.kOr th) := fun s =>
  lawRun (r := execKOr th s) rfl
theorem kXor (th : Thr) : Statement (.kXor th) := fun s =>
  lawRun (r := execKXor th s) rfl
theorem kShl (th : Thr) : Statement (.kShl th) := fun s =>
  lawRun (r := execKShl th s) rfl
theorem kShr (th : Thr) : Statement (.kShr th) := fun s =>
  lawRun (r := execKShr th s) rfl
theorem kSar (th : Thr) : Statement (.kSar th) := fun s =>
  lawRun (r := execKSar th s) rfl
theorem kCmp (th : Thr) : Statement (.kCmp th) := fun s =>
  lawRun (r := execKCmp th s) rfl
theorem kTst (th : Thr) : Statement (.kTst th) := fun s =>
  lawRun (r := execKTst th s) rfl
theorem kCrc (th : Thr) : Statement (.kCrc th) := fun s =>
  lawRun (r := execKCrc th s) rfl
theorem kTime (th : Thr) : Statement (.kTime th) := fun s =>
  lawRun (r := execKTime th s) rfl
theorem kExt (th : Thr) : Statement (.kExt th) := fun s =>
  lawRun (r := execKExt th s) rfl
theorem kIns (th : Thr) : Statement (.kIns th) := fun s =>
  lawRun (r := execKIns th s) rfl
theorem kBcc (th : Thr) : Statement (.kBcc th) := fun s =>
  lawRun (r := execKBcc th s) rfl
theorem kLkd (th : Thr) : Statement (.kLkd th) := fun s =>
  lawRun (r := execKLkd th s) rfl
theorem kLkh (th : Thr) : Statement (.kLkh th) := fun s =>
  lawRun (r := execKLkh th s) rfl
theorem kLkr (th : Thr) : Statement (.kLkr th) := fun s =>
  lawRun (r := execKLkr th s) rfl
theorem kLkt (th : Thr) : Statement (.kLkt th) := fun s =>
  lawRun (r := execKLkt th s) rfl
theorem resourceSlotServe (d : Nat) (res : Res) : Statement (.resourceSlotServe d res) := fun s =>
  lawRun (r := execResourceSlotServe d res s) rfl
theorem kMtr (th : Thr) : Statement (.kMtr th) := fun s =>
  lawRun (r := execKMtr th s) rfl
theorem kCnt (th : Thr) : Statement (.kCnt th) := fun s =>
  lawRun (r := execKCnt th s) rfl
theorem counterUpdateApply (d : Nat) : Statement (.counterUpdateApply d) := fun s =>
  lawRun (r := execCounterUpdateApply d s) rfl
theorem kSetd (th : Thr) : Statement (.kSetd th) := fun s =>
  lawRun (r := execKSetd th s) rfl
theorem kPush (th : Thr) : Statement (.kPush th) := fun s =>
  lawRun (r := execKPush th s) rfl
theorem kSmpl (th : Thr) : Statement (.kSmpl th) := fun s =>
  lawRun (r := execKSmpl th s) rfl
theorem kEnd (th : Thr) : Statement (.kEnd th) := fun s =>
  lawRun (r := execKEnd th s) rfl
theorem eccRepair (d : Nat) (loc : EccLoc) : Statement (.eccRepair d loc) := fun s =>
  lawRun (r := execEccRepair d loc s) rfl
theorem tableEntryWrite (m : Nat) (v : Word) : Statement (.tableEntryWrite m v) := fun s =>
  lawRun (r := execTableEntryWrite m v s) rfl
theorem tableWriterStep : Statement (.tableWriterStep) := fun s =>
  lawRun (r := execTableWriterStep s) rfl
theorem tableFence (m : Nat) : Statement (.tableFence m) := fun s =>
  lawRun (r := execTableFence m s) rfl
theorem programLoad (m : Nat) (v : Word) : Statement (.programLoad m v) := fun s =>
  lawRun (r := execProgramLoad m v s) rfl
theorem programSwitch (m : Nat) (v : Word) : Statement (.programSwitch m v) := fun s =>
  lawRun (r := execProgramSwitch m v s) rfl
theorem denDrained (d : Nat) : Statement (.denDrained d) := fun s =>
  lawRun (r := execDenDrained d s) rfl
theorem progSelWrite (m : Nat) (d : Nat) (v : Word) : Statement (.progSelWrite m d v) := fun s =>
  lawRun (r := execProgSelWrite m d v s) rfl
theorem meterCommit (m : Nat) (d : Nat) (v : Word) : Statement (.meterCommit m d v) := fun s =>
  lawRun (r := execMeterCommit m d v s) rfl
theorem meterRead (m : Nat) (d : Nat) (v : Word) : Statement (.meterRead m d v) := fun s =>
  lawRun (r := execMeterRead m d v s) rfl
theorem counterSnap (m : Nat) (d : Nat) (v : Word) : Statement (.counterSnap m d v) := fun s =>
  lawRun (r := execCounterSnap m d v s) rfl
theorem heartbeatPeriod : Statement (.heartbeatPeriod) := fun s =>
  lawRun (r := execHeartbeatPeriod s) rfl
theorem heartbeat (port : Nat) (msg : List Byte) : Statement (.heartbeat port msg) := fun s =>
  lawRun (r := execHeartbeat port msg s) rfl
theorem heartbeatResponse (msg : List Byte) : Statement (.heartbeatResponse msg) := fun s =>
  lawRun (r := execHeartbeatResponse msg s) rfl
theorem heartbeatTick : Statement (.heartbeatTick) := fun s =>
  lawRun (r := execHeartbeatTick s) rfl
theorem managerListenEnd : Statement (.managerListenEnd) := fun s =>
  lawRun (r := execManagerListenEnd s) rfl
theorem probeReq (msg : List Byte) : Statement (.probeReq msg) := fun s =>
  lawRun (r := execProbeReq msg s) rfl
theorem probe (port : Nat) (msg : List Byte) : Statement (.probe port msg) := fun s =>
  lawRun (r := execProbe port msg s) rfl
theorem probeResponse (port : Nat) (msg : List Byte) : Statement (.probeResponse port msg) := fun s =>
  lawRun (r := execProbeResponse port msg s) rfl
theorem probeTimeout : Statement (.probeTimeout) := fun s =>
  lawRun (r := execProbeTimeout s) rfl
theorem assign (port : Nat) (msg : List Byte) : Statement (.assign port msg) := fun s =>
  lawRun (r := execAssign port msg s) rfl
theorem ctlCsrRead (msg : List Byte) : Statement (.ctlCsrRead msg) := fun s =>
  lawRun (r := execCtlCsrRead msg s) rfl
theorem ctlCsrWrite (msg : List Byte) : Statement (.ctlCsrWrite msg) := fun s =>
  lawRun (r := execCtlCsrWrite msg s) rfl
theorem tableWrite (msg : List Byte) : Statement (.tableWrite msg) := fun s =>
  lawRun (r := execTableWrite msg s) rfl
theorem fabEvent (msg : List Byte) : Statement (.fabEvent msg) := fun s =>
  lawRun (r := execFabEvent msg s) rfl
theorem eventResponse (msg : List Byte) : Statement (.eventResponse msg) := fun s =>
  lawRun (r := execEventResponse msg s) rfl
theorem eventResendTimeout : Statement (.eventResendTimeout) := fun s =>
  lawRun (r := execEventResendTimeout s) rfl
theorem takeover (msg : List Byte) : Statement (.takeover msg) := fun s =>
  lawRun (r := execTakeover msg s) rfl
theorem windowOpen (m : Nat) (v : Word) : Statement (.windowOpen m v) := fun s =>
  lawRun (r := execWindowOpen m v s) rfl
theorem windowRevoke (m : Nat) (v : Word) : Statement (.windowRevoke m v) := fun s =>
  lawRun (r := execWindowRevoke m v s) rfl
theorem revokeSlotStart : Statement (.revokeSlotStart) := fun s =>
  lawLive (r := execRevokeSlotStart s) rfl
theorem revokeDrainDone (w : Nat) : Statement (.revokeDrainDone w) := fun s =>
  lawLive (r := execRevokeDrainDone w s) rfl
theorem windowFence (m : Nat) : Statement (.windowFence m) := fun s =>
  lawRun (r := execWindowFence m s) rfl
theorem sqDoorbell (h : Nat) (page : Nat) (v : Word) : Statement (.sqDoorbell h page v) := fun s =>
  lawRun (r := execSqDoorbell h page v s) rfl
theorem cqDoorbell (h : Nat) (page : Nat) (v : Word) : Statement (.cqDoorbell h page v) := fun s =>
  lawRun (r := execCqDoorbell h page v s) rfl
theorem wqeFetch (sq : Nat) (bytes : List Byte) : Statement (.wqeFetch sq bytes) := fun s =>
  lawLive (r := execWqeFetch sq bytes s) rfl
theorem shaperRelease (sl : Nat) : Statement (.shaperRelease sl) := fun s =>
  lawLive (r := execShaperRelease sl s) rfl
theorem requestPacketSend (slot : Nat) : Statement (.requestPacketSend slot) := fun s =>
  lawLive (r := execRequestPacketSend slot s) rfl
theorem rmWrite (pkt : FabPkt) : Statement (.rmWrite pkt) := fun s =>
  lawLive (r := execRmWrite pkt s) rfl
theorem rmWriteNotify (pkt : FabPkt) : Statement (.rmWriteNotify pkt) := fun s =>
  lawLive (r := execRmWriteNotify pkt s) rfl
theorem rmRead (pkt : FabPkt) : Statement (.rmRead pkt) := fun s =>
  lawLive (r := execRmRead pkt s) rfl
theorem rmCancel (pkt : FabPkt) : Statement (.rmCancel pkt) := fun s =>
  lawLive (r := execRmCancel pkt s) rfl
theorem hostWriteIssued (id : Nat) : Statement (.hostWriteIssued id) := fun s =>
  lawLive (r := execHostWriteIssued id s) rfl
theorem rmAck (pkt : FabPkt) : Statement (.rmAck pkt) := fun s =>
  lawLive (r := execRmAck pkt s) rfl
theorem rmNak (pkt : FabPkt) : Statement (.rmNak pkt) := fun s =>
  lawLive (r := execRmNak pkt s) rfl
theorem rmReadData (pkt : FabPkt) : Statement (.rmReadData pkt) := fun s =>
  lawLive (r := execRmReadData pkt s) rfl
theorem retransmitTimeout (slot : Nat) (k : Nat) : Statement (.retransmitTimeout slot k) := fun s =>
  lawLive (r := execRetransmitTimeout slot k s) rfl
theorem backoffExpiry (slot : Nat) (k : Nat) : Statement (.backoffExpiry slot k) := fun s =>
  lawLive (r := execBackoffExpiry slot k s) rfl
theorem pathHoldExpiry (dst : Nat) (path : Nat) : Statement (.pathHoldExpiry dst path) := fun s =>
  lawLive (r := execPathHoldExpiry dst path s) rfl
theorem cqRecordWrite (cq : Nat) : Statement (.cqRecordWrite cq) := fun s =>
  lawLive (r := execCqRecordWrite cq s) rfl
theorem retainExpiry (src : Nat) (msgId : Nat) : Statement (.retainExpiry src msgId) := fun s =>
  lawLive (r := execRetainExpiry src msgId s) rfl
theorem inboundIdleTimeout (src : Nat) (msgId : Nat) : Statement (.inboundIdleTimeout src msgId) := fun s =>
  lawLive (r := execInboundIdleTimeout src msgId s) rfl
theorem messageAbort (m : Nat) (v : Word) : Statement (.messageAbort m v) := fun s =>
  lawRun (r := execMessageAbort m v s) rfl
theorem contextCommit (m : Nat) (v : Word) : Statement (.contextCommit m v) := fun s =>
  lawRun (r := execContextCommit m v s) rfl
theorem contextRead (m : Nat) (v : Word) : Statement (.contextRead m v) := fun s =>
  lawRun (r := execContextRead m v s) rfl
theorem apertureWrite (h : Nat) (a : ApWrite) : Statement (.apertureWrite h a) := fun s =>
  lawLive (r := execApertureWrite h a s) rfl
theorem apertureRead (h : Nat) (a : ApRead) : Statement (.apertureRead h a) := fun s =>
  lawLive (r := execApertureRead h a s) rfl
theorem apertureReadRelease (h : Nat) : Statement (.apertureReadRelease h) := fun s =>
  lawLive (r := execApertureReadRelease h s) rfl
theorem prefetchExpiry (h : Nat) (range : Nat) (chunk : Nat) : Statement (.prefetchExpiry h range chunk) := fun s =>
  lawLive (r := execPrefetchExpiry h range chunk s) rfl
theorem sliceCreate (m : Nat) (sl : Nat) : Statement (.sliceCreate m sl) := fun s =>
  lawRun (r := execSliceCreate m sl s) rfl
theorem sliceQuiesce (m : Nat) (sl : Nat) : Statement (.sliceQuiesce m sl) := fun s =>
  lawRun (r := execSliceQuiesce m sl s) rfl
theorem sliceResume (m : Nat) (sl : Nat) : Statement (.sliceResume m sl) := fun s =>
  lawRun (r := execSliceResume m sl s) rfl
theorem sliceDisable (m : Nat) (sl : Nat) (force : Bool) : Statement (.sliceDisable m sl force) := fun s =>
  lawRun (r := execSliceDisable m sl force s) rfl
theorem sliceReset (m : Nat) (sl : Nat) (force : Bool) : Statement (.sliceReset m sl force) := fun s =>
  lawRun (r := execSliceReset m sl force s) rfl
theorem sliceReassign (m : Nat) (sl : Nat) : Statement (.sliceReassign m sl) := fun s =>
  lawRun (r := execSliceReassign m sl s) rfl
theorem sliceResize (m : Nat) (sl : Nat) : Statement (.sliceResize m sl) := fun s =>
  lawRun (r := execSliceResize m sl s) rfl
theorem sliceDestroy (m : Nat) (sl : Nat) : Statement (.sliceDestroy m sl) := fun s =>
  lawRun (r := execSliceDestroy m sl s) rfl
theorem sliceQuiesced (sl : Nat) : Statement (.sliceQuiesced sl) := fun s =>
  lawRun (r := execSliceQuiesced sl s) rfl
theorem sliceStoppingDone (sl : Nat) : Statement (.sliceStoppingDone sl) := fun s =>
  lawRun (r := execSliceStoppingDone sl s) rfl
theorem sliceResetDone (sl : Nat) : Statement (.sliceResetDone sl) := fun s =>
  lawRun (r := execSliceResetDone sl s) rfl
theorem irqWrite (sl : Nat) (i : Nat) : Statement (.irqWrite sl i) := fun s =>
  lawLive (r := execIrqWrite sl i s) rfl
theorem irqUnmask (m : Nat) (sl : Nat) (i : Nat) (v : Word) : Statement (.irqUnmask m sl i v) := fun s =>
  lawRun (r := execIrqUnmask m sl i v s) rfl
theorem shaperCommit (m : Nat) (sl : Nat) (v : Word) : Statement (.shaperCommit m sl v) := fun s =>
  lawRun (r := execShaperCommit m sl v s) rfl
theorem policerCommit (m : Nat) (sl : Nat) (v : Word) : Statement (.policerCommit m sl v) := fun s =>
  lawRun (r := execPolicerCommit m sl v s) rfl
theorem faultMessage (f : FaultMsg) : Statement (.faultMessage f) := fun s =>
  lawRun (r := execFaultMessage f s) rfl
theorem classCContainment (f : FaultMsg) : Statement (.classCContainment f) := fun s =>
  lawRun (r := execClassCContainment f s) rfl
theorem faultTimerExpiry (seq : Nat) : Statement (.faultTimerExpiry seq) := fun s =>
  lawRun (r := execFaultTimerExpiry seq s) rfl
theorem faultAck (m : Nat) (v : Word) : Statement (.faultAck m v) := fun s =>
  lawRun (r := execFaultAck m v s) rfl
theorem quietPeriodEnd (sp : Scope) (idx : Nat) : Statement (.quietPeriodEnd sp idx) := fun s =>
  lawRun (r := execQuietPeriodEnd sp idx s) rfl
theorem domainClear (m : Nat) (v : Word) : Statement (.domainClear m v) := fun s =>
  lawRun (r := execDomainClear m v s) rfl
theorem owlParity (off : Nat) (inRing : Bool) : Statement (.owlParity off inRing) := fun s =>
  lawRun (r := execOwlParity off inRing s) rfl
theorem fwSafe (m : Nat) (v : Word) : Statement (.fwSafe m v) := fun s =>
  lawRun (r := execFwSafe m v s) rfl
theorem slotPowerControlWrite (sc : Nat) (off : Bool) : Statement (.slotPowerControlWrite sc off) := fun s =>
  lawRun (r := execSlotPowerControlWrite sc off s) rfl
theorem slotOn (m : Nat) (sc : Nat) : Statement (.slotOn m sc) := fun s =>
  lawRun (r := execSlotOn m sc s) rfl
theorem slotOff (m : Nat) (sc : Nat) : Statement (.slotOff m sc) := fun s =>
  lawRun (r := execSlotOff m sc s) rfl
theorem presenceOccupied (sc : Nat) : Statement (.presenceOccupied sc) := fun s =>
  lawRun (r := execPresenceOccupied sc s) rfl
theorem presenceEmpty (sc : Nat) : Statement (.presenceEmpty sc) := fun s =>
  lawRun (r := execPresenceEmpty sc s) rfl
theorem slotRampStart (sc : Nat) : Statement (.slotRampStart sc) := fun s =>
  lawRun (r := execSlotRampStart sc s) rfl
theorem slotPgLevel (sc : Nat) (vsl : Nat) : Statement (.slotPgLevel sc vsl) := fun s =>
  lawRun (r := execSlotPgLevel sc vsl s) rfl
theorem slotPgQualified (sc : Nat) (vsl : Nat) : Statement (.slotPgQualified sc vsl) := fun s =>
  lawRun (r := execSlotPgQualified sc vsl s) rfl
theorem perstRelease (sc : Nat) : Statement (.perstRelease sc) := fun s =>
  lawRun (r := execPerstRelease sc s) rfl
theorem feedGood (sc : Nat) (f : Feed) (volt : Nat) : Statement (.feedGood sc f volt) := fun s =>
  lawRun (r := execFeedGood sc f volt s) rfl
theorem feedLost (sc : Nat) (f : Feed) (volt : Nat) : Statement (.feedLost sc f volt) := fun s =>
  lawRun (r := execFeedLost sc f volt s) rfl
theorem switchBbmEnd (sc : Nat) (shunt : Nat) : Statement (.switchBbmEnd sc shunt) := fun s =>
  lawRun (r := execSwitchBbmEnd sc shunt s) rfl
theorem switchComplete (sc : Nat) (vsl : Nat) : Statement (.switchComplete sc vsl) := fun s =>
  lawRun (r := execSwitchComplete sc vsl s) rfl
theorem switchTimeout (sc : Nat) (vsl : Nat) : Statement (.switchTimeout sc vsl) := fun s =>
  lawRun (r := execSwitchTimeout sc vsl s) rfl
theorem pwrbrkRelease (sc : Nat) : Statement (.pwrbrkRelease sc) := fun s =>
  lawRun (r := execPwrbrkRelease sc s) rfl
theorem fastTrip (sc : Nat) (f : Feed) : Statement (.fastTrip sc f) := fun s =>
  lawRun (r := execFastTrip sc f s) rfl
theorem slowTripTimerStart (sc : Nat) (f : Feed) (shunt : Nat) : Statement (.slowTripTimerStart sc f shunt) := fun s =>
  lawRun (r := execSlowTripTimerStart sc f shunt s) rfl
theorem slowTripTimerStop (sc : Nat) (f : Feed) (shunt : Nat) : Statement (.slowTripTimerStop sc f shunt) := fun s =>
  lawRun (r := execSlowTripTimerStop sc f shunt s) rfl
theorem slowTrip (sc : Nat) (f : Feed) : Statement (.slowTrip sc f) := fun s =>
  lawRun (r := execSlowTrip sc f s) rfl
theorem rampTimeout (sc : Nat) : Statement (.rampTimeout sc) := fun s =>
  lawRun (r := execRampTimeout sc s) rfl
theorem pgLost (sc : Nat) (vsl : Nat) : Statement (.pgLost sc vsl) := fun s =>
  lawRun (r := execPgLost sc vsl s) rfl
theorem turnOffWaitEnd (sc : Nat) : Statement (.turnOffWaitEnd sc) := fun s =>
  lawRun (r := execTurnOffWaitEnd sc s) rfl
theorem drainEnd (sc : Nat) (vsl : Nat) : Statement (.drainEnd sc vsl) := fun s =>
  lawRun (r := execDrainEnd sc vsl s) rfl
theorem drainTimeout (sc : Nat) : Statement (.drainTimeout sc) := fun s =>
  lawRun (r := execDrainTimeout sc s) rfl
theorem powerDomainControl (m : Nat) (v : Word) : Statement (.powerDomainControl m v) := fun s =>
  lawRun (r := execPowerDomainControl m v s) rfl
theorem domainPowerUpDone (k : Nat) : Statement (.domainPowerUpDone k) := fun s =>
  lawRun (r := execDomainPowerUpDone k s) rfl
theorem duskEntry (ci : Nat) : Statement (.duskEntry ci) := fun s =>
  lawRun (r := execDuskEntry ci s) rfl
theorem islandWake (ci : Nat) : Statement (.islandWake ci) := fun s =>
  lawRun (r := execIslandWake ci s) rfl
theorem pllLockLoss (l : PllLoss) : Statement (.pllLockLoss l) := fun s =>
  lawRun (r := execPllLockLoss l s) rfl
theorem supplyOutOfRange (pd : Nat) : Statement (.supplyOutOfRange pd) := fun s =>
  lawRun (r := execSupplyOutOfRange pd s) rfl
theorem tempThreshold (sensor : Nat) (degC : Nat) : Statement (.tempThreshold sensor degC) := fun s =>
  lawRun (r := execTempThreshold sensor degC s) rfl
theorem nightIdleTimeout : Statement (.nightIdleTimeout) := fun s =>
  lawRun (r := execNightIdleTimeout s) rfl
theorem nightGo (m : Nat) (v : Word) : Statement (.nightGo m v) := fun s =>
  lawRun (r := execNightGo m v s) rfl
theorem nightDrainEnd (limit : Bool) : Statement (.nightDrainEnd limit) := fun s =>
  lawRun (r := execNightDrainEnd limit s) rfl
theorem nightDigestDone : Statement (.nightDigestDone) := fun s =>
  lawRun (r := execNightDigestDone s) rfl
theorem nightWake (src : WakeSrc) : Statement (.nightWake src) := fun s =>
  lawRun (r := execNightWake src s) rfl
theorem nightAlarmExpiry : Statement (.nightAlarmExpiry) := fun s =>
  lawRun (r := execNightAlarmExpiry s) rfl
theorem padHoldRelease (m : Nat) (v : Word) : Statement (.padHoldRelease m v) := fun s =>
  lawRun (r := execPadHoldRelease m v s) rfl
theorem getRandom (m : Nat) : Statement (.getRandom m) := fun s =>
  lawRun (r := execGetRandom m s) rfl
theorem provisionKey (m : Nat) : Statement (.provisionKey m) := fun s =>
  law (r := execProvisionKey m s) rfl
theorem lockProv (m : Nat) : Statement (.lockProv m) := fun s =>
  law (r := execLockProv m s) rfl
theorem revokeKey (m : Nat) : Statement (.revokeKey m) := fun s =>
  law (r := execRevokeKey m s) rfl
theorem advanceFloor (m : Nat) : Statement (.advanceFloor m) := fun s =>
  law (r := execAdvanceFloor m s) rfl
theorem debugChallenge (m : Nat) : Statement (.debugChallenge m) := fun s =>
  law (r := execDebugChallenge m s) rfl
theorem debugUnlock (m : Nat) : Statement (.debugUnlock m) := fun s =>
  law (r := execDebugUnlock m s) rfl
theorem debugNever (m : Nat) : Statement (.debugNever m) := fun s =>
  law (r := execDebugNever m s) rfl
theorem certWrite (m : Nat) : Statement (.certWrite m) := fun s =>
  law (r := execCertWrite m s) rfl
theorem mailboxCommandDone : Statement (.mailboxCommandDone) := fun s =>
  law (r := execMailboxCommandDone s) rfl
theorem trngHealthFail : Statement (.trngHealthFail) := fun s =>
  law (r := execTrngHealthFail s) rfl
theorem getCertificate (req : SpdmVia) (certSlot : Nat) (off : Nat) (len : Nat) : Statement (.getCertificate req certSlot off len) := fun s =>
  law (r := execGetCertificate req certSlot off len s) rfl
theorem challenge (req : SpdmVia) (certSlot : Nat) (msgToSign : List Byte) : Statement (.challenge req certSlot msgToSign) := fun s =>
  law (r := execChallenge req certSlot msgToSign s) rfl
theorem getMeasurements (req : SpdmVia) (signed : Bool) (msgToSign : List Byte) : Statement (.getMeasurements req signed msgToSign) := fun s =>
  law (r := execGetMeasurements req signed msgToSign s) rfl
theorem keyExchange (req : SpdmVia) (certSlot : Nat) (msgToSign : List Byte) : Statement (.keyExchange req certSlot msgToSign) := fun s =>
  law (r := execKeyExchange req certSlot msgToSign s) rfl
theorem vendorDefinedRequest (req : SpdmVia) (cmd : Nat) : Statement (.vendorDefinedRequest req cmd) := fun s =>
  law (r := execVendorDefinedRequest req cmd s) rfl
theorem slhSignatureReady : Statement (.slhSignatureReady) := fun s =>
  law (r := execSlhSignatureReady s) rfl
theorem checkJobStart (m : Nat) (v : Word) : Statement (.checkJobStart m v) := fun s =>
  law (r := execCheckJobStart m v s) rfl
theorem checkJobAbort (m : Nat) (v : Word) : Statement (.checkJobAbort m v) := fun s =>
  law (r := execCheckJobAbort m v s) rfl
theorem checkJobRun : Statement (.checkJobRun) := fun s =>
  law (r := execCheckJobRun s) rfl
theorem checkJobEnd : Statement (.checkJobEnd) := fun s =>
  law (r := execCheckJobEnd s) rfl
theorem recordCheck (r : Nat) (data : HostBytes) : Statement (.recordCheck r data) := fun s =>
  law (r := execRecordCheck r data s) rfl
theorem recordRecheck (r : Nat) (data : HostBytes) : Statement (.recordRecheck r data) := fun s =>
  law (r := execRecordRecheck r data s) rfl
theorem counterSelect (m : Nat) (b : Nat) (i : Nat) (v : Word) : Statement (.counterSelect m b i v) := fun s =>
  law (r := execCounterSelect m b i v s) rfl
theorem snapshotSet : Statement (.snapshotSet) := fun s =>
  law (r := execSnapshotSet s) rfl
theorem spoorRingWrite : Statement (.spoorRingWrite) := fun s =>
  law (r := execSpoorRingWrite s) rfl
theorem sampleRingWrite (ring : Nat) : Statement (.sampleRingWrite ring) := fun s =>
  law (r := execSampleRingWrite ring s) rfl
theorem ringEnable (m : Nat) (h : Nat) (v : Word) : Statement (.ringEnable m h v) := fun s =>
  law (r := execRingEnable m h v s) rfl
theorem ringDisable (m : Nat) (h : Nat) (v : Word) : Statement (.ringDisable m h v) := fun s =>
  law (r := execRingDisable m h v s) rfl
theorem commandDoorbell (m : Nat) (h : Nat) (v : Word) : Statement (.commandDoorbell m h v) := fun s =>
  law (r := execCommandDoorbell m h v s) rfl
theorem commandFetch (h : Nat) (entry : HostBytes) : Statement (.commandFetch h entry) := fun s =>
  law (r := execCommandFetch h entry s) rfl
theorem cmdNop (path : Nat) : Statement (.cmdNop path) := fun s =>
  law (r := execCmdNop path s) rfl
theorem getInfo (path : Nat) : Statement (.getInfo path) := fun s =>
  law (r := execGetInfo path s) rfl
theorem csrReadCmd (path : Nat) : Statement (.csrReadCmd path) := fun s =>
  law (r := execCsrReadCmd path s) rfl
theorem csrWriteCmd (path : Nat) : Statement (.csrWriteCmd path) := fun s =>
  law (r := execCsrWriteCmd path s) rfl
theorem flashInfo (path : Nat) : Statement (.flashInfo path) := fun s =>
  law (r := execFlashInfo path s) rfl
theorem flashRead (path : Nat) : Statement (.flashRead path) := fun s =>
  law (r := execFlashRead path s) rfl
theorem flashWrite (path : Nat) (data : HostBytes) : Statement (.flashWrite path data) := fun s =>
  law (r := execFlashWrite path data s) rfl
theorem flashErase (path : Nat) : Statement (.flashErase path) := fun s =>
  law (r := execFlashErase path s) rfl
theorem flashOpDone (res : FlashRes) : Statement (.flashOpDone res) := fun s =>
  law (r := execFlashOpDone res s) rfl
theorem resetCmd (path : Nat) : Statement (.resetCmd path) := fun s =>
  law (r := execResetCmd path s) rfl
theorem fwCommand (path : Nat) : Statement (.fwCommand path) := fun s =>
  law (r := execFwCommand path s) rfl
theorem fwPostResponse (m : Nat) (v : Word) : Statement (.fwPostResponse m v) := fun s =>
  law (r := execFwPostResponse m v s) rfl
theorem fwPostEvent (m : Nat) (v : Word) : Statement (.fwPostEvent m v) := fun s =>
  law (r := execFwPostEvent m v s) rfl
theorem fwTimeout (path : Nat) : Statement (.fwTimeout path) := fun s =>
  law (r := execFwTimeout path s) rfl
theorem eventRingWrite (h : Nat) : Statement (.eventRingWrite h) := fun s =>
  law (r := execEventRingWrite h s) rfl
theorem mctpCommand (entry : List Byte) : Statement (.mctpCommand entry) := fun s =>
  law (r := execMctpCommand entry s) rfl
theorem i3cAddressAssign (addr : Nat) : Statement (.i3cAddressAssign addr) := fun s =>
  law (r := execI3cAddressAssign addr s) rfl
theorem setEndpointId (eid : Nat) : Statement (.setEndpointId eid) := fun s =>
  law (r := execSetEndpointId eid s) rfl
theorem pwrokAndSysRstNHigh : Statement (.pwrokAndSysRstNHigh) := fun s =>
  law (r := execPwrokAndSysRstNHigh s) rfl
theorem dmfCompletionTimeout (h : Nat) (tag : Nat) : Statement (.dmfCompletionTimeout h tag) := fun s =>
  law (r := execDmfCompletionTimeout h tag s) rfl
theorem flowControlUpdate (port : Nat) (cls : Nat) (hdrCr : Nat) (dataCr : Nat) : Statement (.flowControlUpdate port cls hdrCr dataCr) := fun s =>
  law (r := execFlowControlUpdate port cls hdrCr dataCr s) rfl
theorem injectedPacket (den : Nat) (bytes : List Byte) : Statement (.injectedPacket den bytes) := fun s =>
  law (r := execInjectedPacket den bytes s) rfl
theorem unknownControlOpcode (port : Nat) (msg : List Byte) : Statement (.unknownControlOpcode port msg) := fun s =>
  law (r := execUnknownControlOpcode port msg s) rfl
theorem jtagAccess (k : JtagKind) : Statement (.jtagAccess k) := fun s =>
  law (r := execJtagAccess k s) rfl
theorem endSession (id : Nat) : Statement (.endSession id) := fun s =>
  law (r := execEndSession id s) rfl

end Sys2Proof.Laws.Wf
end

