-- ==== Sys2Proof/Laws/Slots.lean ====
section
/-! SUPPORT. What the shared operations of the slot controllers do. -/

set_option Elab.async false

namespace Sys2Proof.Machine.State

variable (s : State)

/-! ### Configuration words of a hierarchy -/

@[simp] theorem setCfg_cfgWord (h fn : Nat) (r : CfgReg) (v : Word) : (s.setCfg h fn r v).cfgWord h fn r = v := by
  simp only [setCfg, cfgWord, dom_setDom, Tab.get_put_same]

theorem setCfg_cfgWord_ne (h fn : Nat) {r q : CfgReg} (v : Word) (hq : cfgKey fn q ≠ cfgKey fn r) :
    (s.setCfg h fn r v).cfgWord h fn q = s.cfgWord h fn q := by
  simp only [setCfg, cfgWord, dom_setDom, Tab.get_put_ne _ _ hq]

/-- A word of one register is left by a write of another register, of any function of any hierarchy. -/
theorem setCfg_cfgWord_other (h k fn fn' : Nat) {r q : CfgReg} (v : Word) (hq : cfgRegNo q % 128 ≠ cfgRegNo r % 128) :
    (s.setCfg h fn r v).cfgWord k fn' q = s.cfgWord k fn' q := by
  by_cases hk : k = h
  · subst hk
    simp only [setCfg, cfgWord, dom_setDom]
    rw [Tab.get_put_ne _ _ (by simp only [cfgKey]; omega)]
  · simp only [setCfg, cfgWord, dom_setDom_ne _ _ hk]

theorem setCfg_eq (h fn : Nat) (r : CfgReg) (v : Word) : s.setCfg h fn r v = { s with doms := (s.setCfg h fn r v).doms } := rfl

/-! ### Fields of the slot's status -/

theorem sst_setSst (sc : Nat) (f : Fld) (v : Nat) (h : f.lo + f.w ≤ 32) : (s.setSst sc f v).sst sc f = v % 2 ^ f.w :=
  get_set_same s _ f v h

theorem sst_setSst_beside (sc : Nat) (f g : Fld) (v : Nat) (h : f.lo + f.w ≤ 32) (hd : f.lo + f.w ≤ g.lo ∨ g.lo + g.w ≤ f.lo) :
    (s.setSst sc f v).sst sc g = s.sst sc g := get_set_beside s _ f g v h hd

@[simp] theorem setSst_slot (sc k : Nat) (f : Fld) (v : Nat) : (s.setSst sc f v).slot k = s.slot k := rfl
@[simp] theorem setSst_doms (sc : Nat) (f : Fld) (v : Nat) : (s.setSst sc f v).doms = s.doms := rfl
@[simp] theorem setSst_slots (sc : Nat) (f : Fld) (v : Nat) : (s.setSst sc f v).slots = s.slots := rfl
@[simp] theorem setSlot_sst (sc k : Nat) (f : Slot → Slot) (g : Fld) : (s.setSlot sc f).sst k g = s.sst k g := rfl
@[simp] theorem setCfg_sst (h fn : Nat) (r : CfgReg) (v : Word) (k : Nat) (g : Fld) : (s.setCfg h fn r v).sst k g = s.sst k g := rfl

/-! ### The bound port -/

/-- Only the binding, the sampled layout and the registers of groups decide which port a slot controls. -/
theorem slotPort_congr {s t : State} (sc : Nat) (hb : ∀ k, (t.slot k).bind = (s.slot k).bind) (hs : t.samp = s.samp)
    (hr : ∀ g p, t.rd (R.GRP_PCIE_STAT g p) = s.rd (R.GRP_PCIE_STAT g p))
    (hl : ∀ g, t.rd (R.GRP_LANE_STAT g) = s.rd (R.GRP_LANE_STAT g)) : t.slotPort sc = s.slotPort sc := by
  have h : t.isPcie = s.isPcie := by funext P; simp only [isPcie, portEn, layout, on, get, hs, hl]
  have h' : t.role = s.role := by funext P; simp only [role, get, hr]
  simp only [slotPort, hb, h, h']

/-- The outcome of setting a bit in a word of the bound port. -/
theorem slotStatusPut_keeps (h n b : Nat) :
    s.slotStatusPut h n b = { s with doms := (s.slotStatusPut h n b).doms, out := (s.slotStatusPut h n b).out } := by
  simp only [slotStatusPut]
  split <;> rfl

theorem slotStatusSet_keeps (sc b : Nat) :
    s.slotStatusSet sc b = { s with doms := (s.slotStatusSet sc b).doms, out := (s.slotStatusSet sc b).out } := by
  unfold slotStatusSet
  split
  · exact slotStatusPut_keeps s _ _ _
  · rfl

/-- The words after a bit of Slot Status is set in a virtual port. -/
theorem slotStatusPut_cfgWord (h n b k fn : Nat) (r : CfgReg) :
    (s.slotStatusPut h n b).cfgWord k fn r
      = (s.setCfg h (2 + n) .slotStatus (s.cfgWord h (2 + n) .slotStatus ||| BitVec.ofNat 32 (2 ^ b))).cfgWord k fn r := by
  simp only [slotStatusPut]
  split <;> rfl

/-- The hot-plug interrupt of a bit set in Slot Status (R499). -/
theorem slotStatusPut_out (h n b : Nat) :
    (s.slotStatusPut h n b).out
      = if hotPlugDue (s.cfgWord h (2 + n) .slotControl).toNat (s.cfgWord h (2 + n) .slotStatus ||| BitVec.ofNat 32 (2 ^ b)).toNat
            && !hotPlugDue (s.cfgWord h (2 + n) .slotControl).toNat (s.cfgWord h (2 + n) .slotStatus).toNat
        then .hotPlug h n :: s.out else s.out := by
  simp only [slotStatusPut]
  split <;> rfl

/-- Power Controller Control leaves Slot Status. -/
theorem slotPcc_status (sc : Nat) (off : Bool) (h fn : Nat) :
    (s.slotPcc sc off).cfgWord h fn .slotStatus = s.cfgWord h fn .slotStatus := by
  unfold slotPcc
  split
  · exact setCfg_cfgWord_other s _ _ _ _ _ (by decide)
  · rfl

theorem slotPcc_keeps (sc : Nat) (off : Bool) : s.slotPcc sc off = { s with doms := (s.slotPcc sc off).doms } := by
  unfold slotPcc
  split <;> rfl

/-- DRAIN (R484): what every entry to it sets, and that it changes nothing else. -/
theorem slotDrain_spec (sc : Nat) :
    (s.slotDrain sc).sst sc F.SLOT_STAT_STATE = 6 ∧ (s.slotDrain sc).sst sc F.SLOT_STAT_FEED = 0 ∧
    (s.slotDrain sc).sst sc F.SLOT_STAT_PERST = 1 ∧ (s.slotDrain sc).sst sc F.SLOT_STAT_PG = 0 ∧
    (s.slotDrain sc).sst sc F.SLOT_STAT_HELD = 0 ∧
    (∀ g : Fld, g = F.SLOT_STAT_PRSNT ∨ g = F.SLOT_STAT_PWRBRK ∨ g = F.SLOT_STAT_A_GOOD ∨ g = F.SLOT_STAT_B_GOOD ∨
      g = F.SLOT_STAT_BIND_ERR ∨ g = F.SLOT_STAT_TRIP ∨ g = F.SLOT_STAT_PDC_CNT → (s.slotDrain sc).sst sc g = s.sst sc g) ∧
    (s.slotDrain sc).slots = s.slots.upd (fun _ => {}) sc (fun x =>
      { x with turnOff := false, want := false, slowA := false, slowB := false, inOn := false, brkHold := false }) ∧
    (∀ a, a ≠ R.SLOT_STAT sc → (s.slotDrain sc).rd a = s.rd a) ∧
    s.slotDrain sc = { s with regs := (s.slotDrain sc).regs, slots := (s.slotDrain sc).slots, doms := (s.slotDrain sc).doms } := by
  have hk := fun (s : State) => slotPcc_keeps s sc true
  have hs : ∀ (s : State) g, (s.slotPcc sc true).sst sc g = s.sst sc g := fun s g => by rw [hk]; rfl
  have hr : ∀ (s : State) a, (s.slotPcc sc true).rd a = s.rd a := fun s a => by rw [hk]; rfl
  have hl : ∀ (s : State), (s.slotPcc sc true).slots = s.slots := fun s => by rw [hk]
  unfold slotDrain
  simp only [hs, hr, hl, setSlot_sst]
  refine ⟨?_, ?_, ?_, ?_, ?_, ?_, rfl, ?_, ?_⟩
  · simp (disch := decide) only [sst_setSst]; decide
  · simp (disch := decide) only [sst_setSst_beside, sst_setSst]; decide
  · simp (disch := decide) only [sst_setSst_beside, sst_setSst]; decide
  · simp (disch := decide) only [sst_setSst_beside, sst_setSst]; decide
  · simp (disch := decide) only [sst_setSst_beside, sst_setSst]; decide
  · rintro g (h | h | h | h | h | h | h) <;> subst h <;> simp (disch := decide) only [sst_setSst_beside]
  · intro a ha
    simp only [setSst, setSlot_rd, rd_set_ne _ _ _ ha]
  · rw [hk]
    apply ext <;> simp [setSst]

/-- A bit set in Slot Status of the bound port is set there. -/
theorem slotStatusSet_bit (sc b P : Nat) (hb : b < 32) (h : s.slotPort sc = some P) :
    bit ((s.slotStatusSet sc b).cfgWord (s.roleHd P) (2 + s.roleVdev P) .slotStatus).toNat b = true := by
  simp only [slotStatusSet, h, slotStatusPut_cfgWord, setCfg_cfgWord, bit, BitVec.toNat_or, BitVec.toNat_ofNat, beq_iff_eq]
  rw [Nat.mod_eq_of_lt (Nat.pow_lt_pow_right (by omega) hb), ← Nat.shiftRight_eq_div_pow, Nat.shiftRight_or_distrib,
    Nat.shiftRight_eq_div_pow (2 ^ b), Nat.div_self (Nat.two_pow_pos b)]
  have := @Nat.testBit_or (BitVec.toNat (s.cfgWord (s.roleHd P) (2 + s.roleVdev P) CfgReg.slotStatus) >>> b) 1 0
  simpa [Nat.testBit_zero] using this

/-- The bound port survives an update of the slot's own registers and of its flags. -/
theorem slotDrain_port (sc : Nat) (hsc : sc < 16) :
    (s.slotDrain sc).slotPort sc = s.slotPort sc ∧ (∀ P, (s.slotDrain sc).role P = s.role P) ∧
    (∀ P, (s.slotDrain sc).roleHd P = s.roleHd P) ∧ (∀ P, (s.slotDrain sc).roleVdev P = s.roleVdev P) := by
  obtain ⟨-, -, -, -, -, -, hsl, hr, hk⟩ := slotDrain_spec s sc
  have hp : ∀ g p, (s.slotDrain sc).rd (R.GRP_PCIE_STAT g p) = s.rd (R.GRP_PCIE_STAT g p) := fun g p =>
    hr _ (by simp only [R.GRP_PCIE_STAT, R.SLOT_STAT]; omega)
  refine ⟨slotPort_congr sc ?_ (by rw [hk]) hp (fun g => hr _ (by simp only [R.GRP_LANE_STAT, R.SLOT_STAT]; omega)), ?_, ?_, ?_⟩
  · intro k
    simp only [slot, hsl]
    by_cases hk : k = sc
    · subst hk; rw [Tab.get_upd_same]
    · rw [Tab.get_upd_ne _ _ hk]
  all_goals (intro P; simp only [role, roleHd, roleVdev, get, hp])

theorem slotDrain_status (sc h fn : Nat) : (s.slotDrain sc).cfgWord h fn .slotStatus = s.cfgWord h fn .slotStatus := by
  unfold slotDrain
  rw [slotPcc_status]
  rfl

theorem slotDrain_pcc (sc P : Nat) (h : s.slotPort sc = some P) (hsc : sc < 16) :
    bit ((s.slotDrain sc).cfgWord (s.roleHd P) (2 + s.roleVdev P) .slotControl).toNat 10 = true := by
  have hu : ∀ (u : State), u.slotPort sc = some P → u.roleHd P = s.roleHd P → u.roleVdev P = s.roleVdev P →
      bit ((u.slotPcc sc true).cfgWord (s.roleHd P) (2 + s.roleVdev P) .slotControl).toNat 10 = true := by
    intro u h1 h2 h3
    simp only [slotPcc, h1, h2, h3, if_true, setCfg_cfgWord, bit, BitVec.toNat_or, beq_iff_eq]
    rw [← Nat.shiftRight_eq_div_pow, Nat.shiftRight_or_distrib]
    have := @Nat.testBit_or (BitVec.toNat (u.cfgWord (s.roleHd P) (2 + s.roleVdev P) CfgReg.slotControl) >>> 10) 1 0
    simp [Nat.testBit_zero] at this
    simpa using this
  have hp : ∀ (f1 f2 f3 f4 f5 : Fld) (v1 v2 v3 v4 v5 g p : Nat),
      (((((s.setSst sc f1 v1).setSst sc f2 v2).setSst sc f3 v3).setSst sc f4 v4).setSst sc f5 v5).rd (R.GRP_PCIE_STAT g p)
        = s.rd (R.GRP_PCIE_STAT g p) := by
    intros
    have : ∀ g p, R.GRP_PCIE_STAT g p ≠ R.SLOT_STAT sc := by intro g p; simp only [R.GRP_PCIE_STAT, R.SLOT_STAT]; omega
    simp only [setSst, rd_set_ne _ _ _ (this _ _)]
  have hl : ∀ (f1 f2 f3 f4 f5 : Fld) (v1 v2 v3 v4 v5 g : Nat),
      (((((s.setSst sc f1 v1).setSst sc f2 v2).setSst sc f3 v3).setSst sc f4 v4).setSst sc f5 v5).rd (R.GRP_LANE_STAT g)
        = s.rd (R.GRP_LANE_STAT g) := by
    intros
    have : ∀ g, R.GRP_LANE_STAT g ≠ R.SLOT_STAT sc := by intro g; simp only [R.GRP_LANE_STAT, R.SLOT_STAT]; omega
    simp only [setSst, rd_set_ne _ _ _ (this _)]
  apply hu
  · rw [← h]
    refine slotPort_congr sc ?_ rfl (fun g p => by rw [setSlot_rd]; exact hp _ _ _ _ _ _ _ _ _ _ g p)
      (fun g => by rw [setSlot_rd]; exact hl _ _ _ _ _ _ _ _ _ _ g)
    intro k
    by_cases hk : k = sc
    · subst hk; simp only [slot_setSlot, setSst_slot]
    · simp only [slot_setSlot_ne _ _ hk, setSst_slot]
  · simp only [roleHd, get, setSlot_rd, hp]
  · simp only [roleVdev, get, setSlot_rd, hp]

/-- A trip (R488 to R492): everything it does. -/
theorem slotTrip_spec (sc cause feed : Nat) (hsc : sc < 16) (hc : cause < 8) :
    SlotTripped s (s.slotTrip sc cause feed) sc cause feed := by
  obtain ⟨d1, d2, d3, d4, d5, d6, d7, d8, d9⟩ := slotDrain_spec s sc
  obtain ⟨p1, p2, p3, p4⟩ := slotDrain_port s sc hsc
  have pcc := slotDrain_pcc s sc
  have pst := slotDrain_status s sc
  generalize hu : s.slotDrain sc = u at *
  have hn : R.SLOT_CNT sc ≠ R.SLOT_STAT sc := by simp only [R.SLOT_CNT, R.SLOT_STAT]; omega
  have hk := slotStatusSet_keeps (u.setSst sc F.SLOT_STAT_TRIP cause) sc 1
  have hp1 : (u.setSst sc F.SLOT_STAT_TRIP cause).slotPort sc = u.slotPort sc := by
    refine slotPort_congr sc (fun k => rfl) rfl (fun g p => rd_set_ne _ _ _ ?_) (fun g => rd_set_ne _ _ _ ?_)
    · simp only [R.GRP_PCIE_STAT, R.SLOT_STAT]; omega
    · simp only [R.GRP_LANE_STAT, R.SLOT_STAT]; omega
  have hb := fun P h => slotStatusSet_bit (u.setSst sc F.SLOT_STAT_TRIP cause) sc 1 P (by decide) h
  have hq : ∀ P, u.slotPort sc = some P → ((u.setSst sc F.SLOT_STAT_TRIP cause).slotStatusSet sc 1).cfgWord (s.roleHd P)
      (2 + s.roleVdev P) .slotControl = u.cfgWord (s.roleHd P) (2 + s.roleVdev P) .slotControl := by
    intro P h
    have e : ∀ P, (u.setSst sc F.SLOT_STAT_TRIP cause).roleHd P = s.roleHd P ∧
        (u.setSst sc F.SLOT_STAT_TRIP cause).roleVdev P = s.roleVdev P := by
      intro P
      have : R.GRP_PCIE_STAT (P / 8) (P % 8) ≠ R.SLOT_STAT sc := by simp only [R.GRP_PCIE_STAT, R.SLOT_STAT]; omega
      rw [← p3, ← p4]
      exact ⟨get_set_ne _ _ _ _ this, get_set_ne _ _ _ _ this⟩
    rw [← hp1] at h
    simp only [slotStatusSet, h, (e P).1, (e P).2, slotStatusPut_cfgWord]
    rw [setCfg_cfgWord_other _ _ _ _ _ _ (by decide)]
    rfl
  have e : ∀ P, (u.setSst sc F.SLOT_STAT_TRIP cause).roleHd P = s.roleHd P ∧
      (u.setSst sc F.SLOT_STAT_TRIP cause).roleVdev P = s.roleVdev P := by
    intro P
    have : R.GRP_PCIE_STAT (P / 8) (P % 8) ≠ R.SLOT_STAT sc := by simp only [R.GRP_PCIE_STAT, R.SLOT_STAT]; omega
    rw [← p3, ← p4]
    exact ⟨get_set_ne _ _ _ _ this, get_set_ne _ _ _ _ this⟩
  have ho : (s.slotPort sc = none → ((u.setSst sc F.SLOT_STAT_TRIP cause).slotStatusSet sc 1).out = s.out) ∧
      ∀ P, s.slotPort sc = some P → ((u.setSst sc F.SLOT_STAT_TRIP cause).slotStatusSet sc 1).out
        = if hotPlugDue (u.cfgWord (s.roleHd P) (2 + s.roleVdev P) .slotControl).toNat
              (u.cfgWord (s.roleHd P) (2 + s.roleVdev P) .slotStatus ||| 2).toNat
            && !hotPlugDue (u.cfgWord (s.roleHd P) (2 + s.roleVdev P) .slotControl).toNat
              (u.cfgWord (s.roleHd P) (2 + s.roleVdev P) .slotStatus).toNat
          then .hotPlug (s.roleHd P) (s.roleVdev P) :: s.out else s.out := by
    have hu : (u.setSst sc F.SLOT_STAT_TRIP cause).out = s.out := by rw [d9]; rfl
    constructor
    · intro h
      rw [← p1, ← hp1] at h
      simp only [slotStatusSet, h, hu]
    · intro P h
      rw [← p1, ← hp1] at h
      simp only [slotStatusSet, h, (e P).1, (e P).2, slotStatusPut_out, hu]
      rfl
  generalize hw : (u.setSst sc F.SLOT_STAT_TRIP cause).slotStatusSet sc 1 = w at *
  have hws : ∀ g, w.sst sc g = (u.setSst sc F.SLOT_STAT_TRIP cause).sst sc g := fun g => by rw [hk]; rfl
  have hwr : ∀ a, w.rd a = (u.setSst sc F.SLOT_STAT_TRIP cause).rd a := fun a => by rw [hk]; rfl
  have hwf : w.faults = s.faults := by rw [hk, d9]; rfl
  have hwl : w.slots = u.slots := by rw [hk]; rfl
  have hwc : ∀ g, w.get (R.SLOT_CNT sc) g = s.get (R.SLOT_CNT sc) g := fun g => by
    simp only [get, hwr, setSst, rd_set_ne _ _ _ hn, d8 _ hn]
  have hstat : ∀ (F1 : Fld) (n : Nat) g, (w.inc (R.SLOT_CNT sc) F1 n).sst sc g = w.sst sc g := fun F1 n g =>
    get_inc_ne _ _ _ _ hn.symm
  have h6 := d6 F.SLOT_STAT_PRSNT (.inl rfl)
  have hb3 : cause % 2 ^ F.SLOT_STAT_TRIP.w = cause := Nat.mod_eq_of_lt hc
  unfold SlotTripped slotTrip
  simp only [hu, hw]
  have hf : ∀ (v : State), (v = w ∨ (∃ F1, v = w.inc (R.SLOT_CNT sc) F1 1)) → (∀ g, v.sst sc g = w.sst sc g) ∧
      (∀ a, a ≠ R.SLOT_CNT sc → v.rd a = w.rd a) ∧ v.doms = w.doms ∧ v.slots = w.slots ∧ v.faults = w.faults ∧ v.out = w.out ∧
      (∀ h fn r, v.cfgWord h fn r = w.cfgWord h fn r) ∧ v = { w with regs := v.regs } := by
    rintro v (rfl | ⟨F1, rfl⟩)
    · exact ⟨fun _ => rfl, fun _ _ => rfl, rfl, rfl, rfl, rfl, fun _ _ _ => rfl, rfl⟩
    · exact ⟨hstat F1 1, fun a ha => rd_inc_ne _ _ _ ha, rfl, rfl, rfl, rfl, fun _ _ _ => rfl, rfl⟩
  generalize hv : (if cause ≤ 2 then w.inc (R.SLOT_CNT sc) F.SLOT_CNT_TRIPS 1 else if cause = 5 then w
    else w.inc (R.SLOT_CNT sc) F.SLOT_CNT_PG_FAIL 1) = v
  obtain ⟨v1, v2, v3, v4, v5, vo, v6, v7⟩ := hf v (by
    subst hv; split
    · exact .inr ⟨_, rfl⟩
    · split
      · exact .inl rfl
      · exact .inr ⟨_, rfl⟩)
  have hr1 : ∀ g, (v.raise (0xD0 + sc) (if cause ≤ 2 then 0x40 else 0x42) none none (feed + 16 * cause)).sst sc g = v.sst sc g :=
    fun _ => rfl
  have hr2 : ∀ h fn r, (v.raise (0xD0 + sc) (if cause ≤ 2 then 0x40 else 0x42) none none (feed + 16 * cause)).cfgWord h fn r
      = v.cfgWord h fn r := fun _ _ _ => rfl
  have hr3 : ∀ k, (v.raise (0xD0 + sc) (if cause ≤ 2 then 0x40 else 0x42) none none (feed + 16 * cause)).slot k = v.slot k :=
    fun _ => rfl
  simp only [hr1, hr2, hr3, raise_get, raise_rd, raise_faults, raise_regs, raise_doms, raise_slots, raise_out, v1, hws, v5, hwf, v6, vo]
  refine ⟨?_, ?_, ?_, ?_, ?_, ?_, ?_, ?_, ?_, trivial, ?_, ho.1, ?_, ?_, ?_, ?_, ?_, ?_, ?_, ?_⟩
  · simp (disch := decide) only [sst_setSst_beside, d1]
  · simp (disch := decide) only [sst_setSst_beside, d2]
  · simp (disch := decide) only [sst_setSst_beside, d3]
  · simp (disch := decide) only [sst_setSst_beside, d4]
  · simp (disch := decide) only [sst_setSst_beside, d5]
  · simp (disch := decide) only [sst_setSst, hb3]
  · simp (disch := decide) only [sst_setSst_beside, h6]
  · subst hv
    split
    · rw [get_inc_same _ _ _ _ (by decide), hwc]; rfl
    · split
      · rw [hwc]
      · rw [get_inc_beside _ _ _ _ _ (by decide) (by decide), hwc]
  · subst hv
    by_cases h1 : cause ≤ 2
    · simp only [h1, if_true, true_or]
      rw [get_inc_beside _ _ _ _ _ (by decide) (by decide), hwc]
    · by_cases h2 : cause = 5
      · simp only [h1, h2, if_false, if_true, or_true]
        simp [hwc]
      · simp only [h1, h2, if_false, or_self]
        rw [get_inc_same _ _ _ _ (by decide), hwc]; rfl
  · intro P h
    have h' : u.slotPort sc = some P := by rw [p1, h]
    refine ⟨?_, by rw [hq P h']; exact pcc P h hsc⟩
    have := hb P (by rw [hp1, h'])
    rwa [(e P).1, (e P).2] at this
  · intro P h
    rw [hq P (by rw [p1, h]), ← pst]
    exact ho.2 P h
  · simp only [slot, v4, hwl, d7, Tab.get_upd_same]
  · simp only [slot, v4, hwl, d7, Tab.get_upd_same]
  · simp only [slot, v4, hwl, d7, Tab.get_upd_same]
  · simp only [slot, v4, hwl, d7, Tab.get_upd_same]
  · intro k hk'
    simp only [slot, v4, hwl, d7, Tab.get_upd_ne _ _ hk']
  · intro a h1 h2
    rw [v2 a h2, hwr, setSst, rd_set_ne _ _ _ h1, d8 a h1]
  · rw [v7, hk, d9]
    apply ext <;> simp [setSst, v4, vo, hwl]

end Sys2Proof.Machine.State
end

