-- ==== Sys2Proof/Tests/Slice0.lean ====
section
/-! SUPPORT. Tests. Every `wit_<Statement>` shows, at a concrete state and operands, that the hypotheses of each clause of the
obligation of that name can be met together; every `test_…` is one command or one check on a small state, its expected result
taken from the spec. -/

set_option Elab.async false

namespace Sys2Proof.Tests

open Sys2Proof Sys2Proof.Machine

/-- The state after reset with its control processors running and some registers replaced. -/
def W (l : List (Nat × Word)) : State := l.foldl (fun s x => s.wr x.1 x.2) { State.reset with boot := { cpRun := true } }

/-- The same in mode 3, Shared, with every power domain on. -/
def up (l : List (Nat × Word)) : State := W ((R.PWR_PD_STAT, 0xFFFFFFFF) :: (R.GLB_MODE, 3) :: l)

/-- A packet of class 0 from a port, of one cell, with `left` bytes still to come and the cells given. -/
def pk (tlp : Option Tlp) (cells : List Nat) (left : Nat) (bad : Bool) : Pkt :=
  { port := 127, den := 15, cls := 0, bytes := List.replicate 64 0, tc := 7, m5 := 0, slice := 0xFFFF, arr := 0, tlp := tlp, units := 0, ucls := 0
    cells := cells, left := left, refs := 0, spoor := false, bad := bad }

/-- A descriptor with an action, sent to port 127 in class 7. -/
def dsc (action : Nat) : Desc := { f := [action, 127, 0, 7, 0, 0, 0, 0, 0, 0, 0, 0, 0, 0], actionSet := true }

/-! ### Well-formedness: an ill-formed term for each check, which the check refuses -/

/-- Operands that fit. -/
def okAcc : CpAcc := ⟨0, .read, 0, 4, [], false, false, true⟩
def okTrain : PcieTrain := ⟨true, 0, 0, false, false, 0, none⟩
def okTlp : Tlp := ⟨.mrd, 0, 0, 4, 0, false, false, false, false, false, none, 4, List.replicate 12 0⟩
def okCfg : CfgReq := ⟨true, 0, 0, 0, .command, false, 0, 0, 0, false, List.replicate 12 0, false, false, false⟩
def okBar : BarAcc := ⟨false, 0, 4, [], 0, 0⟩
def okApw : ApWrite := ⟨2, 0, 0, [none], 0⟩
def okApr : ApRead := ⟨2, 0, 0, 0, 0, 0⟩
def okFlit : Flit := ⟨0, List.replicate 496 0, 0⟩

theorem test_operands_that_fit : okAcc.wf ∧ okTrain.wf ∧ okTlp.wf ∧ okCfg.wf ∧ okBar.wf ∧ okApw.wf ∧ okApr.wf := by decide

theorem test_illFormed1 :
    ([.registerWrite 11 0 0, .registerWrite 0 0x4000000 0, .cpAccess { okAcc with cp := 4 }, .cpAccess { okAcc with addr := 0x3FFFFFD },
   .cpAccess { okAcc with size := 0 }, .cpAccess { okAcc with size := 9 }, .cpAccess { okAcc with addr := 4, size := 64 },
   .cpAccess { okAcc with kind := .write }, .guardFence 11, .gateLock 11 0 0, .gateLock 0 6 0, .coldReset 11 0, .warmReset 11 0,
   .strapSample 4 0 0, .strapSample 0 2 0, .strapSample 0 0 8, .bootConfirm 11 0, .modeRequest 11 0, .groupReset 11 0,
   .groupResetDone 16, .pcieLinkTrain 128 okTrain, .pcieLinkTrain 0 { okTrain with rate := 7 },
   .pcieLinkTrain 0 { okTrain with width := 5 }, .pcieLinkTrain 0 { okTrain with bypass := some 7 }, .pcieEqPhase 16 0 0 false,
   .pcieEqPhase 0 16 0 false, .pcieEqPhase 0 0 7 false, .partnerPresetRequest 16 0 (.preset 0), .partnerPresetRequest 0 16 (.preset 0),
   .partnerPresetRequest 0 0 (.preset 11), .laneLock 16 0, .laneLock 0 17, .laneAligned 16 0 false, .laneAligned 0 17 false,
   .laneAlignLoss 16 0, .laneAlignLoss 0 17, .alignTimeout 16 0, .alignTimeout 0 17, .laneTrainingRecord 16 0 0 (List.replicate 32 0),
   .laneTrainingRecord 0 8 0 (List.replicate 32 0), .laneTrainingRecord 0 0 17 (List.replicate 32 0), .laneTrainingRecord 0 0 0 [],
   .propose 16 0, .propose 0 8, .switchRate 16 0, .switchRate 0 8, .rateIdleEnd 16 0, .rateIdleEnd 0 8] : List Instr).all (fun i => !i.wf) = true := by
  decide +kernel

theorem test_illFormed2 :
    ([.verifyEnd 16 ⟨0, []⟩, .verifyEnd 0 ⟨8, []⟩, .laneErrorWindow 16 ⟨0, 0, 0⟩, .laneErrorWindow 0 ⟨17, 0, 0⟩, .spareCmd 11 0 0, .spareCmd 0 16 0,
   .spareAligned 16 ⟨0, false⟩, .spareAligned 0 ⟨8, false⟩, .eyeScan 11 0 0, .eyeScan 0 16 0, .eyeScanDone 16 0,
   .marginCommand 16 0 .normal, .marginCommand 0 16 .normal, .marginCommand 0 0 (.stepTiming true 64),
   .marginCommand 0 0 (.stepVoltage true 128), .eqOverride 11 0 0, .eqOverride 0 16 0, .flitTransmit 16 0, .flitTransmit 0 8,
   .flitReceive 16 0 okFlit [], .flitReceive 0 8 okFlit [], .flitReceive 0 0 { okFlit with payload := [] } [],
   .flitReceive 0 0 okFlit [⟨16, 0, 0⟩], .replayTimeout 16 0, .replayTimeout 0 8, .creditTimeout 16 0 0, .creditTimeout 0 8 0,
   .creditTimeout 0 0 3, .initTimeout 16 0, .initTimeout 0 8, .retrainPortResetDone 16 0, .retrainPortResetDone 0 8, .swapReq 16 0 0,
   .swapReq 0 8 0, .swapReq 0 0 256, .swapReady 16 0 0, .swapReady 0 8 0, .swapReady 0 0 256, .swapGo 16 0 0, .swapGo 0 8 0,
   .swapGo 0 0 256, .swapAbort 16 0 0 0, .swapAbort 0 8 0 0, .swapAbort 0 0 256 0, .swapAbort 0 0 0 256, .retrainReq 16 0 0,
   .retrainReq 0 8 0] : List Instr).all (fun i => !i.wf) = true := by
  decide +kernel

theorem test_illFormed3 :
    ([.retrainReq 0 0 256, .swapBlockEnd 16 0, .swapBlockEnd 0 8, .swapTimeout 16 0, .swapTimeout 0 8, .linkCmdRetrain 11 0 0,
   .linkCmdRetrain 0 16 0, .linkCmdRetrain 0 0 8, .linkCmdRetrainFull 11 0 0, .linkCmdRetrainFull 0 16 0, .linkCmdRetrainFull 0 0 8,
   .linkCmdDisable 11 0 0, .linkCmdDisable 0 16 0, .linkCmdDisable 0 0 8, .linkCmdEnable 11 0 0, .linkCmdEnable 0 16 0,
   .linkCmdEnable 0 0 8, .hostDomainEnable 11 0 0, .hostDomainEnable 0 16 0, .hostDomainDisable 11 0 0, .hostDomainDisable 0 16 0,
   .tlpReceive 128 okTlp, .tlpReceive 0 { okTlp with reqId := 65536 }, .tlpReceive 0 { okTlp with tag := 16384 },
   .tlpReceive 0 { okTlp with tc := 8 }, .tlpReceive 0 { okTlp with len := 4353 }, .tlpReceive 0 { okTlp with cplLen := 4353 },
   .tlpReceive 0 { okTlp with bytes := [] }, .tlpReceive 0 { okTlp with bytes := List.replicate 4353 0 },
   .tlpReceive 0 { okTlp with pasid := some 1048576 }, .configRequest 16 okCfg, .configRequest 0 { okCfg with bus := 256 },
   .configRequest 0 { okCfg with dev := 32 }, .configRequest 0 { okCfg with fnc := 8 }, .configRequest 0 { okCfg with bytes := [] },
   .configRequest 0 { okCfg with bytes := List.replicate 4353 0 }, .configRequest 0 { okCfg with reg := .resizeCap 6 },
   .configRequest 0 { okCfg with reg := .bar 6 }, .configRequest 0 { okCfg with reg := .barHigh 6 },
   .configRequest 0 { okCfg with reg := .resizeBar 6 }, .configRequest 0 { okCfg with reg := .other 64 },
   .configRequest 0 { okCfg with reqId := 65536 }, .configRequest 0 { okCfg with tag := 16384 }, .upstreamReset 16 false,
   .secondaryBusReset 16 0, .secondaryBusReset 0 32, .portReset 11 0 0, .portReset 0 16 0] : List Instr).all (fun i => !i.wf) = true := by
  decide +kernel

theorem test_illFormed4 :
    ([.portReset 0 0 8, .pciePortDisable 11 0 0, .pciePortDisable 0 16 0, .pciePortDisable 0 0 8, .pciePortEnable 11 0 0,
   .pciePortEnable 0 16 0, .pciePortEnable 0 0 8, .dmfBarAccess 16 okBar, .dmfBarAccess 0 { okBar with size := 4097 },
   .dmfBarAccess 0 { okBar with off := 0x7FFFFFD }, .dmfBarAccess 0 { okBar with write := true },
   .dmfBarAccess 0 { okBar with reqId := 65536 }, .dmfBarAccess 0 { okBar with tag := 16384 }, .trackedTimeout 128 0,
   .dpcTrigger 128 .software, .dpcRelease 16 0, .dpcRelease 0 32, .dmfBmeWrite 16 false, .hostReadCompletion 16 0 .sc [], .dmfFlr 16,
   .flrComplete 16 false, .apertureYield 0 0, .apertureYield 0 16, .apertureReissue 0 0, .apertureReissue 0 16, .ingressResume 130,
   .jobDispatch 16, .descriptorRelease 130 0, .descriptorRelease 0 8, .admissionRetry 1024, .egressSchedule 128, .cellRead 128 0,
   .cellRead 0 4, .cutThroughWaitTimeout 128, .quarterControl 11 0, .quarterPowerUpDone 4, .jobWatchdog ⟨16, 0, 0⟩,
   .jobWatchdog ⟨0, 32, 0⟩, .jobWatchdog ⟨0, 0, 4⟩, .kNop ⟨16, 0, 0⟩, .kMov ⟨16, 0, 0⟩, .kMovh ⟨16, 0, 0⟩, .kAdd ⟨16, 0, 0⟩,
   .kSub ⟨16, 0, 0⟩, .kAnd ⟨16, 0, 0⟩, .kOr ⟨16, 0, 0⟩, .kXor ⟨16, 0, 0⟩, .kShl ⟨16, 0, 0⟩] : List Instr).all (fun i => !i.wf) = true := by
  decide +kernel

theorem test_illFormed5 :
    ([.kShr ⟨16, 0, 0⟩, .kSar ⟨16, 0, 0⟩, .kCmp ⟨16, 0, 0⟩, .kTst ⟨16, 0, 0⟩, .kCrc ⟨16, 0, 0⟩, .kTime ⟨16, 0, 0⟩, .kExt ⟨16, 0, 0⟩,
   .kIns ⟨16, 0, 0⟩, .kBcc ⟨16, 0, 0⟩, .kLkd ⟨16, 0, 0⟩, .kLkh ⟨16, 0, 0⟩, .kLkr ⟨16, 0, 0⟩, .kLkt ⟨16, 0, 0⟩,
   .resourceSlotServe 16 .table, .kMtr ⟨16, 0, 0⟩, .kCnt ⟨16, 0, 0⟩, .counterUpdateApply 16, .kSetd ⟨16, 0, 0⟩, .kPush ⟨16, 0, 0⟩,
   .kSmpl ⟨16, 0, 0⟩, .kEnd ⟨16, 0, 0⟩, .eccRepair 16 (.prog 0), .eccRepair 0 (.prog 16384), .eccRepair 0 (.table 0x200000),
   .tableEntryWrite 11 0, .tableFence 11, .programLoad 11 0, .programSwitch 11 0, .denDrained 16, .progSelWrite 11 0 0,
   .progSelWrite 0 16 0, .meterCommit 11 0 0, .meterCommit 0 16 0, .meterRead 11 0 0, .meterRead 0 16 0, .counterSnap 11 0 0,
   .counterSnap 0 16 0, .heartbeat 128 [], .probe 128 [], .probeResponse 128 [], .assign 128 [], .windowOpen 11 0, .windowRevoke 11 0,
   .revokeDrainDone 65536, .windowFence 11, .sqDoorbell 16 0 0, .sqDoorbell 0 4096 0, .cqDoorbell 16 0 0] : List Instr).all (fun i => !i.wf) = true := by
  decide +kernel

theorem test_illFormed6 :
    ([.cqDoorbell 0 4096 0, .wqeFetch 32768 (List.replicate 64 0), .wqeFetch 0 [], .shaperRelease 4096, .requestPacketSend 65536,
   .rmWrite ⟨0, [], 0⟩, .rmWrite ⟨0x10000, List.replicate 4097 0, 0⟩, .rmWriteNotify ⟨0, [], 0⟩, .rmRead ⟨0, [], 0⟩,
   .rmCancel ⟨0, [], 0⟩, .rmAck ⟨0, [], 0⟩, .rmNak ⟨0, [], 0⟩, .rmReadData ⟨0, [], 0⟩, .retransmitTimeout 65536 0,
   .backoffExpiry 65536 0, .pathHoldExpiry 256 0, .pathHoldExpiry 0 4, .cqRecordWrite 32768, .retainExpiry 256 0,
   .inboundIdleTimeout 256 0, .messageAbort 11 0, .contextCommit 11 0, .contextRead 11 0, .apertureWrite 16 okApw,
   .apertureWrite 0 { okApw with bar := 3 }, .apertureWrite 0 { okApw with off := 2 ^ 46 }, .apertureWrite 0 { okApw with tc := 8 },
   .apertureWrite 0 { okApw with data := List.replicate 4097 none },
   .apertureWrite 0 { okApw with reqId := 65536 }, .apertureRead 16 okApr, .apertureRead 0 { okApr with bar := 3 },
   .apertureRead 0 { okApr with off := 2 ^ 46 }, .apertureRead 0 { okApr with tc := 8 }, .apertureRead 0 { okApr with len := 4097 },
   .apertureRead 0 { okApr with reqId := 65536 }, .apertureRead 0 { okApr with tag := 16384 }, .apertureReadRelease 16,
   .prefetchExpiry 16 0 0, .prefetchExpiry 0 256 0, .sliceCreate 11 0, .sliceCreate 0 4096, .sliceQuiesce 11 0, .sliceQuiesce 0 4096,
   .sliceResume 11 0, .sliceResume 0 4096, .sliceDisable 11 0 false, .sliceDisable 0 4096 false, .sliceReset 11 0 false,
   .sliceReset 0 4096 false] : List Instr).all (fun i => !i.wf) = true := by
  decide +kernel

theorem test_illFormed7 :
    ([.sliceReassign 11 0, .sliceReassign 0 4096, .sliceResize 11 0, .sliceResize 0 4096, .sliceDestroy 11 0, .sliceDestroy 0 4096,
   .sliceQuiesced 4096, .sliceStoppingDone 4096, .sliceResetDone 4096, .irqWrite 4096 0, .irqWrite 0 4, .irqUnmask 11 0 0 0,
   .irqUnmask 0 4096 0 0, .irqUnmask 0 0 4 0, .shaperCommit 11 0 0, .shaperCommit 0 4096 0, .policerCommit 11 0 0,
   .policerCommit 0 4096 0, .faultMessage ⟨1024, 0, none, none, 0⟩, .faultMessage ⟨0, 256, none, none, 0⟩,
   .faultMessage ⟨0, 0, none, none, 4294967296⟩, .faultMessage ⟨0, 0, some 4096, none, 0⟩,
   .faultMessage ⟨0, 0, none, some 281474976710656, 0⟩, .classCContainment ⟨1024, 0, none, none, 0⟩, .faultTimerExpiry 65536,
   .faultAck 11 0, .quietPeriodEnd .packet 4096, .domainClear 11 0, .owlParity 65536 false, .fwSafe 11 0,
   .slotPowerControlWrite 16 false, .slotOn 11 0, .slotOn 0 16, .slotOff 11 0, .slotOff 0 16, .presenceOccupied 16, .presenceEmpty 16,
   .slotRampStart 16, .slotPgLevel 16 0, .slotPgLevel 0 2048, .slotPgQualified 16 0, .slotPgQualified 0 2048, .perstRelease 16,
   .feedGood 16 .a 0, .feedGood 0 .a 2048, .feedLost 16 .a 0, .feedLost 0 .a 2048, .switchBbmEnd 16 0] : List Instr).all (fun i => !i.wf) = true := by
  decide +kernel

theorem test_illFormed8 :
    ([.switchBbmEnd 0 1024, .switchComplete 16 0, .switchComplete 0 2048, .switchTimeout 16 0, .switchTimeout 0 2048, .pwrbrkRelease 16,
   .fastTrip 16 .a, .slowTripTimerStart 16 .a 0, .slowTripTimerStart 0 .a 1024, .slowTripTimerStop 16 .a 0, .slowTripTimerStop 0 .a 1024,
   .slowTrip 16 .a, .rampTimeout 16, .pgLost 16 0, .pgLost 0 2048, .turnOffWaitEnd 16, .drainEnd 16 0, .drainEnd 0 2048,
   .drainTimeout 16, .powerDomainControl 11 0, .domainPowerUpDone 32, .duskEntry 36, .islandWake 36, .pllLockLoss (.group 16),
   .supplyOutOfRange 32, .tempThreshold 17 0, .nightGo 11 0, .nightWake (.presence 16), .padHoldRelease 11 0, .getRandom 11,
   .provisionKey 11, .lockProv 11, .revokeKey 11, .advanceFloor 11, .debugChallenge 11, .debugUnlock 11, .debugNever 11, .certWrite 11,
   .getCertificate (.doe 16) 0 0 0, .getCertificate .mctp 16 0 0, .challenge (.doe 16) 0 [], .challenge .mctp 16 [],
   .getMeasurements (.doe 16) false [], .keyExchange (.doe 16) 0 [], .keyExchange .mctp 16 [], .vendorDefinedRequest (.doe 16) 0,
   .checkJobStart 11 0, .checkJobAbort 11 0] : List Instr).all (fun i => !i.wf) = true := by
  decide +kernel

theorem test_illFormed9 :
    ([.recordCheck 32 .error, .recordRecheck 32 .error, .counterSelect 11 0 0 0, .counterSelect 0 37 0 0, .counterSelect 0 0 8 0,
   .counterSelect 0 34 64 0, .sampleRingWrite 1, .ringEnable 11 0 0, .ringEnable 0 16 0, .ringDisable 11 0 0, .ringDisable 0 16 0,
   .commandDoorbell 11 0 0, .commandDoorbell 0 16 0, .commandFetch 16 .error, .cmdNop 17, .getInfo 17, .csrReadCmd 17, .csrWriteCmd 17,
   .flashInfo 17, .flashRead 17, .flashWrite 17 .error, .flashErase 17, .resetCmd 17, .fwCommand 17, .fwPostResponse 11 0,
   .fwPostEvent 11 0, .fwTimeout 17, .eventRingWrite 16, .mctpCommand [], .i3cAddressAssign 128, .setEndpointId 256,
   .dmfCompletionTimeout 16 0, .flowControlUpdate 128 0 0 0, .flowControlUpdate 0 3 0 0, .injectedPacket 16 [],
   .unknownControlOpcode 128 [], .jtagAccess (.debugHalt 4), .jtagAccess (.debugRead 0x4000000), .jtagAccess (.debugWrite 0x4000000 0)] : List Instr).all (fun i => !i.wf) = true := by
  decide +kernel

theorem test_illFormed_refused : exec (.registerWrite 11 0 0) State.reset = .refused .illFormed := by rfl

theorem wit_StepRunsFront : State.reset.pending = [] ∧ State.reset.fab.slew = 0 := by decide

theorem wit_QueueInvariant :
    State.reset.QueueOk ∧ ({ State.reset with pending := [.snapshotSet, .resetPinLow .pwrok 5000] } : State).QueueOk := by decide

theorem wit_TidyInvariant : State.reset.Tidy ∧ step State.reset = .next { State.reset with now := 1 } := ⟨by decide, rfl⟩

theorem wit_OnlyIllFormedRefused : (Instr.groupResetDone 16).wf = false ∧ (Instr.groupResetDone 15).wf = true := by decide

theorem wit_WritesByFieldType :
    (masterOk 31 = false → False) ∧
    (R.FLT_CFG2 % 4 = 0 ∧ plainReg R.FLT_CFG2 = true ∧ (up []).gateLocked R.FLT_CFG2 = false ∧ (up []).takes 0 R.FLT_CFG2 0xFFFFFFFF) ∧
    (let a := R.CHK_CMD + 1
     a + 4 ≤ 0x2000000 ∧ (up []).nightShut 0 = false ∧ (up []).checkAcc (.word 0 true a 0) = none ∧ a % 4 ≠ 0 ∧ State.byteSpace a = false ∧
     (up []).powered (a / 4 * 4) = true ∧ (up []).powered (a / 4 * 4 + 4) = true ∧ (up []).asleep (islandOf a) = false ∧
     (up []).asleep (islandOf (a / 4 * 4)) = false ∧ (up []).asleep (islandOf (a / 4 * 4 + 4)) = false) ∧
    ((W []).checkAcc (.word 0 true R.CHK_CMD 0) = none ∧ State.byteSpace R.CHK_CMD = false ∧ (W []).powered R.CHK_CMD = false) ∧
    ((up []).checkAcc (.word 0 true 0x90000 0) = none ∧ blockBit 0x90000 = none) := by decide

theorem wit_RefusedWriteIsLogged :
    (let s := up []
     masterOk 16 = true ∧ R.CHK_CMD % 4 = 0 ∧ R.CHK_CMD < 0x4000000 ∧ s.nightShut 16 = false ∧
     s.checkAcc (.word 16 true R.CHK_CMD 0) = some (5, 6, R.CHK_CMD) ∧ s.on (R.GRD_VLOG 16) F.GRD_VLOG_VALID = false) ∧
    (let s := (up []).set (R.GRD_VLOG 16) F.GRD_VLOG_VALID 1
     s.nightShut 16 = false ∧ s.checkAcc (.word 16 true R.CHK_CMD 0) = some (5, 6, R.CHK_CMD) ∧
     s.on (R.GRD_VLOG 16) F.GRD_VLOG_VALID = true) := by decide

theorem wit_RightsAndGatesRefuse :
    (up []).nightShut 16 = false ∧ (blockBit R.CHK_CMD = some 6 ∧ bit ((up []).rd (R.GRD_HR_WR 0)).toNat 6 = false) ∧
    (let a := R.MGT_RING_CTL 1
     blockBit a = some 4 ∧ bit ((up []).rd (R.GRD_HR_WR 0)).toNat 4 = true ∧ (up []).objectOk (.word 16 true a 0) 0 a = false) ∧
    (let s := up [(R.GRD_HR_WR 0, 1)]
     gateOf R.GLB_MODE = some 3 ∧ s.rightsEnd (.word 16 true R.GLB_MODE 0) 0 R.GLB_MODE = none ∧
     bit (s.rd (R.GRD_GATE_WR 3)).toNat 16 = false) ∧
    (let s := up [(R.GRD_HR_RD 0, 0x100)]
     gateOf R.GRD_FENCE = some 0 ∧ s.rightsEnd (.word 16 false R.GRD_FENCE 0) 0 R.GRD_FENCE = none ∧
     bit (s.rd (R.GRD_GATE_RD 0)).toNat 16 = false) := by decide

theorem wit_GateLockAndFence :
    (let s := up []
     s.takes 0 (R.GRD_GATE_CTL 5) 3 ∧ s.on (R.GRD_GATE_CTL 5) F.GRD_GATE_CTL_LOCK = false ∧ s.readOk 0 R.GRD_FENCE) ∧
    (let s := (up []).set (R.GRD_GATE_CTL 5) F.GRD_GATE_CTL_LOCK 1
     s.takes 0 (R.GRD_GATE_CTL 5) 0 ∧ s.takes 0 (R.GRD_GATE_RD 5) 0 ∧ s.takes 0 (R.GRD_GATE_WR 5) 0 ∧
     s.on (R.GRD_GATE_CTL 5) F.GRD_GATE_CTL_LOCK = true) := by decide

/-- An access of control processor 3 to the last word of control memory. -/
def cpAt (kind : AccKind) (user : Bool) (data : List Byte) : CpAcc :=
  { cp := 3, kind := kind, addr := 0x1FFFFFC, size := 4, user := user, cacheable := true, ordered := false, data := data }

/-- The check of such an access. -/
def cpChecked (s : State) (x : CpAcc) : Option (Nat × Nat × Nat) :=
  s.checkAcc ⟨x.cp, decide (x.kind = .write), decide (x.kind = .fetch), x.user, x.cacheable, x.ordered, x.addr, x.size, leNat x.data⟩

theorem wit_CpAccessControlMemory :
    let w := cpAt .write false [1, 2, 3, 4]
    let r := cpAt .read false []
    let u := cpAt .read true []
    (w.wf = true ∧ r.wf = true ∧ u.wf = true ∧ inCmem w.addr = true ∧ w.addr + w.size ≤ 0x2000000 ∧ (up []).nightShut 3 = false ∧ (up []).asleep (islandOf w.addr) = false) ∧
    cpChecked (up []) w = none ∧ cpChecked (up []) r = none ∧ cpChecked (up []) u = some (1, 16, 0x1FFFFFC) ∧
    (∀ k, k < 16 → (up []).covers 3 k w.addr = false ∧ (up []).covers 3 k (w.addr + w.size - 1) = false) := by decide

theorem wit_ColdResets :
    let s := up []
    (masterOk 0 = true ∧ s.takes 0 R.GLB_RESET 0xD2C70002 ∧ fldOf 0xD2C70002 F.GLB_RESET_KEY = 0xD2C7 ∧ fldOf 0xD2C70002 F.GLB_RESET_COLD = 1) ∧
    (s.takes 0 R.GLB_RESET 0xD2C60002 ∧ fldOf 0xD2C60002 F.GLB_RESET_KEY ≠ 0xD2C7) ∧ 5000 ≤ 5000 ∧ 4999 < 5000 := by decide

theorem wit_WarmResets :
    let s := up []
    s.chan.flashQ = [] ∧ s.sec.mb = none ∧
    (s.takes 0 R.GLB_RESET 0xD2C70001 ∧ fldOf 0xD2C70001 F.GLB_RESET_KEY = 0xD2C7 ∧ fldOf 0xD2C70001 F.GLB_RESET_COLD = 0 ∧
      fldOf 0xD2C70001 F.GLB_RESET_WARM = 1) ∧
    (s.takes 0 R.GLB_RESET 0xD2C70000 ∧ fldOf 0xD2C70000 F.GLB_RESET_KEY = 0xD2C7 ∧ fldOf 0xD2C70000 F.GLB_RESET_COLD = 0 ∧
      fldOf 0xD2C70000 F.GLB_RESET_WARM = 0) := by decide

theorem wit_GroupResets :
    let s := (up []).set R.GLB_GRP_RESET F.GLB_GRP_RESET_GRP 0x8000
    ((up []).takes 0 R.GLB_GRP_RESET 0x8000 ∧ (0x8000 : Word).toNat = 2 ^ 15) ∧
    (bit (s.get R.GLB_GRP_RESET F.GLB_GRP_RESET_GRP) 15 = true ∧ s.contained 3 15 = false ∧ 1 ≤ s.mode ∧ s.mode ≤ 6 ∧ s.mode ≠ 7 ∧
      (let u := fun (s : State) => s.sampleLayout 15
       (u s).groupUsed 15 = false ∧ (u (s.wr (R.GRP_PORT_CFG 15 7) 1)).groupUsed 15 = true ∧ (u (s.wr (R.GRP_PORT_CFG 15 7) 1)).pdOn 25 = true ∧
       (u ((s.wr (R.GRP_PORT_CFG 15 7) 1).setPd 25 false)).pdOn 25 = false)) ∧
    (let s := (W [(R.GLB_MODE, 7)]).set R.GLB_GRP_RESET F.GLB_GRP_RESET_GRP 0x8000
     bit (s.get R.GLB_GRP_RESET F.GLB_GRP_RESET_GRP) 15 = true ∧ s.contained 3 15 = false ∧ s.mode = 7) ∧
    bit ((up []).get R.GLB_GRP_RESET F.GLB_GRP_RESET_GRP) 15 = false := by decide

/-- A state of Boot with STRAP_BOOT `b`. -/
def booting (b : Nat) (x : Boot) : State := State.set { State.reset with boot := x } R.GLB_STRAP F.GLB_STRAP_BOOT b

theorem wit_BootBegins :
    (let s := booting 0 { pwrok := true, sysRstN := true }
     s.boot.stage = .reset ∧ s.boot.pwrok = true ∧ s.boot.sysRstN = true) ∧
    (let s := booting 0 { stage := .straps }
     s.boot.stage ≠ .reset ∧ s.boot.fast = false ∧ s.get R.GLB_STRAP F.GLB_STRAP_BOOT ≠ 1 ∧ s.nextImage = some 1 ∧
     s.get R.GLB_BOOT_STATUS F.GLB_BOOT_STATUS_A_RESULT = 0 ∧ s.get R.GLB_BOOT_STATUS F.GLB_BOOT_STATUS_B_RESULT = 0) ∧
    (let s := booting 1 { stage := .straps }
     s.boot.stage = .straps ∧ s.boot.fast = false ∧ s.get R.GLB_STRAP F.GLB_STRAP_BOOT = 1) ∧
    (let s := ((booting 3 { stage := .straps }).set R.GLB_BOOT_STATUS F.GLB_BOOT_STATUS_A_RESULT 9).set R.GLB_BOOT_STATUS
       F.GLB_BOOT_STATUS_B_RESULT 9
     s.boot.fast = false ∧ s.get R.GLB_STRAP F.GLB_STRAP_BOOT ≠ 1 ∧ s.nextImage = none) := by decide

/-- An image for Solo with one empty platform segment whose CRC field is `crc`, on trial as image 1 at a stage. -/
def trial (stage : BootStage) (crc : Byte) : State :=
  { State.reset with
    boot := { stage := stage, img := 1 }
    flash0 := putBytes erasedByte [] 0 ([0x46, 0x4C, 0x43, 0x49, 1, 0, 0, 0x10, 0xF0, 0x52, 0, 0, 0, 0, 0, 0, 2, 0, 1, 0, 0xB1, 0] ++
      List.replicate 10 0 ++ [1, 0, 0, 0, 0, 0x10, 0, 0, 0, 0, 0, 0, crc, 0, 0, 0]) }

/-- The hypotheses on the signature alone (item 0) rest on the uninterpreted hash and signature functions of Config. -/
theorem wit_ImageChecks :
    (let s := trial .header 0
     s.boot.fast = false ∧ s.boot.img = 1 ∧ s.boot.stage = .header ∧ State.headerCode s.sec.floor (s.imgBytes 0 4096) = 0) ∧
    (let s : State := { State.reset with boot := { stage := .header, img := 1 } }
     s.boot.stage = .header ∧ State.headerCode s.sec.floor (s.imgBytes 0 4096) ≠ 0) ∧
    (let s := trial .segments 0
     let h := s.imgBytes 0 4096
     let e := State.dirEnt h s.boot.seg
     s.boot.stage = .segments ∧ State.segOk (fieldAt h 16 1) e (s.imgBytes e.off e.len) = true ∧ crc32c (s.imgBytes e.off e.len) = e.crc) ∧
    (let s := trial .segments 1
     let h := s.imgBytes 0 4096
     let e := State.dirEnt h s.boot.seg
     State.segOk (fieldAt h 16 1) e (s.imgBytes e.off e.len) = true ∧ crc32c (s.imgBytes e.off e.len) ≠ e.crc) ∧
    (let e : State.DirEnt := ⟨4, 0, 4096, 0, 0⟩
     State.segOk 2 e [] = false) ∧
    (let s := trial .signature 0
     let n := fieldAt (s.imgBytes 0 4096) 8 4 - sigBlockLen
     s.boot.stage = .signature ∧ n % 16 = 0 ∧
       State.sigItem s.sec.keys (s.imgBytes n sigBlockLen) 1 n (·.img) (s.imgBytes 0 n) ≠ 0) := by decide

/-- A settings record: offset, mask, value, delay, POLL. -/
def recBytes4 (off delay : Nat) (mask value : Word) (poll : Nat) : List Byte :=
  leBytes 4 off ++ leBytes 4 mask.toNat ++ leBytes 4 value.toNat ++ leBytes 2 delay ++ leBytes 2 poll

/-- One image record at hand. -/
def settling (stage : BootStage) (b : List Byte) : State := { up [] with boot := { stage := stage, img := 1, recs := [b] } }

theorem wit_SettingsRecords :
    (let s := settling .settings (recBytes4 R.FLT_CFG2 65535 0xFFFFFFFF 5 0)
     let r : SetRec := ⟨R.FLT_CFG2, 0xFFFFFFFF, 5, 65535, false⟩
     s.recAt = some (r, true) ∧ r.forbidden = false ∧ s.boot.recIdx - s.boot.factory < 16384 ∧ s.boot.delays + r.delay ≤ 100000 ∧
     plainReg r.off = true ∧ r.off % 4 = 0 ∧ s.gateLocked r.off = false ∧ State.inRing r.off = false ∧ s.readOk 8 r.off ∧ (s.clearRc 8 r.off).takes 8 r.off 5 ∧
     r.off ≠ R.FLT_DOM_STAT ∧ s.boot.stage = .settings) ∧
    (let s := settling .settings (recBytes4 R.GLB_RESET 0 0 0 0)
     s.recAt = some (⟨R.GLB_RESET, 0, 0, 0, false⟩, true) ∧ SetRec.forbidden ⟨R.GLB_RESET, 0, 0, 0, false⟩ = true ∧
     s.chan.flashQ = [] ∧ s.sec.mb = none) ∧
    (let s := settling .settings (recBytes4 R.FLT_CFG2 0 0xFFFFFFFF 5 1)
     let r : SetRec := ⟨R.FLT_CFG2, 0xFFFFFFFF, 5, 0, true⟩
     s.recAt = some (r, true) ∧ r.forbidden = false ∧ (State.recPoll { s with boot := { s.boot with delays := 0 } } r).1 = false) ∧
    (let s := settling .poll (recBytes4 R.FLT_CFG2 0 0xFFFFFFFF 5 1)
     let r : SetRec := ⟨R.FLT_CFG2, 0xFFFFFFFF, 5, 0, true⟩
     s.recAt = some (r, true) ∧ s.boot.stage = .poll ∧ (s.recPoll r).1 = false) ∧
    (let s := settling .poll (recBytes4 R.FLT_CFG2 0 0 5 1)
     let r : SetRec := ⟨R.FLT_CFG2, 0, 5, 0, true⟩
     s.recAt = some (r, true) ∧ (s.recPoll r).1 = true) ∧
    (let s := settling .delay (recBytes4 R.FLT_CFG2 0 0 5 1)
     s.recAt.isSome = true ∧ s.boot.stage = .delay) := by decide

/-- The same record is not beside a slot's status. -/
theorem wit_SettingsRecords_slots : ∀ sc, R.FLT_CFG2 ≠ R.SLOT_STAT sc := by
  intro sc
  simp only [R.FLT_CFG2, R.SLOT_STAT]
  omega

/-- An image of target `t` in its last stage, with a confirm timeout of 5. -/
def loading (t : Byte) : State :=
  { up [] with
    boot := { stage := .load, img := 1, staged := [(6, 0, [0x46, 0x4C, 0x46, 0x42, 1, 0, 2, 0])] }
    flash0 := putBytes erasedByte [] 16 [t, 5] }

/-- A part whose image waits for its confirmation. -/
def unconfirmedPart : State :=
  State.set { up [(R.GLB_BOOT_CONFIRM, 0xFF00)] with boot := { stage := .ended, img := 1, cpRun := true } } R.GLB_BOOT_STATUS F.GLB_BOOT_STATUS_ACTIVE_IMG 1

theorem wit_BootEnds :
    (let s := loading 5
     s.boot.stage = .load ∧ s.fabSeg = some [0x46, 0x4C, 0x46, 0x42, 1, 0, 2, 0] ∧ s.get R.GLB_STRAP F.GLB_STRAP_BOOT ≠ 2 ∧
     fieldAt (s.imgBytes 0 4096) 16 1 = 5) ∧
    (let s := unconfirmedPart
     s.takes 0 R.GLB_BOOT_CONFIRM 0xFFFFFFFF ∧ fldOf 0xFFFFFFFF F.GLB_BOOT_CONFIRM_CONFIRM = 1 ∧ s.unconfirmed = true ∧
     s.takes 0 R.GLB_BOOT_CONFIRM 0 ∧ fldOf 0 F.GLB_BOOT_CONFIRM_CONFIRM = 0 ∧ s.chan.flashQ = [] ∧ s.sec.mb = none) ∧
    (up []).unconfirmed = false := by decide

theorem wit_ModeTransitions :
    (let s := up []
     s.takes 0 R.GLB_MODE 0x1600 ∧ fldOf 0x1600 F.GLB_MODE_REQ = 6 ∧ fldOf 0x1600 F.GLB_MODE_GO = 1 ∧ s.takes 0 R.GLB_MODE 0x700 ∧
     fldOf 0x700 F.GLB_MODE_GO = 0 ∧ s.transiting = false ∧ s.modeReason 0 6 = 0 ∧ s.modeReason 0 2 ≠ 0 ∧
     s.mode = 3 ∧ s.fabSeg = none ∧ s.modeReason 0 4 = 3) ∧
    (let s := (up []).set R.GLB_MODE F.GLB_MODE_STATE 1
     s.transiting = true ∧ s.segmentWaits = false ∧ s.drainWaits = false) ∧
    (let s : State := ((up []).set R.GLB_MODE F.GLB_MODE_STATE 1).setSett fun x => { x with pkts := [(0, some (pk none [0] 0 false))] }
     let s : State := { s with boot := { s.boot with target := 6 } }
     s.transiting = true ∧ s.drainWaits = true) ∧
    ((up [(R.GLB_MODE, 5)]).mode = 5 ∧ (up [(R.GLB_MODE, 2)]).mode = 2 ∧ (up [(R.GLB_MODE, 7)]).mode = 7) := by decide

/-- Link 7 of group 15 in mode 5 in a state, at a rate, as leader or follower; its port has the last four lanes, the spare an entry for W1. -/
def fab (st rate leader : Nat) (l : Link) : State :=
  State.wr { up [(R.GLB_MODE, 5), (R.GRP_PORT_CFG 15 7, 0xFC0B)] with eq := [(laneNo 15 16 * 16 + 8, [0])], links := [(127, { l with lanes := [12, 13, 14, 15] })], samp := [(127, 0xFC0B)] }
    (R.GRP_LINK_STAT 15 7) (BitVec.ofNat 32 (st + 2 ^ 5 * rate + 2 ^ 29 * leader))

/-- Port 7 of group 15 as a PCI Express port of four lanes, up or not, at a rate. -/
def pci (isUp rate : Nat) : State :=
  ((State.set { up [] with samp := [(127, 0xFC09)] } (R.GRP_PCIE_STAT 15 7) F.GRP_PCIE_STAT_UP isUp).set (R.GRP_PCIE_STAT 15 7)
    F.GRP_PCIE_STAT_RATE rate).set (R.GRP_PCIE_STAT 15 7) F.GRP_PCIE_STAT_WIDTH 2

theorem wit_LineCodeRoundTrip : (∀ v ∈ [3, 0, 2], v < if true then 4 else 2) ∧ (∀ v ∈ [1, 0], v < if false then 4 else 2) := by decide

theorem wit_LaneAlignment :
    (let s := fab 1 8 0 {}
     s.live ∧ s.linkOf 15 15 = some 7 ∧ (∀ k ∈ (s.link 15 7).lanes, k < 17) ∧ s.linkState 15 7 = 1 ∧ (s.link 15 7).idle = false) ∧
    (let s := (fab 1 8 0 {}).set (R.GRP_LANE_CTL 15 15) F.GRP_LANE_CTL_LOCK 1
     s.linkState 15 7 = 1 ∧ s.on (R.GRP_LANE_CTL 15 15) F.GRP_LANE_CTL_LOCK = true ∧
       (∃ k ∈ (s.link 15 7).lanes, k ≠ 15 ∧ s.laneAligned 15 k = false)) ∧
    (fab 2 8 0 {}).linkState 15 7 = 2 ∧ (fab 3 8 0 {}).linkState 15 7 = 3 ∧
    ((fab 1 8 0 { phase := 4 }).linkState 15 7 = 1 ∧ ((fab 1 8 0 { phase := 4 }).link 15 7).phase = 4) ∧
    (let s := { fab 1 8 0 {} with lanes := [(15 * 17 + 15, { aligning := true })] }
     s.linkState 15 7 = 1 ∧ (s.lane 15 15).aligning = true ∧ s.laneAligned 15 15 = false ∧ s.linkRate 15 7 = 8) ∧
    (let s := { fab 1 9 0 { prevRate := 15 } with lanes := [(15 * 17 + 15, { aligning := true })] }
     s.linkState 15 7 = 1 ∧ (s.lane 15 15).aligning = true ∧ s.laneAligned 15 15 = false ∧ 8 < s.linkRate 15 7 ∧
       (s.link 15 7).phase ≠ 5 ∧ (s.link 15 7).prevRate < 16) ∧
    ((fab 1 9 0 { phase := 5 }).linkRate 15 7 = 9 ∧ ((fab 1 9 0 { phase := 5 }).link 15 7).phase = 5) := by decide

theorem wit_LaneAlignment_errors :
    (let s := { fab 2 8 0 {} with lanes := [(15 * 17 + 15, { crossed := true })] }
     s.linkState 15 7 = 2 ∧ s.dueLanes 15 7 = [] ∧ (s.lane 15 15).crossed = true) ∧
    (let s := (fab 1 8 0 {}).wr (R.GRP_ERR_CFG 15) (setFld 0 F.GRP_ERR_CFG_HARD_TH 1)
     s.linkState 15 7 = 1 ∧ (s.lane 15 15).crossed = false ∧ s.get (R.GRP_ERR_CFG 15) F.GRP_ERR_CFG_HARD_TH = 1 ∧ (s.lane 15 15).winHard = 0 ∧
     s.on (R.GRP_ERR_CFG 15) F.GRP_ERR_CFG_PSE_EN = false) := by decide

/-- A training record of the partner: device 9, port 3, in a phase, with its CRC. -/
def trainRec (bad : Nat) : List Byte :=
  let b : List Byte := [0x57, 0, 9, 3, 0, 0] ++ List.replicate 24 0
  b ++ leBytes 2 (crc16 b + bad)

theorem wit_RateSteps :
    (let s := fab 1 9 0 {}
     s.live ∧ s.linkState 15 7 = 1 ∧ (trainRec 0).length = 32 ∧ s.isFabric 127 = true ∧ (s.link 15 7).lanes.contains 15 = true ∧
     trainingCrcOk (trainRec 0) = true ∧ ((trainRec 0).getD 0 0).toNat = 0x57 ∧ ((trainRec 0).getD 5 0).toNat ≠ 1 ∧ ((trainRec 0).getD 5 0).toNat ≠ 5 ∧ s.linkRate 15 7 ≠ 8 ∧
     (s.link 15 7).lanes.length ≤ 4 * 2 ^ (((trainRec 0).getD 1 0).toNat / 16 % 4) ∧
     s.allAligned 15 7 = false) ∧
    (let s := { fab 1 9 0 {} with lanes := [(15 * 17 + 15, { crossed := true })] }
     trainingCrcOk (trainRec 1) = false ∧ (trainRec 1).length = 32 ∧ (s.lane 15 15).crossed = true ∧ s.linkState 15 7 = 1) := by
  decide +kernel

/-- The lanes of link 7 of group 15 aligned. -/
def aligned (s : State) : State := [12, 13, 14, 15].foldl (fun s n => s.set (R.GRP_LANE_CTL 15 n) F.GRP_LANE_CTL_ALIGNED 1) s

theorem wit_RateSteps_leader :
    (let s := aligned (fab 1 8 1 { peer := some ⟨0, 9, 3, 11, 8, 0, 8, 0⟩, target := 9 })
     s.on (R.GRP_LINK_STAT 15 7) F.GRP_LINK_STAT_LEADER = true ∧ s.allAligned 15 7 = true ∧ (s.link 15 7).idle = false ∧
     (s.link 15 7).peer.isSome = true ∧ s.linkRate 15 7 = 8 ∧ (s.link 15 7).phase = 0 ∧ s.linkRate 15 7 < (s.link 15 7).target) ∧
    (let s := fab 1 10 1 { peer := some ⟨0, 9, 3, 11, 8, 2, 9, 0⟩, phase := 1 }
     s.on (R.GRP_LINK_STAT 15 7) F.GRP_LINK_STAT_LEADER = true ∧ (s.link 15 7).phase = 1 ∧ s.linkRate 15 7 < 11 ∧ (s.link 15 7).idle = false) ∧
    (let s := aligned (fab 1 9 1 { peer := some ⟨0, 9, 3, 11, 9, 0, 9, 8⟩, target := 10, verified := true })
     (s.link 15 7).verified = true ∧ bit 8 3 = true ∧ s.linkRate 15 7 < (s.link 15 7).target) ∧
    (let s := fab 1 10 0 { peer := some ⟨0, 9, 3, 11, 10, 3, 11, 0⟩, phase := 2 }
     s.on (R.GRP_LINK_STAT 15 7) F.GRP_LINK_STAT_LEADER = false ∧ (s.link 15 7).phase = 2 ∧ s.linkRate 15 7 < 11) ∧
    ((fab 1 9 1 { idle := true }).link 15 7).idle = true ∧
    (let s := fab 1 9 1 { phase := 4 }
     (s.link 15 7).phase = 4 ∧ (s.link 15 7).verifyBad = false ∧ s.allAligned 15 7 = false ∧ (s.link 15 7).idle = false ∧
     ∃ e ∈ [({ lane := 3, lcv := 1, pse := 0 } : LaneErr)], e.lane < (s.link 15 7).lanes.length ∧ 0 < e.lcv ∧ e.lane < 16) ∧
    (let s := fab 1 9 1 { phase := 4, verifyBad := true, prevRate := 8 }
     (s.link 15 7).phase = 4 ∧ (s.link 15 7).verifyBad = true ∧ (s.link 15 7).prevRate < 16) := by decide

theorem wit_LaneCommands :
    (let s := { pci 1 6 with eq := [((15 * 16 + 15) * 16 + 5, [0, 0, 0, 0, 0xFF]), ((15 * 16 + 15) * 16 + 6, [0, 0, 0, 0, 9])] }
     s.live ∧ s.pciePortOf 15 15 = some 7 ∧ s.mode ≠ 1 ∧ s.laneSettings 15 15 6 = ([0, 0, 0, 0, 9], 0) ∧
     s.laneSettings 15 15 5 = ([0, 0, 0, 0, 0xFF], 0) ∧ (s.laneSettings 15 15 4).2 = 1 ∧ (s.port 127).bypass = none ∧
     (({ s with ports := [(127, { bypass := some 5 })] } : State).port 127).bypass = some 5 ∧ s.takes 0 (R.GRP_EQ_OVR0 15) 0xF ∧
     fldOf 0xF F.GRP_EQ_OVR0_EN = 0 ∧ s.portUp 127 = true ∧ 3 ≤ s.get (R.GRP_PCIE_STAT 15 7) F.GRP_PCIE_STAT_RATE) ∧
    (let s := up [(R.GLB_MODE, 6)]
     s.takes 0 (R.GRP_EYE_CTL 15) 0x80000000 ∧ fldOf 0x80000000 F.GRP_EYE_CTL_GO = 1 ∧ s.mode = 6 ∧
     s.takes 0 (R.GRP_EQ_OVR0 15) 0x1000F ∧ fldOf 0x1000F F.GRP_EQ_OVR0_EN = 1 ∧ fldOf 0x1000F F.GRP_EQ_OVR0_LANE = 15) ∧
    (let s := (up []).set (R.GRP_EYE_RES 15) F.GRP_EYE_RES_BUSY 1
     s.live ∧ s.on (R.GRP_EYE_RES 15) F.GRP_EYE_RES_BUSY = true ∧ s.takes 0 (R.GRP_EQ_OVR0 15) 0x1000F ∧ s.mode ≠ 6) := by decide

theorem wit_TransmitsFlits :
    (let s := fab 3 11 1 { buf := [⟨4095, 2, 31, []⟩], replayQ := [4095] }
     s.live ∧ s.linkState 15 7 = 3 ∧ State.swapPause (s.link 15 7) = false ∧
     (s.link 15 7).buf.find? (fun x => x.seq == 4095) = some ⟨4095, 2, 31, []⟩) ∧
    (let l := (fab 3 11 1 {}).link 15 7
     l.replayQ = [] ∧ State.pickClass l = none) ∧
    (let s := fab 3 11 1 { tx2 := { cur := [[1]], cr := some 1 } }
     let l := s.link 15 7
     l.replayQ = [] ∧ l.buf.length < s.flitLimit 15 ∧ State.pickClass l = some 2) := by decide

/-- A flit of a type, class and number whose check value is right, with all-zero slots. -/
def goodFlit (ty cls seq ack : Nat) : Flit :=
  ⟨flitHdr ty cls seq ack 0 3 0 31, List.replicate 496 0, flitCrc (flitHdr ty cls seq ack 0 3 0 31) (List.replicate 496 0)⟩

theorem flitOk_self (h : DWord) (x : List Byte) : flitOk ⟨h, x, flitCrc h x⟩ = true ∧ flitOk ⟨h, x, flitCrc h x + 1⟩ = false := by
  simp [flitOk]

theorem wit_ReceivesFlits_crc (ty cls seq ack : Nat) : flitOk (goodFlit ty cls seq ack) = true ∧
    flitOk ⟨flitHdr ty cls seq ack 0 3 0 31, List.replicate 496 0, flitCrc (flitHdr ty cls seq ack 0 3 0 31) (List.replicate 496 0) + 1⟩
      = false := ⟨(flitOk_self _ _).1, (flitOk_self _ _).2⟩

/-- Link 7 of group 15 UP, expecting flit 4095; the header of a flit that it may take. -/
theorem wit_ReceivesFlits :
    let s := (fab 3 11 1 {}).set (R.GRP_LINK_RX 15 7) F.GRP_LINK_RX_RX_NEXT 4095
    let fine := fun (ty cls seq : Nat) =>
      let h := flitHdr ty cls seq 4095 0 3 0 31
      flitProto h = false ∧ hNAK h = false ∧ hCRCLS h = 3 ∧ hTYPE h = ty ∧ hSEQ h = seq ∧
        ackOk (s.link 15 7).buf (s.get (R.GRP_LINK_SEQ 15 7) F.GRP_LINK_SEQ_TX_NEXT) (hACK h) = true
    s.live ∧ s.linkState 15 7 = 3 ∧ s.get (R.GRP_LINK_RX 15 7) F.GRP_LINK_RX_RX_NEXT = 4095 ∧
    fine 0 3 4095 ∧ (fine 1 2 4094 ∧ seqCmp 4094 4095 = 2) ∧ (fine 1 2 0 ∧ seqCmp 0 4095 = 1) ∧ fine 1 2 4095 ∧
    (clsRx (s.link 15 7) 2).rem = 0 ∧ s.dueLanes 15 7 = [] ∧ (∀ k ∈ (s.link 15 7).lanes, k < 17) ∧
    (let s := { s with lanes := [(15 * 17 + 15, { crossed := true })] }
     (s.lane 15 ((s.link 15 7).lanes.getD 3 0)).crossed = true) := by decide

/-- A NAK flit that acknowledges flit 4094 and asks for flit 4095 and the next, which are kept; the link in INIT with all its credits. -/
theorem wit_ReceivesFlits_nak :
    (let s := (fab 3 11 1 { buf := [⟨4095, 2, 31, []⟩, ⟨0, 2, 31, []⟩] }).set (R.GRP_LINK_SEQ 15 7) F.GRP_LINK_SEQ_TX_NEXT 1
     let h := flitHdr 0 3 0 4094 1 3 0 31
     flitProto h = false ∧ hTYPE h = 0 ∧ hNAK h = true ∧ ackOk (s.link 15 7).buf 1 (hACK h) = true ∧ (hACK h + 1) % 4096 ≠ 1 ∧
     (s.link 15 7).buf.filter (fun x => seqCmp x.seq (hACK h) == 1) = [⟨4095, 2, 31, []⟩, ⟨0, 2, 31, []⟩] ∧ (s.link 15 7).rpFrom = none ∧
     (s.link 15 7).rpCnt < 4 ∧ flitProto (flitHdr 2 3 0 4094 1 3 0 31) = true) ∧
    (let s := fab 2 8 1 { goodRun := 15, tx0 := { cr := some 64 }, tx1 := { cr := some 1 }, tx2 := { cr := some 1 } }
     s.linkState 15 7 = 2 ∧ s.mode ≠ 4 ∧ 15 ≤ (s.link 15 7).goodRun ∧ (s.link 15 7).tx0.cr.isSome = true ∧ (s.link 15 7).tx1.cr.isSome = true ∧
     (s.link 15 7).tx2.cr.isSome = true) := by decide

theorem wit_SpareSwaps :
    let s := fab 3 8 1 {}
    let busy := s.set (R.GRP_LANE_STAT 15) F.GRP_LANE_STAT_SPARE_STATE 1
    let w := fun (x : Swap) => fab 4 8 1 { swap := some x }
    (s.takes 0 (R.GRP_SPARE_CMD 15) 0x10F ∧ fldOf 0x10F F.GRP_SPARE_CMD_GO = 1 ∧ fldOf 0x10F F.GRP_SPARE_CMD_LANE = 15 ∧
      s.linkOf 15 15 = some 7 ∧ s.linkState 15 7 = 3 ∧ s.spareFit 15 7 = true) ∧
    (s.takes 0 (R.GRP_SPARE_CMD 15) 0x100 ∧ s.linkOf 15 0 = none) ∧ (busy.linkOf 15 15 = some 7 ∧ busy.spareFit 15 7 = false) ∧
    (s.live ∧ 3 < (s.link 15 7).lanes.length ∧ busy.live ∧ busy.linkState 15 7 = 3) ∧
    ((w { lane := 3 }).live ∧ ((w { lane := 3 }).link 15 7).swap = some { lane := 3 } ∧ (w { lane := 3 }).linkState 15 7 = 4) ∧
    (let x := w { lane := 3, sentReady := true, gotReady := true, sentGo := true, gotGo := true }
     x.linkState 15 7 = 4 ∧ (x.link 15 7).exclAfterSwap = [] ∧ x.mode ≠ 4 ∧ (x.link 15 7).lanes.getD 3 0 < 17 ∧ x.dueLanes 15 7 = [] ∧
     (x.lane 15 16).due = false) ∧
    ((fab 2 8 1 {}).linkState 15 7 < 3 ∧ (s.link 15 7).lanes.length ≤ 4) := by decide

theorem wit_LinkTimers :
    (let l := (fab 3 8 1 { buf := [⟨0, 0, 0, []⟩], rpCnt := 3 }).link 15 7
     l.buf ≠ [] ∧ l.rpCnt < 4) ∧
    (let l := (fab 3 8 1 { buf := [⟨0, 0, 0, []⟩], rpCnt := 4 }).link 15 7
     l.buf ≠ [] ∧ 4 ≤ l.rpCnt) ∧
    (let l := (fab 3 8 1 { tx2 := { wait := [⟨false, [1]⟩] } }).link 15 7
     (State.clsTx l 2).wait = [⟨false, [1]⟩] ∧ (State.clsTx l 2).cur = [] ∧ State.credit (State.clsTx l 2) < State.linkUnits 1 ∧
     (State.clsTx l 1).wait = []) ∧
    (let k := pk none [0] 0 false
     let e : QEnt := ⟨0, dsc 0, List.replicate 128 0, false, false, false, 0, false, false, false, none⟩
     let s := (fab 3 8 1 {}).setSett fun t => { t with queues := [((15 * 8 + 7) * 8 + 7, [e])], pkts := [(0, some k)] }
     let l := s.link 15 7
     s.queue ((15 * 8 + 7) * 8 + 7) = [e] ∧ s.pkt 0 = some k ∧ State.fabClass (outBytes k e.desc e.view) < 3 ∧ (State.clsTx l (State.fabClass (outBytes k e.desc e.view))).wait = [] ∧
     State.credit (State.clsTx l (State.fabClass (outBytes k e.desc e.view))) < State.linkUnits (outBytes k e.desc e.view).length) ∧
    ((fab 2 8 1 {}).linkState 15 7 = 2 ∧ (fab 3 8 1 {}).linkState 15 7 ≠ 2 ∧ (fab 3 8 1 {}).live) ∧
    (let s := fab 5 8 1 {}
     s.linkState 15 7 = 5 ∧ s.mayLink 15 7 = true ∧ s.portWidth 127 ≤ 16 ∧ fldOf (s.layout 127) F.GRP_PORT_CFG_FIRST + s.portWidth 127 ≤ 16 ∧
     chooseLanes (s.portWidth 127) (s.usable 15 7) = some [0, 1, 2, 3]) ∧
    (let s := (fab 5 8 1 {}).set (R.GRP_LINK_STAT 15 7) F.GRP_LINK_STAT_EXCL 8
     s.linkState 15 7 = 5 ∧ chooseLanes (s.portWidth 127) (s.usable 15 7) = none) := by decide

theorem wit_LinkCommands :
    (let s := fab 4 8 1 {}
     s.linkRegsShown 15 7 = true ∧ s.portWidth 127 ≤ 16 ∧ fldOf (s.layout 127) F.GRP_PORT_CFG_FIRST + s.portWidth 127 ≤ 16 ∧
     s.takes 0 (R.GRP_LINK_CMD 15 7) 1 ∧ s.takes 0 (R.GRP_LINK_CMD 15 7) 2 ∧ s.takes 0 (R.GRP_LINK_CMD 15 7) 3 ∧
     s.takes 0 (R.GRP_LINK_CMD 15 7) 4 ∧ 1 ≤ s.linkState 15 7 ∧ s.linkState 15 7 ≤ 4 ∧ s.live) ∧
    ((fab 0 8 1 {}).linkState 15 7 = 0 ∧ (fab 5 8 1 {}).linkState 15 7 = 5 ∧ (fab 7 8 1 {}).linkState 15 7 = 7) ∧
    (let s := fab 6 8 1 {}
     s.mayLink 15 7 = true ∧ (s.wr R.GLB_MODE 3).mayLink 15 7 = false ∧ (s.wr R.GLB_MODE 3).linkState 15 7 = 6 ∧ s.linkState 15 7 = 6 ∧ chooseLanes (s.portWidth 127) (s.usable 15 7) = some [0, 1, 2, 3]) := by decide

/-- Port 127, of four lanes, with a role, domain 15, device 31, up or not, contained or not; domain 15 enabled with upstream port `P`. -/
def pcie (role isUp dpc P : Nat) (d : Dom) (l : List (Nat × Word)) : State :=
  { up ((R.GRP_PCIE_STAT 15 7, BitVec.ofNat 32 (isUp + 2 * role + 8 * 15 + 128 * 31 + 2 ^ 12 * 6 + 2 ^ 16 * 2 + 2 ^ 20 * dpc)) :: l) with
    samp := [(127, 0xFC09)]
    doms := [(15, { d with on := true, upPort := P })] }

/-- The part's upstream port of domain 15, up, in state ACTIVE. -/
def host (d : Dom) (l : List (Nat × Word)) : State := pcie 1 1 0 127 d ((R.GLB_HD_STAT 15, 6) :: l)

theorem wit_PortTraining :
    let x : PcieTrain := { up := true, rate := 6, width := 4, flit := true, reversed := false, inverted := 0, bypass := some 6 }
    let s := pcie 2 1 0 0 {} []
    let u := (pcie 0 0 0 127 {} []).takeRole 127
    x.wf = true ∧ s.isPcie 127 = true ∧ s.portUp 127 = true ∧ (pcie 0 0 0 127 {} []).portUp 127 = false ∧ u.hdState 15 = 0 ∧
    (up [(R.GLB_MODE, 7)]).mode = 7 ∧
    (s.mayTrain 127 = true ∧ fldOf (s.layout 127) F.GRP_PORT_CFG_FIRST + 2 ^ min x.width (fldOf (s.layout 127) F.GRP_PORT_CFG_WIDTH) ≤ 16) ∧
    ((pcie 0 0 0 127 {} []).role 127 = 0 ∧ (pcie 0 0 0 127 {} []).upOf 127 = some 15 ∧ u.role 127 = 1 ∧ u.mayTrain 127 = true) ∧
    ((pcie 1 1 0 127 {} [(R.GLB_HD_STAT 15, 1)]).hdState 15 = 1) ∧ (pcie 2 1 1 0 {} []).mayTrain 127 = false ∧ s.role 127 ≠ 1 := by
  decide +kernel

theorem wit_HostDomains :
    let v : Word := 0x3EFF
    let s := pcie 0 0 0 0 {} []
    let o := State.set { s with doms := [] } (R.GLB_HD_CFG 15) F.GLB_HD_CFG_EN 1
    (s.mode ≠ 1 ∧ s.takes 0 (R.GLB_HD_CFG 15) v ∧ fldOf v F.GLB_HD_CFG_EN = 1 ∧ fldOf v F.GLB_HD_CFG_UP_PORT = 127 ∧
      s.on (R.GLB_HD_CFG 15) F.GLB_HD_CFG_EN = false ∧ s.pcieEnabled 127 = true ∧ (∀ k, k < 16 → k ≠ 15 → (s.dom k).on = false) ∧ s.mode ≠ 2) ∧
    s.pcieEnabled 126 = false ∧ fldOf 0x3EFD F.GLB_HD_CFG_UP_PORT = 126 ∧
    (o.takes 0 (R.GLB_HD_CFG 15) 0 ∧ fldOf 0 F.GLB_HD_CFG_EN = 0 ∧ o.on (R.GLB_HD_CFG 15) F.GLB_HD_CFG_EN = true) := by decide

theorem wit_PortResets :
    (let s := pcie 2 1 0 0 {} []
     s.takes 0 (R.GRP_PCIE_CMD 15 7) 1 ∧ s.takes 0 (R.GRP_PCIE_CMD 15 7) 2 ∧ s.takes 0 (R.GRP_PCIE_CMD 15 7) 3 ∧
     s.pcieRegsShown 15 7 = true ∧ s.isPcie 127 = true ∧ s.role 127 = 2 ∧ s.portOfVdev 15 31 = some 127 ∧ (s.dom 15).on = true ∧
     s.portOfVdev 15 30 = none) ∧
    (up [(R.GRP_PORT_CFG 15 7, 2)]).pcieRegsShown 15 7 = false ∧
    (let s := host {} []
     s.isPcie (s.dom 15).upPort = true ∧ (s.dom 15).upPort < 128 ∧ s.role 127 = 1 ∧ s.roleHd 127 = 15 ∧ s.portUp 127 = true) ∧
    ((up []).dom 15).on = false ∧
    (let s := pcie 3 1 0 0 {} []
     s.portOfVdev 15 31 = some 127 ∧ s.role 127 = 3) ∧
    (let s := pcie 1 0 0 127 { downDue := true } []
     (s.dom 15).on = true ∧ (s.dom 15).downDue = true ∧ s.portUp (s.dom 15).upPort = false) := by
  decide +kernel

/-- A valid entry of the VF map, the one of a direct table of 64 B entries at byte 1024: function 7 behind synthetic port 30 of domain 15 is
PRID `prid` of port `pp`, its requests leave it as 0x5678; its three BARs are of `sz` address bits. -/
def vfMaster (sz : Byte) (pp : Byte := 127) (prid : Nat := 0x1234) : Tab Byte :=
  putBytes zeroByte (putBytes zeroByte [] 0 (leBytes 4 (1 + 3 * 8) ++ leBytes 4 16 ++ leBytes 4 1)) 1024
    ([1, 15, 30 + 32 * 7, pp] ++ leBytes 2 prid ++ leBytes 2 0x5678 ++ [sz, sz, sz])

/-- A TLP of a kind. -/
def tlp (k : TlpKind) (nullified : Bool) : Tlp :=
  { kind := k, reqId := 0xFFFF, tag := 16383, len := 4, tc := 7, flit := true, poisoned := false, nullified := nullified, ide := false
    digest := false, pasid := none, cplLen := 4, bytes := List.replicate 12 0 }

theorem wit_PacketsComeIn :
    (let s := host {} []
     (tlp .mrd false).wf = true ∧ s.live ∧ s.sett.dmfIn = [] ∧ s.portUp 127 = true ∧ s.isPcie 127 = true ∧ s.role 127 = 1 ∧ s.sett.shut.contains 127 = false ∧
     s.forwarding = true) ∧
    (let s := pcie 2 1 0 0 {} []
     s.role 127 = 2 ∧ s.busBlock 127 (tlp .mrd false) ≠ none ∧ s.busBlock 127 (tlp .mwr false) ≠ none ∧ s.portUp 127 = true) ∧
    (pcie 2 1 0 0 { cfg := [(cfgKey 0 .command, 4), (cfgKey (2 + 31) .command, 4)] } []).busBlock 127 (tlp .mrd false) = none ∧
    msgCode true (tlp .msg false).bytes = 0 ∧ msgCode true (List.replicate 12 1) ≠ 0 ∧
    (let s : State := { pcie 3 1 0 0 {} [] with tblw := { master := vfMaster 0 } }
     (s.proxyOf 127 0x5678).isSome = true ∧ (s.proxyTags 127).contains 16383 = false ∧ s.proxyOf 127 0xFFFF = none) ∧
    (pcie 2 0 0 0 {} []).portUp 127 = false ∧ (({ host {} [] with sett := { shut := [127] } } : State).sett.shut.contains 127 = true) ∧
    (let s := pcie 2 1 0 0 { cfg := [(cfgKey (2 + 31) .ptmControl, 1)] } []
     bit (s.cfgWord (s.roleHd 127) (2 + s.roleVdev 127) .ptmControl).toNat 0 = true ∧ s.role 127 ≠ 1 ∧
     msgCode true (List.replicate 12 0x52) = 0x52) ∧
    (let s := (host {} []).set R.GLB_MODE F.GLB_MODE_CUR 1
     s.forwarding = false ∧ s.live ∧ s.role 127 = 1 ∧ s.inDmf (s.roleHd 127) (tlpAddr true (tlp .mrd false).bytes) = none ∧ s.portUp 127 = true) ∧
    (tlp .mrd true).nullified = true ∧ (up [(R.GLB_MODE, 1)]).forwarding = false := by
  decide +kernel

theorem wit_TrackedRequests :
    (let s := { pcie 2 1 0 0 {} [] with ports := [(127, { tracked := [⟨7, 0, 1, 2, 3, 15, false⟩] })] }
     s.live ∧ (s.port 127).tracked.find? (fun y => y.tag == 7) = some ⟨7, 0, 1, 2, 3, 15, false⟩ ∧ s.tagWaits 127 7 = false) ∧
    (let s := pcie 2 1 0 0 { cfg := [(cfgKey (2 + 31) .dpcControl, 1)] } []
     s.isPcie 127 = true ∧ 2 ≤ s.role 127 ∧ s.dpcEnable 127 = 1 ∧ s.on (State.statA 127) F.GRP_PCIE_STAT_DPC = false) ∧
    ((pcie 2 1 0 0 {} []).dpcEnable 127 = 0) ∧
    (let s := { pcie 2 0 1 0 {} [] with ports := [(127, { dpcHold := [(15, 31)] })] }
     (s.port 127).dpcHold = [(15, 31)] ∧ ∀ Q, Q < 128 → Q ≠ 127 → (s.port Q).dpcHold.contains (15, 31) = false) ∧
    (let s := fun (n : Nat) => pcie 1 1 0 127 { reads := [{ tag := 9, addr := 0, len := 64, pur := .gather 5 0, slice := none, drop := n }] } []
     (∀ n, n < 4 → ((s n).dom 15).reads.find? (fun y => y.tag == 9) = some { tag := 9, addr := 0, len := 64, pur := .gather 5 0, slice := none, drop := n }) ∧
     ((s 0).dom 15).reads.find? (fun y => y.tag == 8) = none ∧ (s 0).live ∧ ((s 0).set R.GLB_MODE F.GLB_MODE_CUR 7).mode = 7) := by decide

theorem wit_TrackedRequests_seated :
    Seated (pcie 2 1 0 0 {} [(R.GRP_PCIE_CFG 15 7, BitVec.ofNat 32 (15 * 2 ^ F.GRP_PCIE_CFG_HD.lo + 31 * 2 ^ F.GRP_PCIE_CFG_VDEV.lo))]) 127 := by
  refine ⟨?_, ?_, ?_, ?_, ?_, ?_⟩ <;> decide +kernel

theorem wit_DmfResets :
    (let s := host {} []
     (s.dom 15).on = true ∧ s.portUp (s.dom 15).upPort = true ∧ s.hdState 15 = 2 ∧ s.on (R.GLB_HD_STAT 15) F.GLB_HD_STAT_BME = true) ∧
    ((up []).dom 15).on = false ∧ (up []).hdState 15 = 0 ∧
    (let s := pcie 1 1 0 127 { reads := [{ tag := 9, addr := 0, len := 64, pur := .gather 5 0, slice := none, drop := 2 }] } [(R.GLB_HD_STAT 15, 3)]
     s.hdState 15 = 3 ∧ (s.dom 15).reads ≠ [] ∧ ((pcie 1 1 0 127 {} [(R.GLB_HD_STAT 15, 3)]).dom 15).reads = []) := by decide

/-- A configuration request of the host, of type 0 or 1. -/
def cfgReq (ty1 : Bool) (bus dev fnc : Nat) (reg : CfgReg) (write : Bool) : CfgReq :=
  { ty1 := ty1, bus := bus, dev := dev, fnc := fnc, reg := reg, write := write, value := 0, reqId := 0xFFFF, tag := 0, flit := true
    bytes := List.replicate 12 0 }

/-- The part's hierarchy of domain 15: buses 1 to 3 behind the virtual upstream port, bus 2 behind device 31 of bus 1, bus 3 behind
device 30; port 0 in a role and state `x`. -/
def tree (x : Nat) (l : List (Nat × Word)) : State :=
  { host { cfg := [(cfgKey 0 .busNumbers, 0x30100), (cfgKey (2 + 30) .busNumbers, 0x30301), (cfgKey (2 + 31) .busNumbers, 0x20201)] }
      ((R.GRP_PCIE_STAT 0 0, BitVec.ofNat 32 (x + 8 * 15 + 128 * 31)) :: l) with
    samp := [(0, 0xF001), (127, 0xFC09)], tblw := { master := vfMaster 20 } }

/-- An access to BAR0. -/
def bar0 (write : Bool) (off size : Nat) : BarAcc :=
  { write := write, off := off, size := size, data := List.replicate size none, reqId := 0, tag := 16383 }

theorem wit_HostAccesses :
    let s := tree 5 []
    let req := fun (ty1 : Bool) (bus dev fnc : Nat) (reg : CfgReg) (w : Bool) (go : CfgTo) =>
      (cfgReq ty1 bus dev fnc reg w).wf = true ∧ s.cfgTarget 15 (cfgReq ty1 bus dev fnc reg w) = go
    ((s.dom 15).on = true ∧ s.portUp (s.dom 15).upPort = true ∧ (s.dom 15).upPort < 128 ∧ s.hdState 15 = 2 ∧ s.forwarding = true) ∧
    ((tree 5 [(R.GLB_HD_STAT 15, 3)]).hdState 15 = 3 ∧ (tree 5 [(R.GLB_HD_STAT 15, 1)]).hdState 15 < 2) ∧
    (req false 0 0 2 .command true .nowhere ∧ req true 1 29 0 .command true .nowhere ∧ req false 0 0 1 .vendorDevice false (.own 1) ∧
      req false 0 0 0 .vendorDevice false (.own 0) ∧ req true 1 31 0 .vendorDevice false (.own (2 + 31)) ∧
      req true 1 31 0 .busNumbers true (.own (2 + 31)) ∧ req true 2 0 7 .command true (.below 31) ∧ req true 3 0 7 (.bar 5) false (.below 30)) ∧
    (s.portOfVdev 15 31 = some 0 ∧ s.portUp 0 = true ∧ (s.vfEntOf 0 0x207).isSome = false) ∧
    (({ tree 7 [] with tblw := { master := vfMaster 20 0 0x207 } } : State).vfEntOf 0 0x207).isSome = true ∧
    (req true 3 0 7 .command false (.below 30) ∧ State.barOf .command = none) ∧
    (let s : State := { tree 4 [] with tblw := { master := vfMaster 20 0 } }
     ((s.vfsBehind 15 30).find? (fun e => e.gfn == 7)).isSome = true ∧ (s.vfsBehind 15 30).all (fun e => !s.portUp e.pport) = true ∧
     s.on (State.statA 0) F.GRP_PCIE_STAT_DPC = false) ∧
    (s.portOfVdev 15 30 = none ∧ s.secBus 15 30 = 3 ∧ ((s.vfsBehind 15 30).find? (fun e => e.gfn == 7)).isSome = true ∧
      State.barOf (.bar 5) = some (2, true)) ∧
    ((tree 4 []).portOfVdev 15 31 = some 0 ∧ (tree 4 []).portUp 0 = false ∧ (tree 4 []).on (State.statA 0) F.GRP_PCIE_STAT_DPC = false) ∧
    (let s := host { cfg := [(cfgKey 1 .command, 2)] } [(R.GRD_HR_RD 15, 4)]
     bit (s.cfgWord 15 1 .command).toNat 1 = true ∧ s.nightShut 31 = false ∧ (bar0 false 0x6FFFFFF 1).wf = true ∧ (bar0 true 0x5000000 4).wf = true ∧
     (bar0 false R.FLT_CFG2 4).wf = true ∧ plainReg R.FLT_CFG2 = true ∧ (∀ y ∈ fieldsAt R.FLT_CFG2, y.ty ≠ .rc) ∧
     R.FLT_CFG2 ≠ R.FLT_DOM_STAT ∧ R.FLT_CFG2 < 0x22000 ∧ s.powered R.FLT_CFG2 = true ∧
     s.barHold 15 (bar0 false R.FLT_CFG2 4) = none) ∧
    (bit (s.cfgWord 15 1 .command).toNat 1 = false ∧ s.nightShut 31 = false) := by
  decide +kernel

/-- The read of FLT_CFG2 passes where gate 2 admits the domain's path. -/
theorem wit_HostAccesses_read :
    (host { cfg := [(cfgKey 1 .command, 2)] } [(R.GRD_HR_RD 15, 4), (R.GRD_GATE_RD 2, 0x80000000)]).readOk 31 R.FLT_CFG2 := by decide

/-- Packet 0 first in its order at port 127, class 7, its descriptor ready or not; fabric port 127 enabled or not. -/
def ordered (k : Pkt) (rel : List Done) (enabled : Bool) (l : List (Nat × Word)) : State :=
  { up l with
    samp := if enabled then [(127, 0xFC0B)] else []
    sett := { order := [(127 * 8 + 7, [0])], pkts := [(0, some k)] }
    dens := [(15, { rel := rel })] }

theorem wit_PacketsReleased :
    let e : Done := ⟨0, dsc 0, List.replicate 128 0, 0⟩
    let full := fun (s : State) => { s with regs := (s.wr (R.SETT_QSTAT 1023) 0xFFFFF).regs }
    (let s := ordered (pk none [0] 0 false) [e] true [(R.SETT_QCFG 1023, 0xFFFFFFFF)]
     s.live ∧ s.sett.dmfIn = [] ∧ s.isTlpAt 127 (pk none [0] 0 false) = false ∧ s.forDmf (pk none [0] 0 false) e.desc e.view = none ∧
     s.sett.order.get dNil (127 * 8 + 7) = [0] ∧ s.pkt 0 = some (pk none [0] 0 false) ∧
     (s.den 15).rel.find? (fun y => y.pid == 0) = some e ∧ e.desc.action = 0 ∧ e.desc.mcast = 0 ∧ s.toEngine (pk none [0] 0 false) = false ∧
     e.desc.dest = 127 ∧ e.desc.tc = 7 ∧ s.portEn 127 = true ∧ s.sett.shut.contains 127 = false ∧
     s.admits 1023 (pk none [0] 0 false).need = true ∧ s.depth 1023 + (pk none [0] 0 false).need < 2 ^ 20) ∧
    ((ordered (pk none [0] 0 false) [] true []).den 15).rel.find? (fun y => y.pid == 0) = none ∧
    (let s := full (ordered (pk none [0] 0 false) [e] true [])
     s.admits 1023 (pk none [0] 0 false).need = false ∧ s.portEn 127 = true) ∧
    (let k := pk (some (tlp .mwr false)) [0] 0 false
     let s := full (ordered k [e] true [])
     s.isTlpAt 127 k = true ∧ s.proxyNeed 127 k e.desc e.view = none ∧ s.on (R.GRP_PCIE_STAT 15 7) F.GRP_PCIE_STAT_DPC = false ∧ s.forDmf k e.desc e.view = none ∧
     s.ideBlocked k e.desc e.view = false ∧ s.admits 1023 k.need = false ∧ s.toEngine k = false) ∧
    (ordered (pk none [0] 0 false) [e] false []).portEn 127 = false ∧ (dsc 1).action = 1 ∧ (pk none [0] 0 true).bad = true ∧
    (let s : State := { up [] with sett := { held := [(0, [⟨0, 1023, dsc 0, []⟩])], pkts := [(0, some (pk none [0] 0 false))] } }
     s.sett.held = [(0, [⟨0, 1023, dsc 0, []⟩])] ∧ s.pkt 0 = some (pk none [0] 0 false) ∧ (full s).admits 1023 1 = false ∧
     ({ s with regs := (s.wr (R.SETT_QCFG 1023) 0xFFFFFFFF).regs } : State).admits 1023 1 = true) ∧
    (let s : State := { up [] with sett := { stalled := [(127, [0])], pkts := [(0, some (pk none [] 32 false))] } }
     s.sett.stalled.get dNil 127 = [0] ∧ s.pkt 0 = some (pk none [] 32 false) ∧ (pk none [] 32 false).left ≤ 32 ∧
     s.sett.stalled.get dNil 126 = []) := by
  decide +kernel

theorem wit_PacketsReleased_tlp :
    let k := pk (some (tlp .mwr false)) [0] 0 false
    let e : Done := ⟨0, dsc 0, List.replicate 128 0, 0⟩
    (let s := { ordered k [e] true [(R.SETT_QCFG 1023, 0xFFFFFFFF)] with doms := [(0, { cfg := [(cfgKey 2 .command, 7)] })] }
     s.on R.SETT_MIRROR F.SETT_MIRROR_EN = false ∧ k.mir = false ∧ s.isTlpAt 127 k = true ∧ s.proxyNeed 127 k e.desc e.view = none ∧ s.crosses k e.desc e.view = false ∧ s.notCovered k e.desc e.view = none ∧
     s.heldBack k (s.sett.held.get dNil (k.port * 8 + k.tc)) = false ∧ s.admits 1023 k.need = true ∧ s.canAdmit 1023 k e.desc e.view = true) ∧
    (let s := { ordered k [e] true [] with regs := ((ordered k [e] true []).wr (R.SETT_QSTAT 1023) 0xFFFFF).regs }
     s.canAdmit 1023 k e.desc e.view = false ∧ s.crosses k e.desc e.view = false ∧ s.notCovered k e.desc e.view = none) ∧
    (let k := pk none [] 300 false
     (ordered k [⟨0, dsc 2, [], 0⟩] true []).awaitsCells k ⟨0, dsc 2, [], 0⟩ = true) ∧
    (let s := { ordered k [⟨0, dsc 1, [], 0⟩] true [(R.SETT_MIRROR, BitVec.ofNat 32 (2 ^ F.SETT_MIRROR_EN.lo + 2 ^ F.SETT_MIRROR_ALL.lo)),
         (R.SETT_MIRROR_CNT, BitVec.ofNat 32 (2 ^ F.SETT_MIRROR_CNT_QDEPTH.lo))] with
       sett := { (ordered k [] true []).sett with mirCnt := [(State.ingressIdx 127, 1)] } }
     s.on R.SETT_MIRROR F.SETT_MIRROR_EN = true ∧ s.on R.SETT_MIRROR F.SETT_MIRROR_ALL = true ∧ s.sett.mirCnt.get dZero (State.ingressIdx k.port) = 1 ∧
     s.sett.mirQ.length < s.get R.SETT_MIRROR_CNT F.SETT_MIRROR_CNT_QDEPTH ∧ k.port ≠ 129) := by
  repeat' apply And.intro
  all_goals decide +kernel

/-- Fabric port 127 up with credit, one copy of packet 0 in its queue of class `t`. -/
def queued (t : Nat) (k : Pkt) (e : QEnt) (sending : List (Nat × Option (Nat × QEnt))) (l : List (Nat × Word)) : State :=
  { up ((R.GRP_LINK_STAT 15 7, 3) :: l) with
    samp := [(127, 0xFC0B)]
    links := [(127, { tx0 := { cr := some 100 } })]
    sett := { queues := [(127 * 8 + t, [e])], pkts := [(0, some k)], sending := sending, deficit := [(127 * 8, 1000)] } }

theorem wit_PacketsSent :
    let e : QEnt := { pid := 0, desc := dsc 0, view := List.replicate 128 0, tested := true, mark := false, ct := false, rd := 0, bad := false, started := false }
    let k := pk none [5] 0 false
    (let s := queued 7 k e [] [(R.SETT_SCHED 127, 0xFF)]
     s.live ∧ s.portUp 127 = true ∧ s.sett.sending.get dNone 127 = none ∧ s.nextOut 127 7 = some e ∧
     bit (s.get (R.SETT_SCHED 127) F.SETT_SCHED_STRICT) 7 = true) ∧
    (let s := queued 0 k e [] [(R.SETT_SCHED 127, 0)]
     s.queue (127 * 8 + 7) = [] ∧ s.sett.drr.get dZero 127 = 0 ∧ s.nextOut 127 0 = some e ∧ s.nextOut 127 7 = none ∧
     bit (s.get (R.SETT_SCHED 127) F.SETT_SCHED_STRICT) 0 = false ∧ s.pkt e.pid = some k ∧
     (outBytes k e.desc e.view).length ≤ s.sett.deficit.get dZero (127 * 8)) ∧
    (up []).portUp 127 = false ∧
    (let s : State := { queued 7 k e [] [] with links := [] }
     s.portUp 127 = true ∧ (∀ t, t < 8 → s.nextOut 127 t = none) ∧ s.sett.drr.get dZero 127 < 8) ∧
    (let s := queued 7 k e [(127, some (1023, e))] []
     s.sett.sending.get dNone 127 = some (1023, e) ∧ s.pkt e.pid = some k ∧ k.cells[e.rd]? = some 5 ∧ e.rd + 1 = k.need ∧ e.bad = false ∧
     e.ct = false ∧ s.isFabric 127 = true ∧ k.fc = false) ∧
    ((pk none [] 0 false).cells[e.rd]? = none ∧ k.tlp = none ∧ { e with ct := true, started := true }.started = true) ∧
    (let k2 := { pk none [5, 6] 0 false with bytes := List.replicate 512 0 }
     k2.cells[e.rd]? = some 5 ∧ e.rd + 1 ≠ k2.need ∧ k2.tlp = none) ∧
    (let k3 := { pk (some (tlp .mwr false)) [5] 1 false with bytes := List.replicate 512 0 }
     let e3 := { e with ct := true, rd := 1 }
     e3.ct = true ∧ 0 < e3.rd ∧ k3.cells.length ≤ e3.rd ∧ 0 < k3.left ∧ k3.isTlp = true ∧
     (queued 7 k3 e3 [(127, some (1023, e3))] []).sett.sending.get dNone 127 = some (1023, e3)) ∧
    (up []).takes 0 R.SETT_CFG 0xF ∧
    (let s : State := { up [] with sett := { powering := [3] } }
     s.sett.powering.contains 3 = true ∧ s.sett.powering.contains 0 = false) := by
  decide +kernel

/-- The last thread of the last den. -/
def lastThr : Thr := ⟨15, 31, 3⟩

/-- A job whose packet is number 0, at the last instruction, with g1 = 1. -/
def job0 (wait : Option Wait) (d : Desc) : Job :=
  { pid := 0, set := 1, pc := 16383, entry := 0, g := (List.replicate 16 (0 : DWord)).set 1 1, m := List.replicate 8 0, z := false, n := false
    c := false, v := false, view := List.replicate 128 0, desc := d, start := 0, issued := 0, bcc := 0, path := 0, tag := 0, no := 0, wait := wait }

/-- The thread runs that job and its next instruction is `w`, in a den that else holds `D`. -/
def thr (w : DWord) (j : Job) (D : Den) (l : List (Nat × Word)) : State :=
  { up l with
    sett := { pkts := [(0, some (pk none [0] 0 false))] }
    dens := [(15, { D with jobs := [(thrKey lastThr, some j)], prog := [(16383, w)] })] }

/-- An instruction word by its fields. -/
def kWord (op d a b v x imm : Nat) : DWord :=
  BitVec.ofNat 64 (op * 2 ^ 56 + d * 2 ^ 51 + a * 2 ^ 46 + b * 2 ^ 41 + v * 2 ^ 40 + x * 2 ^ 32 + imm)

theorem wit_KolzenArithmetic :
    lastThr.wf = true ∧
    (∀ op ∈ [0x03, 0x04, 0x05, 0x06, 0x07, 0x08, 0x09, 0x0A],
      Issues (thr (kWord op 23 23 0 1 0 0xFFFFFFFF) (job0 none (dsc 0)) {} []) lastThr op (kWord op 23 23 0 1 0 0xFFFFFFFF) (job0 none (dsc 0)) ∧
      Issues (thr (kWord op 0 0 23 0 0 0) (job0 none (dsc 0)) {} []) lastThr op (kWord op 0 0 23 0 0 0) (job0 none (dsc 0))) ∧
    (∀ w ∈ [(0, kWord 0 0 0 0 0 0 0), (1, kWord 1 23 0 23 0 0 0), (1, kWord 1 23 0 0 1 0 1), (2, kWord 2 23 0 0 0 0 1),
        (0x0B, kWord 0x0B 0 23 23 0 0 0), (0x0C, kWord 0x0C 0 23 0 1 0 1), (0x0D, kWord 0x0D 23 23 0 0 0 0), (0x0E, kWord 0x0E 23 0 0 0 0 0)],
      Issues (thr w.2 (job0 none (dsc 0)) {} []) lastThr w.1 w.2 (job0 none (dsc 0))) := by
  decide +kernel

theorem wit_KolzenControl :
    let j := job0 none (dsc 0)
    let ok := fun (op : Nat) (w : DWord) => Issues (thr w j {} []) lastThr op w j
    (thr 0 j {} []).pkt j.pid = some (pk none [0] 0 false) ∧
    (ok 0x10 (kWord 0x10 0 0 0 0 0 127) ∧ fO (kWord 0x10 0 0 0 0 0 127) + fN (kWord 0x10 0 0 0 0 0 127) + 1 ≤ 128) ∧
    (ok 0x10 (kWord 0x10 0 0 0 0 0 255) ∧ 128 < fO (kWord 0x10 0 0 0 0 0 255) + fN (kWord 0x10 0 0 0 0 0 255) + 1) ∧
    (ok 0x11 (kWord 0x11 0 0 1 0 0 127) ∧ fO (kWord 0x11 0 0 1 0 0 127) + fN (kWord 0x11 0 0 1 0 0 127) + 1 ≤ 128 ∧ j.view.length = 128) ∧
    (ok 0x11 (kWord 0x11 0 0 1 0 0 255) ∧ 128 < fO (kWord 0x11 0 0 1 0 0 255) + fN (kWord 0x11 0 0 1 0 0 255) + 1) ∧
    ok 0x18 (kWord 0x18 0 0 0 0 14 16383) ∧
    (ok 0x30 (kWord 0x30 0 0 0 1 1 127) ∧ kImm (kWord 0x30 0 0 0 1 1 127) ≤ State.fieldMax 1) ∧
    (ok 0x30 (kWord 0x30 0 0 0 1 3 8) ∧ State.fieldMax 3 < kImm (kWord 0x30 0 0 0 1 3 8)) ∧
    (ok 0x31 (kWord 0x31 0 0 1 0 0 0) ∧ j.desc.pushn < 4) ∧ ok 0x38 (kWord 0x38 0 0 0 1 1 0xFFFFFFFF) ∧
    (ok 0x3F (kWord 0x3F 0 0 0 0 0 0) ∧ j.desc.actionSet = true ∧ j.desc.mcast = 0 ∧ j.desc.dest ≤ 127 ∧ State.outLen 64 j.desc ≠ 0) := by
  repeat' apply And.intro
  all_goals decide +kernel

theorem wit_KolzenControl_ends :
    let put := fun (d : Desc) => job0 none d
    (let j := put { dsc 0 with f := [0, 127, 0, 7, 0, 0, 0, 0, 0, 4, 0, 0, 0, 0] }
     Issues (thr (kWord 0x31 0 0 1 0 0 0) j {} []) lastThr 0x31 (kWord 0x31 0 0 1 0 0 0) j ∧ 4 ≤ j.desc.pushn) ∧
    (let j := put { dsc 1 with actionSet := false }
     Issues (thr (kWord 0x3F 0 0 0 0 0 0) j {} []) lastThr 0x3F (kWord 0x3F 0 0 0 0 0 0) j ∧ j.desc.actionSet = false) ∧
    (let j := put { dsc 0 with f := [0, 128, 0, 7, 0, 0, 0, 0, 0, 0, 0, 0, 0, 0] }
     Issues (thr (kWord 0x3F 0 0 0 0 0 0) j {} []) lastThr 0x3F (kWord 0x3F 0 0 0 0 0 0) j ∧ j.desc.action = 0 ∧ j.desc.mcast = 0 ∧
       127 < j.desc.dest) ∧
    ((thr 0 (put (dsc 0)) {} []).job lastThr = some (put (dsc 0)) ∧ (thr 0 (put (dsc 0)) {} []).due lastThr = true ∧
      (up []).job lastThr = none) ∧
    (let w := kWord 0x20 0 0 0 0 0 0
     (thr w (job0 (some ⟨w, {}, none⟩) (dsc 0)) {} []).job lastThr = some (job0 (some ⟨w, {}, none⟩) (dsc 0))) ∧
    (let s := thr 0 { put (dsc 0) with last := 1, ready := 2 } {} []
     (s.setJob ⟨15, 31, 0⟩ (some (put (dsc 0)))).due lastThr = false) ∧
    (let s := thr 0 (put (dsc 0)) {} [(R.DEN_REGION 15 1, 0x3FFE0000)]
     s.get (R.DEN_REGION 15 1) F.DEN_REGION_HI < (put (dsc 0)).pc) ∧
    (let s := thr 0 (put (dsc 0)) { badProg := [16383] } []
     s.get (R.DEN_REGION 15 1) F.DEN_REGION_LO ≤ 16383 ∧ 16383 ≤ s.get (R.DEN_REGION 15 1) F.DEN_REGION_HI ∧
       (s.den 15).badProg.contains 16383 = true) ∧
    (let s := thr 0xFF00000000000000 (put (dsc 0)) {} []
     (s.den 15).badProg.contains 16383 = false ∧ illegal ((s.den 15).prog.get dInstr 16383) = true) := by
  decide +kernel

/-- Table memory with descriptor T00 of a type, key length and count at base 1,024, and bytes there. -/
def table (ty keylen count : Byte) (body : List Byte) : Den :=
  { tbl := putBytes zeroByte (putBytes zeroByte [] 0 [ty, keylen, 0, 0, 16, 0, 0, 0, count, 0, 0, 0, 0, 0, 0, 0]) 1024 body }

/-- A meter operation on the last meter. -/
def metering (k : Meter) : State := thr (kWord 0x28 0 0 1 0 0 1023) (job0 none (dsc 0)) { meters := [(1023, k)] } []

theorem wit_KolzenResources :
    let j := job0 none (dsc 0)
    let ok := fun (op a : Nat) (D : Den) => Issues (thr (kWord op 0 a 0 0 0 0) j D []) lastThr op (kWord op 0 a 0 0 0 0) j ∧
      (D.badTab = [] ∧ D.sglTab = [])
    let free := fun (D : Den) (r n : Nat) => ((thr 0 j D []).den 15).slotFree r (((thr 0 j D []).den 15).nextCycle 31) n = true
    (let D := table 1 0 1 [1]
     ok 0x20 0 D ∧ (D.tdesc 0).ty = 1 ∧ free D 0 1 ∧ 0 < (D.tdesc 0).count ∧ bit (D.tbl.get zeroByte 1024).toNat 0 = true ∧ 8 ≤ (D.tdesc 0).esize) ∧
    (ok 0x20 1 (table 1 0 1 []) ∧ ((table 1 0 1 []).tdesc 0).count ≤ (j.reg 1).toNat) ∧
    (let D := table 2 16 0 (List.replicate 96 0 ++ [1])
     ok 0x21 0 D ∧ (D.tdesc 0).ty = 2 ∧ (D.tdesc 0).keylen ≤ 16 ∧ free D 0 2 ∧
     (State.buckets (D.tdesc 0) (List.replicate 16 0)).1 = 0 ∧ bit (D.tbl.get zeroByte (1024 + 32 * 3)).toNat 0 = true ∧
     D.tblBytes (1024 + 32 * 3 + 8) 16 = List.replicate 16 0 ∧ ∀ i, i < 3 → bit (D.tbl.get zeroByte (1024 + 32 * i)).toNat 0 = false) ∧
    (ok 0x21 0 (table 2 16 0 []) ∧ ∀ i, i < 4 → bit ((table 2 16 0 []).tbl.get zeroByte (1024 + 32 * i)).toNat 0 = false) ∧
    (ok 0x22 0 (table 3 0 0 []) ∧ ((table 3 0 0 []).tdesc 0).ty = 3 ∧ ((table 3 0 0 []).tdesc 0).count = 0) ∧
    (let D := table 3 0 1 [1]
     ok 0x22 0 D ∧ (D.tdesc 0).count = 1 ∧ free D 0 1 ∧ leNat (D.tblBytes 1032 8) = 0 ∧ leNat (D.tblBytes 1040 8) = 0) ∧
    (ok 0x22 0 (table 3 0 1 [1, 0, 0, 0, 0, 0, 0, 0, 1]) ∧ leNat ((table 3 0 1 [1, 0, 0, 0, 0, 0, 0, 0, 1]).tblBytes 1032 8) = 1) ∧
    (let D := table 4 20 1 [1]
     ok 0x23 0 D ∧ (D.tdesc 0).ty = 4 ∧ free D 1 1 ∧ bit (D.tbl.get zeroByte 1024).toNat 0 = true ∧ (D.rows.get dRow 0).mask = 0) ∧
    (ok 0x23 0 (table 4 20 0 []) ∧ ((table 4 20 0 []).tdesc 0).count = 0) ∧
    (ok 0x20 0 (table 2 0 1 []) ∧ ((table 2 0 1 []).tdesc 0).ty ≠ 1) ∧
    (let D := { table 1 0 1 [] with waitq := [(0, [(0, 5)])] }
     ok 0x20 0 D ∧ ((thr 0 j D []).den 15).slotFree 0 (((thr 0 j D []).den 15).nextCycle 31) 1 = false) := by
  repeat' apply And.intro
  all_goals decide +kernel

/-- A hash table of 16 buckets with one entry, key 0, in way 0 of the key's second bucket. -/
def hashed : Den :=
  let D := table 2 8 4 []
  { D with tbl := putBytes zeroByte D.tbl (1024 + 32 * ((State.buckets (D.tdesc 0) (List.replicate 8 0)).2 * 4)) [1] }

theorem wit_KolzenResources_searches :
    let j := job0 none (dsc 0)
    let ok := fun (op a : Nat) (D : Den) => Issues (thr (kWord op 0 a 0 0 0 0) j D []) lastThr op (kWord op 0 a 0 0 0 0) j ∧
      (D.badTab = [] ∧ D.sglTab = [])
    (ok 0x21 0 hashed ∧ (hashed.tdesc 0).keylen ≤ 16 ∧
      (let b := State.buckets (hashed.tdesc 0) (List.replicate 8 0)
       (∀ i, i < 4 → bit (hashed.tbl.get zeroByte (1024 + 32 * (b.1 * 4 + i))).toNat 0 = false) ∧
       bit (hashed.tbl.get zeroByte (1024 + 32 * (b.2 * 4))).toNat 0 = true ∧ hashed.tblBytes (1024 + 32 * (b.2 * 4) + 8) 8 = List.replicate 8 0)) ∧
    (let D := table 3 0 2 [1]
     ok 0x22 0 D ∧ leNat (D.tblBytes 1032 8) = 0 ∧ 2 ≤ (D.tdesc 0).count) ∧
    (let D := table 3 0 3 (List.replicate 40 0 ++ [1])
     ok 0x22 0 D ∧ leNat (D.tblBytes (1024 + 32 + 8) 8) = 1 ∧ 3 ≤ (D.tdesc 0).count) ∧
    (let D := { table 3 0 1 [] with used := [(0, (0, 8))] }
     ok 0x22 0 D ∧ ((thr 0 j D []).den 15).slotFree 0 (((thr 0 j D []).den 15).nextCycle 31) 1 = false) := by
  decide +kernel

theorem wit_KolzenResources_meters :
    let j := job0 none (dsc 0)
    let w := kWord 0x28 0 0 1 0 0 1023
    (Issues (metering {}) lastThr 0x28 w j ∧ ((metering {}).den 15).slotFree 2 (((metering {}).den 15).nextCycle 31) 1 = true ∧ (((metering {}).den 15).meters.get dMeter 1023).unl = true) ∧
    (let k := ((metering { unl := false, pbs := 1, cbs := 1, tp := 8000, tc := 8000 }).den 15).meters.get dMeter 1023
     k.unl = false ∧ 8000 * ((j.reg (kB w)).toNat % 2 ^ 24) ≤ min (mantExp k.cbs * 8000) k.tc ∧ 8000 ≤ min (mantExp k.pbs * 8000) k.tp) ∧
    (let k := ((metering { unl := false, pbs := 1, cbs := 1, tp := 8000, tc := 7999 }).den 15).meters.get dMeter 1023
     k.unl = false ∧ 8000 ≤ min (mantExp k.pbs * 8000) k.tp ∧ min (mantExp k.cbs * 8000) k.tc < 8000) ∧
    (let k := ((metering { unl := false, pbs := 1, cbs := 1, tp := 7999 }).den 15).meters.get dMeter 1023
     k.unl = false ∧ min (mantExp k.pbs * 8000) k.tp < 8000) ∧
    (Issues (thr (kWord 0x28 0 0 0 0 0 1024) j {} []) lastThr 0x28 (kWord 0x28 0 0 0 0 0 1024) j ∧ 1023 < kImm (kWord 0x28 0 0 0 0 0 1024)) ∧
    (let w := kWord 0x29 0 0 0 0 0 (65536 + 8191)
     Issues (thr w j {} []) lastThr 0x29 w j ∧ kImm w % 65536 = 8191 ∧
     Issues (thr w j { post := List.replicate 64 (0, 1) } []) lastThr 0x29 w j) ∧
    (let w := kWord 0x29 0 0 0 0 0 8192
     Issues (thr w j {} []) lastThr 0x29 w j ∧ 8191 < kImm w % 65536) ∧
    (let D : Den := { post := [(8191, 1)] }
     ((thr 0 j D []).den 15).post = [(8191, 1)] ∧ ((thr 0 j {} []).den 15).post = [] ∧ ((thr 0 j {} []).den 15).waitq.get dNil 3 = []) ∧
    (let D := { table 1 0 0 [] with waitq := [(0, [(7, thrKey lastThr)])] }
     let w := kWord 0x20 0 0 0 0 0 0
     let s := thr w (job0 (some ⟨w, D.tdesc 0, none⟩) (dsc 0)) D []
     (s.den 15).inTurn 7 (thrKey lastThr) = true ∧
     (s.setJob ⟨15, 0, 0⟩ (some (job0 none (dsc 0)))).job ⟨15, 0, 0⟩ = some (job0 none (dsc 0)) ∧
     ((s.setJob ⟨15, 0, 0⟩ (some (job0 none (dsc 0)))).den 15).inTurn 7 (thrKey lastThr) = false ∧
     (s.den 15).waitq.get dNil 0 = [(7, thrKey lastThr)] ∧ s.job lastThr = some (job0 (some ⟨w, D.tdesc 0, none⟩) (dsc 0)) ∧ kOp w = 0x20 ∧ kD w < 15 ∧
       (D.tdesc 0).count ≤ 0 ∧ (D.tdesc 0).esize < 16) ∧
    (∀ n ∈ [63, 64], let w := kWord 0x29 0 0 0 0 0 0
     let s := thr w (job0 (some ⟨w, {}, none⟩) (dsc 0)) { post := List.replicate n (0, 1), waitq := [(3, [(7, thrKey lastThr)])] } []
     (s.den 15).waitq.get dNil 3 = [(7, thrKey lastThr)] ∧ (s.den 15).inTurn 7 (thrKey lastThr) = true ∧ s.job lastThr = some (job0 (some ⟨w, {}, none⟩) (dsc 0)) ∧
       (s.den 15).post.length = n) := by
  repeat' apply And.intro
  all_goals decide +kernel

/-- Den 15 with packet 0 waiting and every thread but the last of the first `n` busy. -/
def waiting (n : Nat) (en : Word) : State :=
  { up [(R.DEN_VEC 15 0 0, en)] with
    sett := { pkts := [(0, some (pk none [0] 0 false))] }
    dens := [(15, { prio := [0], jobs := (upTo n).map fun i => (i, some (job0 none (dsc 0))) })] }

theorem wit_JobDispatch :
    (let s := waiting 127 0x80000000
     s.live ∧ (s.den 15).prio ++ (s.den 15).norm = [0] ∧ (s.den 15).spill = [] ∧ (s.den 15).spillP = [] ∧ s.pkt 0 = some (pk none [0] 0 false) ∧
     s.on R.TEL_SPOOR_CFG F.TEL_SPOOR_CFG_EN = false ∧ (s.den 15).job (31 * 4 + 3) = none ∧ s.on (R.DEN_VEC 15 0 0) F.DEN_VEC_EN = true ∧
     s.get (R.DEN_PROG_CTL 15) F.DEN_PROG_CTL_SEL = 0) ∧
    (waiting 127 0).on (R.DEN_VEC 15 0 0) F.DEN_VEC_EN = false ∧
    (∀ k, k < 128 → ((waiting 128 0).den 15).job k ≠ none) := by
  decide +kernel

/-- The table writer with a queue, at a stage. -/
def writer (q : List TblCmd) (stage : Nat) (l : List (Nat × Word)) : State := { up l with tblw := { q := q, stage := stage } }

/-- What the writer refuses of the descriptors that a 16-byte write at an offset would change. -/
def descRefused (s : State) (off len : Nat) (bs : List Byte) : Bool :=
  (upTo 64).any fun n => decide (16 * n < off + len) && decide (off < 16 * n + 16) &&
    descBad (tdescOf (bytesAt zeroByte (putBytes zeroByte s.futureMaster off bs) (16 * n) 16))

theorem wit_TableWriter :
    let v : Word := 0x80000003
    (let s := writer (List.replicate 63 (.switch 1)) 0 [(R.TBL_WR_ADDR, 0x1FFFC0)]
     s.takes 0 R.TBL_WR_CMD v ∧ fldOf v F.TBL_WR_CMD_GO = 1 ∧ fldOf v F.TBL_WR_CMD_LEN = 3 ∧ s.get R.TBL_WR_ADDR F.TBL_WR_ADDR_OFFSET * 8 = 0x1FFFC0 ∧
     0x1FFFC0 % 64 = 0 ∧ s.tblw.q.length < 64) ∧
    (writer (List.replicate 64 (.switch 1)) 0 []).tblw.q.length = 64 ∧
    (let s := writer [] 0 [(R.TBL_WR_ADDR, 8), (R.TBL_WR_DATA 0, 7)]
     s.get R.TBL_WR_ADDR F.TBL_WR_ADDR_OFFSET * 8 % 16 ≠ 0 ∧ fldOf 0x80000001 F.TBL_WR_CMD_LEN = 1) ∧
    (descRefused (writer [] 0 []) 0 16 (7 :: List.replicate 15 0) = true ∧ descRefused (writer [] 0 []) 0 16 (List.replicate 16 0) = false) ∧
    (let s := writer [] 0 [(R.TBL_PLOAD_DST, 16383)]
     s.takes 0 R.TBL_PLOAD_CMD 0x80008000 ∧ fldOf 0x80008000 F.TBL_PLOAD_CMD_GO = 1 ∧
     s.get R.TBL_PLOAD_DST F.TBL_PLOAD_DST_DST + (s.get R.TBL_PLOAD_DST F.TBL_PLOAD_DST_COUNT_M1 + 1) ≤ 16384 ∧
     s.takes 0 R.TBL_PSWITCH 0x80008000 ∧ fldOf 0x80008000 F.TBL_PSWITCH_GO = 1) ∧
    (let s := writer [] 0 [(R.TBL_PLOAD_DST, 0x13FFF)]
     16384 < s.get R.TBL_PLOAD_DST F.TBL_PLOAD_DST_DST + (s.get R.TBL_PLOAD_DST F.TBL_PLOAD_DST_COUNT_M1 + 1) ∧ s.tblw.answers = []) ∧
    ((writer [.entry 0 [1] none] 15 []).denOn 14 = true ∧ ({ writer [.entry 0 [1] none] 15 [] with regs := [] } : State).denOn 14 = false) ∧
    (let s := writer [.load 0 16383 1 0x8000] 0 [(R.DEN_REGION 15 0, 0x3FFE0000)]
     s.get (R.DEN_PROG_CTL 15) F.DEN_PROG_CTL_SEL = 0 ∧ s.get (R.DEN_REGION 15 0) F.DEN_REGION_HI < 16383 ∧ s.denOn 15 = true) ∧
    (let s := writer [.load 0 16383 1 0x8000] 0 []
     s.get (R.DEN_REGION 15 0) F.DEN_REGION_HI = 16383 ∧ s.get (R.DEN_REGION 15 0) F.DEN_REGION_LO < 16384) ∧
    (let s := writer [.switch 0x8000] 31 []
     s.tblw.stage = 2 * 15 + 1 ∧ s.on (R.DEN_PROG_STAT 15) F.DEN_PROG_STAT_DRAINED = true) ∧
    ((writer [.switch 0x8000] 31 [(R.DEN_PROG_STAT 15, 1)]).on (R.DEN_PROG_STAT 15) F.DEN_PROG_STAT_DRAINED = false) := by
  repeat' apply And.intro
  all_goals decide +kernel

theorem wit_TableWriter_fence :
    let s : State := { writer [.entry 0 [1] none] 0 [] with tblw := { q := [.entry 0 [1] none], acc := 1 } }
    let x := (up []).fenceRd 0 R.TBL_FENCE .word [] []
    let y := s.fenceRd 0 R.TBL_FENCE .word [] []
    (up []).readOk 0 R.TBL_FENCE ∧ (up []).fenceMet [] x = true ∧ s.fenceMet [] y = false ∧ s.readOk 0 R.TBL_FENCE ∧ s.tblw.fences = [] ∧
    s.pending = [] ∧ s.tblw.answers = [] ∧ s.fab.slew = 0 ∧ y.via = .word := by
  decide +kernel

/-- Master 6 may read the words of a load. -/
theorem wit_TableWriter_load :
    let s := writer [.load 0 16383 1 0x8000] 0 []
    s.nightShut 6 = false ∧ ∀ p ∈ State.chunksOf 0 8, s.checkAcc { Acc.word 6 false (0x1000000 + p.1) 0 with size := p.2 } = none := by
  decide +kernel

theorem wit_TableWriter_master :
    let s := writer [.entry 4096 [1] none] 0 []
    let w := { s with tblw := { s.tblw with master := putBytes zeroByte s.tblw.master 4096 [1], stage := 1 } }
    s.tblw.answers = [] ∧ s.tblw.stage = 0 ∧ w.vfMap = s.vfMap ∧ w.vfIgnored = s.vfIgnored := by
  decide +kernel

theorem wit_DenRegisters :
    let s := up []
    s.takes 0 (R.DEN_PROG_CTL 15) 1 ∧ (s.takes 0 (R.DEN_MTR_IDX 15) 0xA00003FF ∧ fldOf 0xA00003FF F.DEN_MTR_IDX_GO = 1) ∧
    (s.takes 0 (R.DEN_MTR_IDX 15) 0x400003FF ∧ fldOf 0x400003FF F.DEN_MTR_IDX_GO = 0 ∧ fldOf 0x400003FF F.DEN_MTR_IDX_READ = 1) ∧
    (s.takes 0 (R.DEN_CTR_IDX 15) 0xC0001FFF ∧ fldOf 0xC0001FFF F.DEN_CTR_IDX_SNAP = 1 ∧ fldOf 0xC0001FFF F.DEN_CTR_IDX_IDX = 8191) := by
  decide +kernel

theorem wit_HeadersReadBack :
    (4095 < 4096 ∧ 65535 < 65536 ∧ 31 < 32) ∧ ((List.replicate 252 (0 : Byte)).length ≤ 252) := by decide +kernel

/-- Device 9, a worker of manager 7 in epoch 3; `mgr` further sets MGT_FAB_MGR. -/
def worker (f : Fab) (mgr : Nat) (l : List (Nat × Word)) : State :=
  { up ([(R.GLB_MODE, 4), (R.MGT_FAB_ID, 0x109), (R.MGT_FAB_MGR, BitVec.ofNat 32 (0x30807 + mgr))] ++ l) with fab := f }

/-- A control message of device `src` with a role, in epoch 3. -/
def ctlMsg (src role opc : Nat) (rsp : Bool) (body : List Byte) : List Byte :=
  (W [(R.MGT_FAB_ID, BitVec.ofNat 32 (256 + src + 512 * role)), (R.MGT_FAB_MGR, 0x30007)]).ctlBytes opc rsp false 5 body

/-- Such a message as it is read. -/
def ctlIn (src role opc : Nat) (rsp : Bool) (body : List Byte) : CtlMsg := ⟨opc, rsp, false, 5, src, role, 3, 1, body⟩

theorem wit_FabricWorker_messages :
    (∀ x ∈ [(7, 0x01, false, 20), (6, 0x01, false, 20), (7, 0x10, false, 4), (7, 0x11, false, 0), (7, 0x11, true, 0), (7, 0x12, false, 8), (7, 0x12, true, 4),
        (7, 0x20, false, 8), (7, 0x21, false, 12), (7, 0x22, false, 72), (6, 0x20, false, 8), (6, 0x21, false, 8), (6, 0x22, false, 8),
        (7, 0x30, true, 0), (8, 0x40, false, 4), (6, 0x40, false, 4), (7, 0x7F, false, 0)],
      ctlParse (ctlMsg x.1 1 x.2.1 x.2.2.1 (List.replicate x.2.2.2 1)) = some (ctlIn x.1 1 x.2.1 x.2.2.1 (List.replicate x.2.2.2 1))) ∧
    ctlParse [1, 2, 3] = none ∧ ctlKnown 0x7F = false := by
  decide +kernel

theorem wit_FabricWorker :
    (let s := worker {} 0 []
     s.mode = 4 ∧ s.fromMgr (ctlIn 7 1 1 false []) = true ∧ s.fromMgr (ctlIn 6 1 1 false []) = false ∧
     s.fab.lastAlive = none ∧ s.on R.MGT_FAB_EVQ F.MGT_FAB_EVQ_HELD = false ∧ s.fab.exch = none ∧ s.fabUp 1 = false ∧ s.fabIdValid = true ∧
     s.fab.relays = [] ∧ s.mgrId = 7 ∧ s.get R.MGT_FAB_MGR F.MGT_FAB_MGR_STBY_ID = 8 ∧ s.fab.evq = [] ∧
     s.wordsHold 10 0x01010101 1 = none ∧
     s.checkAcc (.word 10 true R.TBL_WR_CMD 0) = none ∧ s.powered R.TBL_WR_CMD = true ∧ s.tblw.q.length < 64) ∧
    (let s := worker { exch := some (100, 250, 260) } 0 []
     s.fab.exch = some (100, 250, 260) ∧ s.on R.MGT_FAB_TIME F.MGT_FAB_TIME_EN = true ∧
     clampTo 1 1000 (s.get R.MGT_FAB_TIME F.MGT_FAB_TIME_RTT_MAX) = 20 ∧ ((400 : Int) - 100) - (260 - 250) ≤ 100 * 20 ∧
     (((250 : Int) - 100) - (400 - 260)).natAbs / 2 ≤ 10000) ∧
    (((200 : Int) - 100) - (30110 - 30100) ≤ 100 * 20 ∧ 10000 < (((30100 : Int) - 100) - (200 - 30110)).natAbs / 2) ∧
    (let s : State := { worker {} 0 [(R.GRP_LINK_STAT 0 1, 3)] with samp := [(1, 0xF00B)] }
     s.fabUp 1 = true) ∧
    (let s := worker { relays := [⟨127, 0x11, 5, 7, 1, none⟩] } 0 []
     s.fab.relays.find? (fun r => r.port == 127 && r.tag == 5 && r.opc == 0x11) = some ⟨127, 0x11, 5, 7, 1, none⟩) ∧
    (worker {} 0 [(R.MGT_FAB_ID, 9)]).fabIdValid = false ∧ (worker {} 0 [(R.MGT_FAB_ID, 0x101)]).ownId = 1 ∧
    (worker { evTags := [(5, 0)] } 0 []).fab.evTags.find? (fun y => y.1 == 5) = some (5, 0) ∧
    (let s := worker { evq := [[]], resends := 8 } 0 []
     s.fab.evq = [[]] ∧ s.on R.MGT_FAB_EVQ F.MGT_FAB_EVQ_HELD = false ∧ s.on R.MGT_FAB_MGR F.MGT_FAB_MGR_MGR_LOST = false ∧ 8 ≤ s.fab.resends) ∧
    (worker { evq := [[]], resends := 7 } 0 []).fab.resends < 8 ∧
    ((worker {} 0x2000000 []).on R.MGT_FAB_MGR F.MGT_FAB_MGR_MGR_LOST = true ∧ epochAfter 3 2 = true) := by
  repeat' apply And.intro
  all_goals decide +kernel

/-- An ASSIGN of another id that came to this device's own id by port 1, and a CSR_READ of a fence that is not met. -/
theorem wit_FabricWorker_handed :
    (let m := ctlMsg 7 1 0x12 false (List.replicate 8 1)
     let s := worker {} 0 []
     ∀ x ∈ [9, 1], (({ s with sett := { ctlIn := [(1, x, m)] } } : State).ctlHit (some 1) m).map (·.2.1) = some x ∧ s.ownId = 9) ∧
    (let s : State := { worker {} 0 [] with tblw := { q := [.entry 4096 [1] none], acc := 1 } }
     (s.wordsHold 10 R.TBL_FENCE 1).isSome = true) ∧
    (isAfter 1 0 = true ∧ ctlAnswers.contains 0x20 = false ∧
      ctlParse (ctlMsg 7 1 0x20 true (List.replicate 4 0)) = some (ctlIn 7 1 0x20 true (List.replicate 4 0))) := by
  repeat' apply And.intro
  all_goals decide +kernel

theorem wit_FabricWorker_ticks :
    (let s : State := { worker {} 0 [] with now := 9999999 }
     (s.now / 1000000 + 1) * 1000000 = 10000000 ∧
     s.fab.missAt + 1000000 * clampTo 1 1000 (s.get R.MGT_FAB_CFG F.MGT_FAB_CFG_HB_PERIOD) = 10000000 ∧
     s.get R.MGT_FAB_MGR F.MGT_FAB_MGR_MISSES = 0 ∧ max 1 (s.get R.MGT_FAB_CFG F.MGT_FAB_CFG_HB_MISS) = 3) ∧
    ({ worker {} 0 [] with now := 8999999 } : State).now / 1000000 + 1 < 10 ∧
    (let s : State := { worker {} 0x8000000 [(R.MGT_FAB_ID, 0x309)] with now := 9999999 }
     s.get R.MGT_FAB_MGR F.MGT_FAB_MGR_MISSES = 2 ∧ s.on R.MGT_FAB_MGR F.MGT_FAB_MGR_MGR_LOST = false ∧
     s.get R.MGT_FAB_ID F.MGT_FAB_ID_ROLE = 1 ∧ s.transiting = false) := by
  decide +kernel

/-- The part as manager 7 in epoch 3. -/
def manager (f : Fab) (l : List (Nat × Word)) : State :=
  { up ([(R.GLB_MODE, 5), (R.MGT_FAB_ID, 0x507), (R.MGT_FAB_MGR, 0x30807)] ++ l) with fab := f }

theorem wit_FabricManager :
    let k := ctlIn 9 0 0x01 true []
    (let s := manager { hbSent := [(9, 5)] } []
     s.mode = 5 ∧ s.transiting = false ∧ epochAfter k.epoch s.epoch = false ∧ k.role ≠ 2 ∧ ctlParse (ctlMsg 9 0 0x01 true []) = some k ∧
     s.fab.hbSent.contains (k.src, k.tag) = true ∧ s.fab.listening = false ∧ s.fab.answered = []) ∧
    ((manager {} []).fab.hbSent.contains (k.src, k.tag) = false ∧ (manager { listening := true } []).fab.listening = true) ∧
    (let s : State := { manager { hbSent := [(9, 5)], answered := [9] } [] with cmem := [(32 * 9, 2)] }
     s.fab.hbSent = [(9, k.tag)] ∧ s.fab.answered = [9] ∧ s.ownId ≠ 9 ∧
       ∀ j, j < 256 → j ≠ s.ownId → (1 ≤ fieldAt (s.cmemBytes (s.dirOff j + 0) 1) 0 1 ∧ fieldAt (s.cmemBytes (s.dirOff j + 0) 1) 0 1 ≤ 3 ↔ j = 9)) ∧
    (let e := ctlIn 9 0 0x30 false (List.replicate 48 0)
     let s := manager {} [(R.MGT_FAB_HOST, 0x1F)]
     ctlParse (ctlMsg 9 0 0x30 false (List.replicate 48 0)) = some e ∧ 48 ≤ e.body.length ∧ s.fab.held.get dNil 9 = [] ∧
     (fieldAt e.body 2 2 + 65536 - (s.nextSeq 9).2) % 65536 = 0 ∧ s.on R.MGT_FAB_HOST F.MGT_FAB_HOST_EN = true ∧ (s.dom 15).evq.length < 256) ∧
    (let e := ctlIn 9 0 0x30 false ([0, 0, 0xFF, 0x7F] ++ List.replicate 44 0)
     ctlParse (ctlMsg 9 0 0x30 false ([0, 0, 0xFF, 0x7F] ++ List.replicate 44 0)) = some e ∧ fieldAt e.body 2 2 = 32767) ∧
    (let e := ctlIn 9 0 0x30 false ([0, 0, 0, 0x80] ++ List.replicate 44 0)
     ctlParse (ctlMsg 9 0 0x30 false ([0, 0, 0, 0x80] ++ List.replicate 44 0)) = some e ∧ fieldAt e.body 2 2 = 32768) := by
  repeat' apply And.intro
  all_goals decide +kernel

/-- The unit reaches the record of device 9, and a message of another manager makes this one step down. -/
theorem wit_FabricManager_reach :
    let s := manager {} []
    (s.nightShut 7 = false ∧ s.asleep 6 = false ∧
      ∀ x ∈ [(false, 0, 32), (true, 0, 1), (true, 2, 1), (true, 4, 4), (true, 16, 2)],
        s.checkAcc { Acc.word 7 x.1 (0x1000000 + (s.dirOff 9 + x.2.1)) 0 with size := x.2.2 } = none) ∧
    (ctlIn 9 2 0x01 true []).role = 2 ∧ (ctlIn 9 2 0x01 true []).src ≠ s.ownId := by
  decide +kernel

/-- It reads every record. -/
theorem wit_FabricManager_scans :
    let s := manager {} []
    let ok := fun (j : Nat) => s.dirOff j + 32 ≤ 0x1000000 ∧ s.checkAcc { Acc.word 7 false (0x1000000 + s.dirOff j) 0 with size := 32 } = none
    (∀ j, j < 128 → ok j) ∧ ∀ j, j < 128 → ok (128 + j) := by
  refine ⟨?_, ?_⟩ <;> decide +kernel

/-- The part in fabric mode as device 9, host domain 15 running with its DMF on, slice 4095 of it active with a use of 0 and quotas
of 64, window 65535 open for reading, writing and notifying with 2 pages; registers of the list replace these. -/
def engine (w : Wen) (l : List (Nat × Word)) : State :=
  { up ([(R.GLB_MODE, 4), (R.MGT_FAB_ID, 0x109), (R.GLB_HD_STAT 15, 6), (R.SLC_STATE 4095, 1), (R.SLC_ID 4095, 15),
      (winReg 65535 R.WEN_WIN_CTL, 0x3B), (winReg 65535 R.WEN_WIN_OWNER, 15), (winReg 65535 R.WEN_WIN_LEN_LO, 1)] ++ l) with
    wen := { w with quota := [(4095 * 4, 64), (4095 * 4 + 1, 64), (4095 * 4 + 2, 64)] } }

/-- The records of send queue 32767 (producer 1, consumer 0) and of completion queue 32767, both of slice 4095 and enabled. -/
def queues (ci : Nat) : Tab (List Byte) :=
  [(32767, [0, 0, 0, 0, 0, 0, 0, 0, 0x86, 0xFF, 0x0F, 0, 0, 0, 0xFF, 0x7F, 1, 0, BitVec.ofNat 8 ci, 0]),
   (98303, [0, 0, 0, 0, 0, 0, 0, 0, 0x84, 0xFF, 0x0F, 0, 0, 0, 0, 0])]

/-- A work queue element on local window 65535 to window 65535 of a device. -/
def wqe (opc flags gen dev len pad : Nat) : List Byte :=
  leBytes 4 (opc + flags * 256 + 7 * 65536) ++ leBytes 4 0 ++ leBytes 8 5 ++ leBytes 4 (65535 + gen * 65536) ++ leBytes 4 0 ++ leBytes 8 0
    ++ leBytes 4 (65535 + dev * 65536) ++ leBytes 4 0 ++ leBytes 8 0 ++ leBytes 4 len ++ leBytes 12 pad

theorem wit_RemoteSource_elements :
    let s := engine { ctx := queues 0 } []
    let chk := fun (s : State) (b : List Byte) =>
      s.winCheck (fieldAt b 16 2) (fieldAt b 18 1) none (if fieldAt b 0 1 = 3 then 1 else 3) (fieldAt b 24 6) (fieldAt b 48 4) false true
    (s.Tidy ∧ s.live ∧ (wqe 1 0 0 9 1 0).length = 64 ∧ masterOk 10 = true) ∧ s.canFetch 32767 = true ∧
    (engine { ctx := queues 1 } []).canFetch 32767 = false ∧ State.wqeBad (wqe 1 0 0 9 0 0) = true ∧ State.wqeBad (wqe 1 0 0 9 1 1) = true ∧
    (∀ b ∈ [wqe 1 0 0 9 1 0, wqe 1 2 0 9 8192 0, wqe 2 3 0 9 1 0, wqe 3 0 0 9 8192 0], State.wqeBad b = false ∧ chk s b = 0 ∧
      s.win 65535 R.WEN_WIN_PROT F.WEN_WIN_PROT_PDOM = s.ctxGet 0 32767 12 2 % 4096 ∧ s.reachable (fieldAt b 34 1) = true) ∧
    chk s (wqe 1 0 0 9 8193 0) ≠ 0 ∧ chk s (wqe 1 0 1 9 1 0) ≠ 0 ∧
    (engine {} [(winReg 65535 R.WEN_WIN_PROT, 4095)]).win 65535 R.WEN_WIN_PROT F.WEN_WIN_PROT_PDOM = 4095 ∧
    (let t := engine { ctx := queues 0 } [(R.GLB_MODE, 3)]
     t.canFetch 32767 = true ∧ t.reachable 10 = false ∧ t.reachable 9 = true) := by
  repeat' apply And.intro
  all_goals decide +kernel

/-- A packet of one cell that waits at the shaper of slice 4095. -/
def shp1 : Shp := ⟨List.replicate 36 0, 0, none⟩

theorem wit_RemoteSource_shaper :
    (let s := engine { shq := [(4095, [shp1])], shp := [(4095, { rate := 1, burst := 1, en := true })] } []
     s.Tidy ∧ s.wen.shq.get dNil 4095 = [shp1] ∧ s.shpReady 4095 shp1 = true ∧ s.slcState 4095 = 1 ∧
     ((s.shaper 4095).grown s.now).en = true) ∧
    (let s := engine { shq := [(4095, [shp1])], shp := [(4095, { en := true, tok := -1 })] } []
     s.shpReady 4095 shp1 = false) ∧
    (engine {} [(R.SLC_STATE 4095, 2)]).slcState 4095 = 2 ∧
    (let s := engine { shq := [(4095, [shp1])] } [(R.SLC_STATE 4095, 3)]
     ¬ (s.slcState 4095 = 1 ∨ s.slcState 4095 = 2)) := by
  repeat' apply And.intro
  all_goals decide +kernel

/-- A message of send queue 32767 to window 65535 of device 9. -/
def msg1 (opc len : Nat) : Msg :=
  { inc := 255, why := .wqe 32767, opc := opc, sig := false, fence := false, tc := 7, imm := 0, wrId := 5, lwin := 65535, loff := 0
    rwin := 65535 + 9 * 65536, rkey := 0, roff := 0, len := len, slice := 4095, cq := 32767, pdom := 0, no := 0 }

/-- The engine with that message in slot 65535. -/
def withMsg (m : Msg) (w : Wen) (l : List (Nat × Word)) : State := engine { w with msgs := [(65535, some m)] } l

theorem wit_RemoteSource_send :
    let r := msg1 3 8192
    (let s := withMsg r {} []
     let pkt : Shp := ⟨s.reqPacket 65535 r 0 (s.choosePath 9 65535).1 false, 0, none⟩
     s.Tidy ∧ s.msg 65535 = some r ∧ r.slice < 4096 ∧ s.apFull r = false ∧ s.fenced r = false ∧ r.next < packetsOf r ∧ r.next < State.cancelPkt ∧
     State.unanswered r < 1024 ∧ s.slcState 4095 = 1 ∧ s.wen.excl.get dNil (dstOf r) = [] ∧
     (∀ q, q < 4 → s.wen.skip.get dZero (dstOf r * 4 + q) = 0) ∧ (s.wen.shq.get dNil 4095).isEmpty = true ∧ s.shpReady 4095 pkt = true) ∧
    (let m := { msg1 1 1 with mcrc := some 0, data := [(0, [7])] }
     let s := withMsg m { shq := [(4095, [shp1])] } []
     s.msg 65535 = some m ∧ s.apFull m = false ∧ s.fenced m = false ∧ m.next < packetsOf m ∧ m.mcrc.isSome = true ∧ (s.wen.shq.get dNil 4095).isEmpty = false) := by
  repeat' apply And.intro
  all_goals decide +kernel

theorem wit_RemoteSource_window : (∀ m, (withMsg m {} []).msg 65535 = some m) ∧
    State.unanswered { msg1 3 8192 with pk := (List.range 1024).map fun k => (k, { st := 2 }) } = 1024 := by
  exact ⟨fun _ => rfl, by decide +kernel⟩

/-- A fabric packet with its check. -/
def fabPkt (h : FabHdr) (payload : List Byte) : FabPkt :=
  ⟨BitVec.ofNat 256 (fabHdrNat h), payload, BitVec.ofNat 32 (crc32c (leBytes 32 (fabHdrNat h) ++ payload))⟩

/-- The header of an answer of device 9 to the message of slot 65535. -/
def ansHdr (opc key pidx mcrc : Nat) : FabHdr :=
  { dst := 9, src := 9, opc := opc, cls := 2, tc := 7, slice := 4095, path := 3, msg := 65535 + 255 * 65536, win := 65535, key := key, woff := 0
    pidx := pidx, mlen := 0, mcrc := mcrc }

/-- What an answer must meet, and what it answers. -/
def comes (s : State) (p : FabPkt) : Bool := s.wen.inq.isEmpty && State.pktCrcOk p && !State.badHeader p && decide (p.payload.length ≤ 4096)

theorem wit_RemoteSource_answers :
    let s := withMsg (msg1 1 1) {} []
    (∀ p ∈ [fabPkt (ansHdr 5 256 0 0) [], fabPkt (ansHdr 5 0 0 0) [], fabPkt (ansHdr 6 1 0 0) [], fabPkt (ansHdr 6 14 0 0) []],
      comes s p = true ∧ s.answered (fabHdrOf p.hdr.toNat) = some (65535, msg1 1 1)) ∧
    (fabPkt (ansHdr 5 256 0 0) []).isOpc 5 = true ∧ (fabPkt (ansHdr 6 1 0 0) []).isOpc 6 = true ∧
    (fabHdrOf (fabPkt (ansHdr 6 1 0 0) []).hdr.toNat).key % 256 = 1 ∧ (fabHdrOf (fabPkt (ansHdr 6 14 0 0) []).hdr.toNat).key % 256 = 14 ∧
    (let m := { msg1 1 1 with pk := [(0, { st := 2, naks := 63 })] }
     (withMsg m {} []).msg 65535 = some m ∧ 64 ≤ (State.txPkt m 0).naks + 1) ∧ (State.txPkt (msg1 1 1) 0).naks + 1 < 64 ∧
    (let p := fabPkt (ansHdr 7 0 0 (crc32c [7])) [7]
     let m := msg1 3 1
     let t := withMsg m {} []
     let u := withMsg m {} [(winReg 65535 R.WEN_WIN_CTL, 0x2B)]
     let c := fun (x : State) => x.winCheck (m.lwin % 65536) (m.lwin / 65536) none 1 m.loff m.len false true
     comes t p = true ∧ t.answered (fabHdrOf p.hdr.toNat) = some (65535, m) ∧ p.isOpc 7 = true ∧ (fabHdrOf p.hdr.toNat).pidx < packetsOf m ∧
     p.payload.length = min 4096 (m.len - 4096 * (fabHdrOf p.hdr.toNat).pidx) ∧ crc32c p.payload = (fabHdrOf p.hdr.toNat).mcrc ∧
     (State.txPkt m 0).st ≠ 4 ∧ c t = 0 ∧ c u ≠ 0 ∧ comes u p = true) ∧
    (let p := fabPkt (ansHdr 7 0 0 0) [7]
     comes (withMsg (msg1 3 1) {} []) p = true ∧ crc32c p.payload ≠ (fabHdrOf p.hdr.toNat).mcrc) ∧
    (engine {} []).answered (ansHdr 5 256 0 0) = none := by
  repeat' apply And.intro
  all_goals decide +kernel

theorem wit_RemoteSource_timers :
    (let m := { msg1 1 1 with pk := [(1, { st := 2 })] }
     let s := withMsg m {} []
     s.msg 65535 = some m ∧ (State.txPkt m 1).st = 2 ∧ (State.txPkt m 1).tries < max 1 (s.get R.WEN_RM_CFG F.WEN_RM_CFG_RETRY)) ∧
    (let m := { msg1 1 1 with pk := [(1, { st := 2, tries := 15 })] }
     let s := withMsg m {} []
     max 1 (s.get R.WEN_RM_CFG F.WEN_RM_CFG_RETRY) ≤ (State.txPkt m 1).tries) ∧
    (let m := { msg1 1 1 with pk := [(0, { st := 4 })], next := 1 }
     m.next = packetsOf m ∧ State.unanswered m = 0 ∧ (State.txPkt m 0).st = 4) ∧
    (let m := { msg1 1 1 with pk := [(0, { st := 3 })] }
     (withMsg m {} []).msg 65535 = some m ∧ (State.txPkt m 0).st = 3 ∧ (State.txPkt m 1).st ≠ 3) ∧
    ((engine {} []).msg 65535 = none) ∧
    (let s := engine { tmo := [(9 * 4 + 3, 15)] } []
     s.wen.excl.get dNil 9 = [] ∧ max 1 (s.get R.WEN_RM_CFG3 F.WEN_RM_CFG3_PATH_TH) ≤ s.wen.tmo.get dZero (9 * 4 + 3) + 1) := by
  repeat' apply And.intro
  all_goals decide +kernel

theorem wit_RemoteSource_records :
    (let s := engine { ctx := queues 0, held := [(32767, [{ bytes := List.replicate 31 0, slice := none }])] } []
     s.wen.held.get dNil 32767 = [{ bytes := List.replicate 31 0, slice := none }] ∧ s.cqFits 32767 = true ∧
     s.dmfOk (s.slcHd (s.ctxSlice 1 32767)) = true) ∧
    (let s := engine { held := [(32767, [{ bytes := List.replicate 31 0, slice := none }])] } []
     s.wen.held.get dNil 32767 = [{ bytes := List.replicate 31 0, slice := none }] ∧ s.cqFits 32767 = false) := by
  repeat' apply And.intro
  all_goals decide +kernel

/-- The register written to abort, and what the id names. -/
def abortOf (s : State) (v : Word) : Option (Nat × Msg) :=
  let id := (s.rd (ownReg 0 R.WEN_ABORT_ID_LO)).toNat + (s.rd (ownReg 0 R.WEN_ABORT_ID_HI)).toNat * 2 ^ 32
  s.msgList.find? fun x => x.2.why == .wqe (State.wfld v F.WEN_ABORT_SQ) && decide (x.2.wrId = id)

theorem wit_RemoteSource_abort :
    let v : Word := BitVec.ofNat 32 (32767 + 2 ^ F.WEN_ABORT_GO.lo)
    let id : List (Nat × Word) := [(ownReg 0 R.WEN_ABORT_ID_LO, 5)]
    State.won v F.WEN_ABORT_GO = true ∧ (withMsg (msg1 1 1) {} id).takes 0 R.WEN_ABORT v ∧ abortOf (withMsg (msg1 1 1) {} []) v = none ∧
    (∀ m ∈ [msg1 3 1, msg1 1 1, { msg1 1 1 with aborting := true }], abortOf (withMsg m {} id) v = some (65535, m)) := by
  repeat' apply And.intro
  all_goals decide +kernel

/-- The header of a request packet of device 8 to window 65535: opcode, packet, wire length. -/
def reqHdr (opc pidx wire mcrc : Nat) : FabHdr :=
  { dst := 9, src := 8, opc := opc, cls := 1, tc := 7, slice := 4095, path := 3, msg := 65535 + 255 * 65536, win := 65535, key := 0, woff := 0
    pidx := pidx, mlen := wire - 1, mcrc := mcrc }

/-- The inbound entry of that message, in a state: its wire length and the packets received. -/
def entry1 (st opc wire mcrc : Nat) (got : List Nat) (data : Tab (List Byte)) : Inb :=
  { src := 8, id := 65535 + 255 * 65536, st := st, slice := 4095, win := 65535, opc := opc, wire := wire, woff := 0, mcrc := mcrc, rslice := 4095
    got := got, data := data }

/-- The window check of a request. -/
def reqChk (s : State) (h : FabHdr) (len : Nat) (going : Bool) : Nat :=
  s.winCheck (h.win % 65536) (h.win / 65536) (some h.key) h.opc h.woff len false going

/-- A policer that has no tokens. -/
def dry : Tab Bucket := [(4095, { en := true, tok := -1 })]

theorem wit_RemoteTarget_requests :
    (∀ o ∈ [(1, 1), (2, 5)], let p := fabPkt (reqHdr o.1 0 o.2 0) (List.replicate o.2 7)
      let s := engine {} []
      let h := fabHdrOf p.hdr.toNat
      s.Tidy ∧ comes s p = true ∧ p.isOpc o.1 = true ∧ s.inbGet h.src h.msg = none ∧ reqChk s h 1 false = 0 ∧ s.winSlice 65535 = some 4095 ∧
      (s.police 4095 o.2).1 = true ∧ s.wen.inb.length < 65536 ∧ s.useOf 1 4095 < s.quotaOf 1 4095 ∧
      s.useOf 2 4095 + cellsOf (o.2 + 36) ≤ s.quotaOf 2 4095) ∧
    reqChk (engine {} [(winReg 65535 R.WEN_WIN_CTL, 0x39)]) (reqHdr 1 0 1 0) 1 false ≠ 0 ∧
    ((engine { pol := dry } []).police 4095 1).1 = false ∧
    (let s := engine {} [(R.SLC_U_INB 4095, 64)]
     ¬ (s.useOf 1 4095 < s.quotaOf 1 4095)) ∧
    (∀ st ∈ [0, 1, 2], (engine { inb := [entry1 st 1 4097 0 [] []] } []).inbGet 8 (65535 + 255 * 65536) = some (entry1 st 1 4097 0 [] [])) ∧
    (let s := engine { inb := [entry1 0 1 4097 0 [1] []] } [(R.SLC_STATE 4095, 2)]
     let p := fabPkt (reqHdr 1 1 4097 0) [7]
     comes s p = true ∧ reqChk s (reqHdr 1 1 4097 0) 4097 true = 0 ∧ (s.police 4095 1).1 = true ∧ [1].contains (reqHdr 1 1 4097 0).pidx = true ∧
     [1].length ≠ (4097 + 4095) / 4096 ∧ reqChk s (reqHdr 1 1 4097 0) 4097 false ≠ 0) ∧
    (let s := engine { inb := [entry1 0 1 4097 0 [0] []] } []
     let t := engine { inb := [entry1 0 1 4097 0 [0] []] } [(R.SLC_U_CELL 4095, 64)]
     let p := fabPkt (reqHdr 1 1 4097 0) [7]
     comes s p = true ∧ reqChk s (reqHdr 1 1 4097 0) 4097 true = 0 ∧ [0].contains (reqHdr 1 1 4097 0).pidx = false ∧
     s.useOf 2 4095 + cellsOf 37 ≤ s.quotaOf 2 4095 ∧ t.quotaOf 2 4095 < t.useOf 2 4095 + cellsOf 37) := by
  repeat' apply And.intro
  all_goals decide +kernel

theorem wit_RemoteTarget_reads :
    let p := fabPkt (reqHdr 3 1 8192 0) []
    let q := fabPkt (reqHdr 4 0 8192 0) []
    let s := engine {} []
    (comes s p = true ∧ p.isOpc 3 = true ∧ reqChk s (reqHdr 3 1 8192 0) 8192 false = 0 ∧ (s.police 4095 4096).1 = true) ∧
    reqChk (engine {} [(winReg 65535 R.WEN_WIN_CTL, 0x33)]) (reqHdr 3 1 8192 0) 8192 false ≠ 0 ∧
    ((engine { pol := dry } []).police 4095 4096).1 = false ∧
    (comes s q = true ∧ q.isOpc 4 = true ∧ s.inbGet 8 (65535 + 255 * 65536) = none ∧ s.wen.inb.length < 65536) := by
  repeat' apply And.intro
  all_goals decide +kernel

theorem wit_RemoteTarget_inboundFull :
    let s := engine { inb := List.replicate 65536 { entry1 0 1 1 0 [] [] with src := 7 } } []
    65536 ≤ s.wen.inb.length ∧ s.Tidy ∧ s.inbGet 8 0 = none := by
  refine ⟨?_, ?_, ?_⟩
  · show 65536 ≤ (List.replicate 65536 _).length
    exact Nat.le_of_eq List.length_replicate.symm
  · exact (by decide +kernel : (engine {} []).Tidy)
  · apply List.find?_eq_none.mpr
    intro x hx
    have h := List.eq_of_mem_replicate hx
    subst h
    decide

/-- The only host write not yet issued: of packet `pidx` of the message, from window 65535. -/
def hwr (opc pidx wire : Nat) (b : List Byte) : HWr := ⟨5, fabHdrNat (reqHdr opc pidx wire 0), 4095, 65535, 15, 0, b, b, none, none⟩

theorem wit_RemoteTarget_writes :
    (let x := hwr 1 0 1 [7]
     let s := engine { wrs := [x] } []
     s.Tidy ∧ s.wen.wrs = [x] ∧ x.slice < 4096 ∧ x.hd < 16 ∧ s.dmfOk x.hd = true ∧ x.bytes ≠ [] ∧
     (engine { wrs := [x] } [(R.GLB_HD_STAT 15, 2)]).dmfOk 15 = false ∧ s.inbGet 8 (65535 + 255 * 65536) = none) ∧
    (∀ st ∈ [0, 1, 2], let e := entry1 st 1 1 0 [] []
      let s := engine { wrs := [hwr 1 0 1 [7]], inb := [e] } []
      let h := fabHdrOf (hwr 1 0 1 [7]).hdr
      s.inbGet h.src h.msg = some e ∧ e.got.contains h.pidx = false) ∧
    (entry1 0 1 4097 0 [] []).got.length + 1 ≠ (4097 + 4095) / 4096 ∧
    (let e := entry1 0 1 1 (crc32c [7]) [] []
     let e' := { e with got := e.got ++ [0], data := e.data.put dNil 0 [7] }
     e.got.length + 1 = (e.wire + 4095) / 4096 ∧ e.opc = 1 ∧
     crc32c ((upTo ((e.wire + 4095) / 4096)).flatMap (e'.data.get dNil)) = e.mcrc ∧ crc32c [7] ≠ 0) ∧
    (let e := entry1 0 2 5 (crc32c [7, 1, 2, 3, 4]) [] []
     let s := engine { wrs := [hwr 2 0 5 [7, 1, 2, 3, 4]], inb := [e], ctx := queues 0 } [(R.SLC_NCQ 4095, 0xFFFF)]
     let e' := { e with got := e.got ++ [0], data := e.data.put dNil 0 [7, 1, 2, 3, 4] }
     let cq := s.get (R.SLC_NCQ e.slice) F.SLC_NCQ_NCQ
     let fits := s.on (R.SLC_NCQ e.slice) F.SLC_NCQ_EN && (s.wen.held.get dNil cq).isEmpty && s.cqFits cq && s.dmfOk (s.slcHd (s.ctxSlice 1 cq))
     e.got.length + 1 = (e.wire + 4095) / 4096 ∧ e.opc = 2 ∧ e.slice < 4096 ∧
     crc32c ((upTo ((e.wire + 4095) / 4096)).flatMap (e'.data.get dNil)) = e.mcrc ∧ fits = true ∧
     (engine { ctx := queues 0 } [(R.SLC_NCQ 4095, 0x7FFF)]).on (R.SLC_NCQ 4095) F.SLC_NCQ_EN = false) ∧
    (engine {} []).wen.wrs = [] := by
  repeat' apply And.intro
  all_goals decide +kernel

theorem wit_RemoteTarget_timers :
    ∀ st ∈ [0, 1, 2], let e := { entry1 st 1 1 0 [] [] with src := 255 }
      let s := engine { inb := [e] } []
      s.Tidy ∧ s.live ∧ s.wen.inq = [] ∧ s.inbGet 255 e.id = some e := by
  decide +kernel

theorem wit_WindowsQueuesApertures_windows :
    let open1 : Word := 0x7FFF0001
    let revoke1 : Word := 0x7FFF0002
    let sel : List (Nat × Word) := [(ownReg 0 R.WEN_WIN_SEL, 65535)]
    (let s := engine {} (sel ++ [(winReg 65535 R.WEN_WIN_CTL, 0x39)])
     s.Tidy ∧ masterOk 0 = true ∧ s.takes 0 R.WEN_WIN_CMD open1 ∧ s.get (ownReg 0 R.WEN_WIN_SEL) F.WEN_WIN_SEL_IDX = 65535 ∧
     State.wfld open1 F.WEN_WIN_CMD_OP = 1 ∧ s.winState 65535 = 0) ∧
    (let s := engine {} sel
     s.takes 0 R.WEN_WIN_CMD revoke1 ∧ s.winState 65535 = 1 ∧ State.wfld revoke1 F.WEN_WIN_CMD_OP = 2 ∧ s.wen.revoking.length < 256) ∧
    ((engine {} [(winReg 65535 R.WEN_WIN_CTL, 5)]).winState 65535 = 2) ∧
    (let s := engine { revoking := List.replicate 256 (0, 0, none) } sel
     s.winState 65535 = 1 ∧ 256 ≤ s.wen.revoking.length) ∧
    (let s := engine { revWait := [(65535, 4095)] } []
     s.wen.revWait = [(65535, 4095)] ∧ s.wen.revoking.length < 256 ∧ s.winState 65535 = 1) ∧
    (let s := engine { revoking := [(65535, 32767, none)], inb := [entry1 0 1 1 0 [] []] } [(winReg 65535 R.WEN_WIN_CTL, 5)]
     s.wen.revoking.find? (fun x => x.1 == 65535) = some (65535, 32767, none) ∧ s.winBusy 65535 = false ∧
     (engine { wrs := [hwr 1 0 1 [7]] } []).winBusy 65535 = true) ∧
    (engine { revoking := [(65534, 32767, none)] } []).wen.revoking.find? (fun x => x.1 == 65535) = none ∧
    (engine {} []).readOk 0 R.WEN_FENCE := by
  repeat' apply And.intro
  all_goals decide +kernel

theorem wit_WindowsQueuesApertures_contexts :
    let go := fun (ty idx : Nat) => BitVec.ofNat 32 (idx + ty * 65536 + 2 ^ 30)
    let data := fun (x : Nat) => [(ownReg 0 (R.WEN_CTX_DATA 2), BitVec.ofNat 32 x)]
    (∀ x ∈ [(0, 32767), (1, 32767), (2, 4095), (3, 0), (0, 32768), (2, 4096)], let v := go x.1 x.2
      (engine {} []).takes 0 R.WEN_CTX_SEL v ∧ State.won v F.WEN_CTX_SEL_GO = true ∧ State.wfld v F.WEN_CTX_SEL_TYPE = x.1 ∧
      State.wfld v F.WEN_CTX_SEL_IDX = x.2) ∧
    (engine { ctx := queues 0 } []).ctxEn 0 32767 = true ∧ (engine { ctx := queues 0 } []).ctxEn 1 32767 = true ∧
    (engine {} []).ctxEn 0 32767 = false ∧
    (∀ x ∈ [5, 6, 15, 16 + 1, 4, 0x80 + 16], fieldAt ((upTo 8).flatMap fun k =>
      leBytes 4 ((engine {} (data x)).rd (ownReg 0 (R.WEN_CTX_DATA k))).toNat) 8 1 = x) ∧
    (let v : Word := BitVec.ofNat 32 (32767 + 65536 + 2 ^ 31)
     (engine {} []).takes 0 R.WEN_CTX_SEL v ∧ State.won v F.WEN_CTX_SEL_GO = false ∧ State.won v F.WEN_CTX_SEL_READ = true) := by
  repeat' apply And.intro
  all_goals decide +kernel

theorem wit_WindowsQueuesApertures_doorbells :
    let v : Word := 0x00017FFF
    let s := engine { ctx := queues 0 } []
    bits v.toNat 0 15 = 32767 ∧ s.doorsShut = false ∧ s.hdState 15 = 2 ∧ s.slcHd 4095 = 15 ∧ s.slcState 4095 = 1 ∧ s.ctxSlice 0 32767 = 4095 ∧
    s.ctxEn 0 32767 = true ∧ s.ctxSlice 1 32767 = 4095 ∧ s.ctxEn 1 32767 = true ∧
    (bits v.toNat 16 16 + 65536 - s.ctxGet 0 32767 18 2) % 65536 ≤ 2 ^ (s.ctxGet 0 32767 8 1 % 16) ∧
    ¬ ((bits (0x00417FFF : Word).toNat 16 16 + 65536 - s.ctxGet 0 32767 18 2) % 65536 ≤ 2 ^ (s.ctxGet 0 32767 8 1 % 16)) ∧
    (engine {} []).ctxEn 0 32767 = false ∧ (engine {} [(R.SLC_STATE 4095, 4)]).slcState 4095 = 4 ∧ s.slcState 4094 = 0 := by
  repeat' apply And.intro
  all_goals decide +kernel

/-- Range 255 of domain 15 with flags: 1 page in window 65535 of device 9, at offset 4096. -/
def range1 (flags : Nat) : Tab (List Byte) :=
  [(135167, leBytes 1 flags ++ leBytes 1 9 ++ leBytes 2 65535 ++ leBytes 1 0 ++ leBytes 3 4095 ++ leBytes 4 0 ++ leBytes 6 4096 ++ leBytes 6 4096
    ++ leBytes 6 0 ++ leBytes 2 0)]

/-- An aperture read of 4 bytes, or of none. -/
def apr (len : Nat) : ApRead := ⟨4, 4096, len, 7, 0xFFFF, 16383⟩

theorem wit_WindowsQueuesApertures_apertures :
    (let s := engine { ctx := range1 3 } []
     let a : ApWrite := ⟨4, 8188, 7, [some 1, some 2, some 3, some 4], 0⟩
     let b : ApWrite := ⟨4, 8192, 7, [some 1], 0⟩
     s.Tidy ∧ s.live ∧ s.hdState 15 = 2 ∧ s.wen.apQ.get dNil 15 = [] ∧ s.wen.pf = [] ∧ a.wf = true ∧ b.wf = true ∧
     s.apFind 15 b.bar b.off = none ∧ s.apFind 15 a.bar a.off = some 255 ∧ s.apMustWait 15 (.wr 255 a.off a.tc [1, 2, 3, 4]) = false ∧
     a.data = [1, 2, 3, 4].map some ∧ a.off + [1, 2, 3, 4].length ≤ (s.apEnt 15 255).start + (s.apEnt 15 255).size ∧
     s.slcState (s.apEnt 15 255).slice = 1 ∧ s.reachable (s.apEnt 15 255).dev = true ∧
     s.on (R.WEN_AP_ERR 15) F.WEN_AP_ERR_VALID = false ∧ (engine {} [(R.SLC_STATE 4095, 2)]).slcState 4095 ≠ 1) ∧
    (let s := engine { ctx := range1 3 } []
     s.apFind 15 4 (apr 4).off = some 255 ∧ (apr 4).wf = true ∧ (apr 0).wf = true ∧ s.apFind 15 2 4096 = none ∧
     s.apMustWait 15 (.rd 255 4096 4 7 0xFFFF 16383) = false ∧ (s.apEnt 15 255).ack = false ∧ (s.apEnt 15 255).pref = false ∧
     4096 + 4 ≤ (s.apEnt 15 255).start + (s.apEnt 15 255).size) ∧
    (let s : State := withMsg { msg1 1 1 with why := .apWrite 15 255 4096 true } { ctx := range1 7, apQ := [(15, [(1, .rd 255 4096 4 7 0 0)])], msgNo := 1 } []
     s.apMustWait 15 (.rd 255 4096 4 7 0 0) = true ∧ s.apBlocked 15 = false ∧ s.apAckHeld 15 1 [] (.rd 255 4096 4 7 0 0) = true ∧
     s.wen.apQ.get dNil 15 = [(1, .rd 255 4096 4 7 0 0)]) ∧
    (let s := engine { ctx := range1 3, apQ := [(15, [(1, .rd 255 4096 4 7 0 0)])], msgNo := 1 } []
     s.wen.apQ.get dNil 15 = [(1, .rd 255 4096 4 7 0 0)] ∧ s.apBlocked 15 = false ∧ s.apAckHeld 15 1 [] (.rd 255 4096 4 7 0 0) = false) ∧
    (withMsg { msg1 1 1 with why := .apWrite 15 255 4096 true, withdrawn := true } {} []).apBlocked 15 = true := by
  repeat' apply And.intro
  all_goals decide +kernel

theorem wit_WindowsQueuesApertures_prefetch :
    (let x : PfChunk := { h := 15, range := 255, chunk := 0, data := some (List.replicate 64 7) }
     let s := engine { ctx := range1 11, pf := [x] } []
     (apr 4).wf = true ∧ s.wen.apQ.get dNil 15 = [] ∧ s.wen.pf = [x] ∧ s.apFind 15 4 4096 = some 255 ∧ (s.apEnt 15 255).pref = true ∧
     (s.apEnt 15 255).ack = false ∧ s.apMustWait 15 (.rd 255 4096 4 7 0xFFFF 16383) = false ∧ x.chunk = (4096 - (s.apEnt 15 255).start) / 4096 ∧
     (4096 - (s.apEnt 15 255).start) % 4096 + 4 ≤ 4096 ∧ s.now ≤ x.at_ + 1000 * max 1 (s.get R.WEN_AP_CFG F.WEN_AP_CFG_PF_AGE) ∧
     s.slcState (s.apEnt 15 255).slice = 1) ∧
    (let m := { msg1 1 1 with why := .apWrite 14 255 4096 false }
     let n := { msg1 1 1 with why := .apWrite 15 255 4096 false, rwin := 65534 + 9 * 65536 }
     let s := engine { msgs := [(7, some n), (65535, some m)] } [(winReg 65534 R.WEN_WIN_OWNER, 14)]
     s.msgList.filter (fun x => s.yields 14 15 x.1 x.2) = [(65535, m)] ∧ s.msgList.any (fun x => s.yields 15 14 x.1 x.2) = true ∧
     s.msgList.filter (fun x => s.yields 13 15 x.1 x.2) = [] ∧ (withMsg m {} []).msgList.any (fun x => s.yields 15 14 x.1 x.2) = false) ∧
    (let m := { msg1 1 1 with why := .apWrite 14 255 4096 false, withdrawn := true }
     let s := withMsg m {} []
     s.msgList.filter (fun x => x.2.withdrawn && State.apOf x.2 == some 14 && s.apTo x.2 == some 15) = [(65535, m)] ∧
     s.msgList.any (fun x => s.yields 15 14 x.1 x.2) = false ∧
     (engine {} []).msgList.filter (fun x => x.2.withdrawn && State.apOf x.2 == some 14 && s.apTo x.2 == some 15) = []) ∧
    (let m := fun (no : Nat) => { msg1 1 1 with why := .apWrite 14 255 4096 false, withdrawn := true, no := no }
     let s := engine { msgs := [(7, some (m 1)), (65535, some (m 0))] } []
     s.msgList.filter (fun x => x.2.withdrawn && State.apOf x.2 == some 14 && s.apTo x.2 == some 15) = [(7, m 1), (65535, m 0)]) ∧
    (let m := { msg1 1 1 with why := .apWrite 15 255 4096 false }
     let s := withMsg m {} [(winReg 65535 R.WEN_WIN_OWNER, 14)]
     s.msgList.any (fun x => s.yields 15 14 x.1 x.2) = true) ∧
    (let m := { msg1 1 1 with why := .apWrite 15 255 4096 false, flr := true }
     (withMsg m {} []).msg 65535 = some m ∧ State.apOf m = some 15) ∧
    (let m := { msg1 3 1 with why := .apRead 14 255 4096 0 0 }
     let busy : List (Nat × Option Msg) := (List.range 256).map fun k => (k, some { m with next := 1 })
     let s := engine { msgs := busy ++ [(65535, some m)] } []
     s.apFull m = true ∧ s.msg 65535 = some m) ∧
    (let s := engine {} []
     s.readOk 0 R.WEN_FENCE ∧ s.fenceMet s.tblw.fences (s.fenceRd 0 R.WEN_FENCE .word [] []) = true) ∧
    (let s := engine { wrs := [⟨5, 0, 0, 0, 0, 0, [], [], none, none⟩] } []
     s.fenceMet s.tblw.fences (s.fenceRd 0 R.WEN_FENCE .word [] []) = false) := by
  repeat' apply And.intro
  all_goals decide +kernel

/-- The engine with slice 4095 in a state, its registers replaced. -/
def slice (st : Nat) (l : List (Nat × Word)) : State := engine {} ((R.SLC_STATE 4095, BitVec.ofNat 32 st) :: (R.SLC_ARG 4095, 15) :: l)

/-- A state in which domain 15 is enabled. -/
def shown (s : State) : State := { s with doms := [(15, { on := true })] }

theorem wit_SliceLifecycle_checks :
    let c := R.SLC_CMD 4095
    (∀ o ∈ [1, 2, 3, 4, 5, 6, 7, 8], (slice 9 []).takes 0 c (State.slcWord o false) ∧ (slice 1 []).takes 9 c (State.slcWord o false) ∧
      (slice 9 []).on (R.SLC_STATE 4095) F.SLC_STATE_BUSY = true ∧ (slice 1 []).slcMay 9 4095 o = false ∧ (slice 1 []).slcMay 0 4095 o = true) ∧
    (∀ x ∈ [(1, 1), (3, 2), (1, 3), (1, 4), (1, 5), (1, 6), (0, 7), (1, 8)], State.slcAllows x.1 x.2 false = false) ∧
    (∀ x ∈ [(0, 1), (1, 2), (3, 3), (3, 4), (5, 5), (5, 6), (6, 7), (5, 8)], State.slcAllows x.1 x.2 false = true) ∧
    ((slice 0 []).slcArgOk 4095 = false ∧ (shown (slice 0 [])).slcArgOk 4095 = true ∧ (slice 0 []).latched 1 4095 = false ∧
      ({ slice 0 [] with owl := { doms := [(8191, { st := 2 })] } } : State).latched 1 4095 = true) ∧
    ((slice 1 []).takes 31 c (State.slcWord 5 true) ∧ (slice 1 []).slcMay 31 4095 5 = true ∧ State.slcAllows 1 5 true = true) := by
  repeat' apply And.intro
  all_goals decide +kernel

theorem wit_SliceLifecycle :
    (∀ st ∈ [0, 1, 2, 3, 4, 5, 6], (slice st []).Tidy ∧ (slice st []).slcState 4095 = st ∧
      (slice st []).on (R.SLC_STATE 4095) F.SLC_STATE_BUSY = false ∧ (shown (slice st [])).slcArgOk 4095 = true) ∧
    (let m := { msg1 1 1 with why := .apWrite 15 255 4096 false }
     (withMsg m {} []).msgList = [(65535, m)] ∧ m.why = .apWrite 15 255 4096 false) ∧
    (let s : State := { slice 4 [] with doms := [(15, { reads := [{ tag := 0, addr := 0, len := 4, pur := .inbound 0, slice := some 4095, drop := 0 }] })] }
     s.doms.any (fun e => e.2.reads.any fun r => r.slice == some 4095) = true) ∧
    (let s := slice 4 []
     s.doms.any (fun e => e.2.reads.any fun r => r.slice == some 4095) = false ∧ s.wen.held = [] ∧ (s.slc 4095).op ≠ 5 ∧ (s.slc 4095).reset = false) ∧
    (let s : State := { slice 4 [] with slcs := [(4095, { op := 5 })] }
     s.slc 4095 = { op := 5 } ∧ s.slcState 4095 = 4 ∧ s.get (R.SLC_STATE 4095) F.SLC_STATE_CAUSE = 0) ∧
    (∀ x ∈ [{ op := 5 }, { op := 6 }, { op := 8 }, { op := 5, contained := true }], let s : State := { slice 6 [] with slcs := [(4095, x)] }
      s.slc 4095 = x ∧ s.slcState 4095 = 6 ∧ (s.wen.revoking.any (fun y => y.2.2 == some 4095) || s.wen.revWait.any (fun y => y.2 == 4095)) = false) ∧
    (engine { revWait := [(65535, 4095)] } []).wen.revWait.any (fun y => y.2 == 4095) = true ∧
    (let s := slice 3 []
     s.slcWindows 4095 = [65535] ∧ s.wen.revoking.length + (s.slcWindows 4095).length ≤ 256 ∧
     ∀ i, i < 4 → s.wen.irqs.contains (4095, i) = false) ∧
    (let s := engine { irqs := [(4095, 3)] } [(R.SLC_STATE 4095, 3), (R.SLC_ARG 4095, 15)]
     s.slcState 4095 = 3 ∧ s.wen.irqs = [(4095, 3)] ∧ s.dmfOk (s.slcHd 4095) = true) ∧
    (let s : State := { slice 4 [] with slcs := [(4095, { op := 5, arg := 15 })] }
     s.slc 4095 = { op := 5, arg := 15 }) := by
  repeat' apply And.intro
  all_goals decide +kernel

theorem wit_InterruptsAndRates :
    let ctl := R.SLC_IRQ_CTL 4095 3
    (let s := engine { irqs := [(4095, 3)] } []
     s.live ∧ s.wen.irqs.contains (4095, 3) = true ∧ s.dmfOk (s.slcHd 4095) = true ∧ (engine {} [(R.GLB_HD_STAT 15, 2)]).dmfOk 15 = false ∧
     (engine {} []).wen.irqs.contains (4095, 3) = false) ∧
    (let s := engine {} [(ctl, 3)]
     s.takes 0 ctl 0 ∧ fldOf (0 : Word) F.SLC_IRQ_CTL_MASK = 0 ∧ s.on ctl F.SLC_IRQ_CTL_PEND = true ∧ s.dmfOk (s.slcHd 4095) = true ∧
     s.slcState 4095 = 1 ∧ s.takes 0 ctl 1 ∧ fldOf (1 : Word) F.SLC_IRQ_CTL_MASK = 1 ∧ (engine {} []).on ctl F.SLC_IRQ_CTL_PEND = false) ∧
    (let go : Word := BitVec.ofNat 32 (2 ^ F.QOS_SHP_CFG_GO.lo)
     let s := engine {} []
     s.takes 0 (R.QOS_SHP_CFG 4095) go ∧ s.takes 0 (R.QOS_POL_CFG 4095) go ∧ fldOf go F.QOS_SHP_CFG_GO = 1 ∧ fldOf go F.QOS_POL_CFG_GO = 1 ∧
     s.takes 0 (R.QOS_SHP_CFG 4095) 1 ∧ fldOf (1 : Word) F.QOS_SHP_CFG_GO = 0 ∧ fldOf (1 : Word) F.QOS_POL_CFG_GO = 0) ∧
    (let b := ((engine { pol := [(4095, { en := true, burst := 1, tok := 8000 })] } []).policer 4095).grown 0
     b.en = true ∧ Int.ofNat ((1 + b.ovh) * 8000) ≤ b.tok ∧ b.tok < Int.ofNat ((2 + b.ovh) * 8000)) := by
  repeat' apply And.intro
  all_goals decide +kernel

/-- A state with a fault message on its way and the owl as given. -/
def owlS (o : Owl) (l : List (Nat × Word)) : State := { up l with owl := o }

theorem wit_FaultHandling_messages :
    let port : FaultMsg := ⟨0xFF, 0x02, none, none, 0⟩
    let kids : Owl := { doms := [(2 * 4096 + 127, ⟨1, 0⟩)] }
    (port.wf = true ∧ faultDom port = (2, 127) ∧ kindC.contains 0x02 = false) ∧
    (faultDom ⟨0, 0x10, none, none, 0⟩).1 = 0 ∧
    (owlS {} [(R.FLT_STAT, 0x8000)]).on R.FLT_STAT F.FLT_STAT_SAFE = true ∧ (owlS {} []).on R.FLT_STAT F.FLT_STAT_SAFE = false ∧
    ((owlS { doms := [(3 * 4096 + 15, ⟨2, 4⟩)] } []).domFirst 2 (2, 127)).isSome = true ∧ ((owlS kids []).domFirst 2 (2, 127)).isSome = false ∧
    (owlS kids []).domFirst 1 (2, 127) = some (2, 127) ∧ (owlS {} []).domFirst 1 (2, 127) = none ∧
    (([⟨0, 0xFF, 0x02, 2, 127⟩] : List STimer).any fun t => t.source == port.source && t.kind == port.kind) = true ∧
    (owlS {} [(R.FLT_KIND 0x02, 2)]).on (R.FLT_KIND port.kind) F.FLT_KIND_NOESC = true ∧
    (owlS {} []).on (R.FLT_KIND port.kind) F.FLT_KIND_NOESC = false ∧
    64 ≤ (List.replicate 64 (⟨0, 0, 0, 6, 0⟩ : STimer)).length ∧
    (let c : FaultMsg := ⟨0xFF, 0x01, none, none, 0⟩
     c.wf = true ∧ kindC.contains c.kind = true ∧ (faultDom c).1 = 2 ∧ ((owlS kids []).owl.doms.filter fun e => e.2.st == 1).length < 64) ∧
    (let o : Owl := { doms := (upTo 64).map fun k => (4096 + k, ⟨1, 0⟩) }
     64 ≤ ((owlS o []).owl.doms.filter fun e => e.2.st == 1).length ∧ (owlS o []).domFirst 1 (2, 127) = none) ∧
    (let c : FaultMsg := ⟨0, 0x22, none, none, 0⟩
     c.wf = true ∧ kindC.contains c.kind = true ∧ (faultDom c).1 = 6) ∧
    (let c : FaultMsg := ⟨0xFF, 0x01, none, none, 0⟩
     (owlS { owed := [c] } []).owl.owed.contains c = true ∧ (owlS {} []).owl.owed.contains c = false ∧
     ((owlS {} []).jobParity c).owl.owed.contains c = false ∧ ((owlS {} []).jobParity c).domFirst 1 (2, 127) = none ∧
     (((owlS kids []).jobParity c).domFirst 1 (2, 127)).isSome = true) ∧
    (let x : Msg := { inc := 0, why := .wqe 0, opc := 1, sig := false, fence := false, tc := 0, imm := 0, wrId := 0, lwin := 0, loff := 0, rwin := 0
                      rkey := 0, roff := 0, len := 1, slice := 4095, cq := 0, pdom := 0, no := 0 }
     let f : FaultMsg := ⟨0x2C0, 0x21, some 4095, none, 65535⟩
     let s : State := { up [] with wen := { msgs := [(65535, some x)] } }
     s.msg f.detail = some x ∧ f.slice = some x.slice) ∧
    (let e : Inb := { src := 8, id := 0, st := 0, slice := 4095, win := 0, opc := 1, wire := 1, woff := 0, mcrc := 0, rslice := 0 }
     let f : FaultMsg := ⟨0x2C0, 0x21, some 4095, none, 0⟩
     let s : State := { up [] with wen := { inb := [{ e with slice := 7 }, e] } }
     s.msg f.detail = none ∧ (s.wen.inb.filter fun e => f.slice == some e.slice)[f.detail]? = some e) := by
  repeat' apply And.intro
  all_goals decide +kernel

theorem wit_FaultHandling_escalation :
    let kids : Owl := { doms := [(3 * 4096 + 15, ⟨1, 0⟩)] }
    ((owlS {} []).parent (6, 0) = none ∧ (owlS {} []).parent (2, 127) = some (3, 15)) ∧
    ((owlS { doms := [(3 * 4096 + 15, ⟨2, 4⟩)] } []).domFirst 2 (3, 15)).isSome = true ∧
    (((owlS kids []).domFirst 2 (3, 15)).isSome = false ∧ (owlS kids []).domFirst 1 (3, 15) = some (3, 15)) ∧
    (((owlS {} []).domFirst 2 (3, 15)).isSome = false ∧ (owlS {} []).domFirst 1 (3, 15) = none) ∧
    (let s := owlS {} [(R.FLT_RING, 0x1FF00FF)]
     (s.get R.FLT_RING F.FLT_RING_WR + 512 - s.get R.FLT_RING F.FLT_RING_RD) % 512 = 256 ∧ s.on (R.FLT_KIND 2) F.FLT_KIND_MASK = false) ∧
    (let s := owlS {} [(R.FLT_RING, 0x1FF00FE)]
     ¬ (s.get R.FLT_RING F.FLT_RING_WR + 512 - s.get R.FLT_RING F.FLT_RING_RD) % 512 = 256) ∧
    (owlS {} [(R.FLT_KIND 2, 1)]).on (R.FLT_KIND 2) F.FLT_KIND_MASK = true ∧
    (let x : STimer := ⟨65535, 0xFF, 0x02, 2, 127⟩
     let s := owlS { timers := [x] } []
     s.owl.timers.find? (fun t => t.seq == 65535) = some x ∧ s.owl.timers.find? (fun t => t.seq == 0) = none ∧
     s.takes 0 R.FLT_ACK 65535 ∧ s.owl.timers.any (fun t => t.seq == State.wfld 65535 F.FLT_ACK_SEQ) = true ∧
     s.owl.timers.any (fun t => t.seq == State.wfld 0 F.FLT_ACK_SEQ) = false) := by
  repeat' apply And.intro
  all_goals decide +kernel

theorem wit_FaultHandling_recovery :
    (let s := owlS { doms := [(4096 + 4095, ⟨1, 2⟩)] } [(R.SLC_STATE 4095, 5), (R.FLT_CFG2, 3)]
     let n := min 255 ((s.domSt (scopeNo .slice, 4095)).rcnt + 1)
     (s.domSt (scopeNo .slice, 4095)).st = 1 ∧ s.slcState 4095 = 5 ∧
     (owlS {} [(R.FLT_CFG2, 0)]).get R.FLT_CFG2 F.FLT_CFG2_REC_LIM = 0 ∧ max 1 0 ≤ n ∧ n < 255) ∧
    (let s := owlS { doms := [(4096 + 4095, ⟨1, 2⟩)] } []
     min 255 ((s.domSt (1, 4095)).rcnt + 1) < max 1 (s.get R.FLT_CFG2 F.FLT_CFG2_REC_LIM)
       ∨ max 1 (s.get R.FLT_CFG2 F.FLT_CFG2_REC_LIM) ≤ min 255 ((s.domSt (1, 4095)).rcnt + 1)) ∧
    (let s := owlS { doms := [(4096 + 4095, ⟨1, 0⟩)] } []
     min 255 ((s.domSt (1, 4095)).rcnt + 1) < max 1 (s.get R.FLT_CFG2 F.FLT_CFG2_REC_LIM)) ∧
    (let s := owlS { doms := [(2 * 4096 + 127, ⟨2, 4⟩)] } []
     let v : Word := BitVec.ofNat 32 (127 + 2 * 4096 + 2 ^ 31)
     s.takes 0 R.FLT_DOM_SEL v ∧ State.won v F.FLT_DOM_SEL_CLEAR = true ∧ fldOf v F.FLT_DOM_SEL_SCOPE = 2 ∧ fldOf v F.FLT_DOM_SEL_INDEX = 127 ∧
     (s.domSt (2, 127)).st = 2) ∧
    (let s := owlS { doms := [(3 * 4096 + 15, ⟨2, 4⟩)] } []
     let v : Word := BitVec.ofNat 32 (15 + 3 * 4096 + 2 ^ 31)
     s.takes 0 R.FLT_DOM_SEL v ∧ fldOf v F.FLT_DOM_SEL_SCOPE = 3 ∧ fldOf v F.FLT_DOM_SEL_INDEX = 15 ∧ (s.domSt (3, 15)).st = 2 ∧
     bit (s.get R.GLB_GRP_RESET F.GLB_GRP_RESET_GRP) 15 = false ∧ s.mode ≠ 0 ∧ s.mode ≠ 7 ∧
     ({ s with pwr := { s.pwr with stage := .digest } } : State).pwr.stage = .digest) ∧
    (let v : Word := BitVec.ofNat 32 (0x5AFE * 65536 + 1)
     (owlS {} []).takes 0 R.FLT_SAFE v ∧ fldOf v F.FLT_SAFE_GO = 1 ∧ fldOf v F.FLT_SAFE_KEY = 0x5AFE ∧ fldOf v F.FLT_SAFE_SLOT_OFF = 0 ∧
     (owlS {} []).takes 0 R.FLT_SAFE 1 ∧ fldOf (1 : Word) F.FLT_SAFE_KEY ≠ 0x5AFE) := by
  repeat' apply And.intro
  all_goals decide +kernel

/-- Slot 15, bound to the downstream port 127, with SLOT_STAT and its other state as given. -/
def slot15 (stat : Nat) (x : Slot) (l : List (Nat × Word)) : State :=
  { pcie 2 1 0 0 {} ((R.SLOT_STAT 15, BitVec.ofNat 32 stat) :: l) with slots := [(15, { x with bind := some 127 })] }

theorem wit_SlotPowersUp :
    ((slot15 1 {} []).pdOn 4 = true ∧ (slot15 1 {} [(R.PWR_PD_STAT, 0)]).pdOn 4 = false) ∧
    (∀ st ∈ [0, 1, 2, 3, 4, 5, 6, 7], (slot15 st {} []).slotState 15 = st ∧ (slot15 st {} []).slotPort 15 = some 127) ∧
    (let s := slot15 0x821 {} []
     s.slotState 15 = 1 ∧ s.sst 15 F.SLOT_STAT_PRSNT = 1 ∧ s.contained 5 15 = false ∧ (s.feedOk 15 1 || s.feedOk 15 2) = true ∧ s.mode = 3) ∧
    ((slot15 2 {} []).pgTh 15 = 1080 ∧ ((slot15 3 {} []).slot 15).slowA = false ∧ ((slot15 3 {} []).slot 15).slowB = false ∧
     ((slot15 3 { slowB := true } []).slot 15).slowB = true) ∧
    (let s := slot15 4 {} []
     (s.slot 15).turnOff = false ∧ bit (s.get R.GLB_GRP_RESET F.GLB_GRP_RESET_GRP) (127 / 8) = false ∧ s.contained 3 (127 / 8) = false) := by
  repeat' apply And.intro
  all_goals decide +kernel

theorem wit_SlotFeeds_trips :
    ((slot15 (4 + 8 * 1) {} []).gateOn 15 (feedNo .a) = true ∧ (slot15 (5 + 8 * 2) {} []).gateOn 15 (feedNo .b) = true) ∧
    (((slot15 4 { slowA := true } []).slot 15).slowA = true ∧ ((slot15 4 { slowB := true } []).slot 15).slowB = true) ∧
    ((slot15 4 {} []).slotState 15 = 4 ∧ 1079 < (slot15 4 {} []).pgTh 15) ∧
    ((slot15 5 { inOn := true, target := 2 } []).slotState 15 = 5 ∧ ((slot15 5 { inOn := true, target := 2 } []).slot 15).inOn = true) := by
  repeat' apply And.intro
  all_goals decide +kernel

theorem wit_SlotFeeds :
    (let s := slot15 0 {} []
     s.inBand 15 1104 = true ∧ s.inBand 15 1296 = true ∧ s.inBand 15 1103 = false ∧ s.inBand 15 1297 = false ∧ s.feedEn 15 (feedNo .a) = true ∧
     s.feedEn 15 (feedNo .b) = true ∧ s.on (R.SLOT_CFG 15) F.SLOT_CFG_REVERT = false ∧ s.slotLive 15 = false) ∧
    (let s := slot15 (4 + 8 * 1 + 0x800) { lostA := true } []
     s.slotState 15 = 4 ∧ (s.slot 15).turnOff = false ∧ s.feedGone 15 (s.sst 15 F.SLOT_STAT_FEED) = true ∧
     s.feedOk 15 (3 - s.sst 15 F.SLOT_STAT_FEED) = true) ∧
    (let s := slot15 (4 + 8 * 1) {} []
     s.feedOk 15 1 = false ∧ s.slotLive 15 = true ∧ s.feedUsed 15 = 1 ∧ s.feedGone 15 1 = false) ∧
    ((slot15 0 {} [(R.SLOT_CFG 15, 0)]).feedEn 15 (feedNo .b) = false) ∧
    (let s := slot15 (4 + 8 * 2 + 0xC00) {} [(R.SLOT_CFG 15, BitVec.ofNat 32 (2 ^ F.SLOT_CFG_REVERT.lo))]
     s.on (R.SLOT_CFG 15) F.SLOT_CFG_REVERT = true ∧ s.on (R.SLOT_CFG 15) F.SLOT_CFG_PRI = false ∧ s.feedOk 15 1 = true ∧ s.slotState 15 = 4 ∧
     s.sst 15 F.SLOT_STAT_FEED = 2 ∧ (s.slot 15).turnOff = false ∧ s.feedEn 15 1 = false) ∧
    (let s := slot15 (4 + 8 * 1 + 0x400) {} []
     s.feedOk 15 1 = true ∧ s.feedOk 15 2 = false ∧ s.slotLive 15 = true) ∧
    (let s := slot15 (5 + 8 * 1 + 0xC00) { target := 2 } []
     s.feedOk 15 2 = true ∧ s.slotLive 15 = true ∧ s.slotState 15 = 5 ∧ (s.slot 15).target = 2) ∧
    (let s := slot15 (4 + 8 * 1 + 0xC00) {} []
     s.feedOk 15 (feedNo .a) = true ∧ s.feedOk 15 (3 - feedNo .a) = true ∧ s.slotState 15 = 4 ∧ s.sst 15 F.SLOT_STAT_FEED = feedNo .a ∧
     (s.slot 15).turnOff = false ∧ s.gateOn 15 (feedNo .a) = true ∧ s.slowTh 15 < 1023) ∧
    ((slot15 0x800 {} []).feedOk 15 (feedNo .b) = true) ∧
    ((slot15 5 { target := 2 } []).slotState 15 = 5 ∧ ((slot15 5 { target := 2 } []).slot 15).inOn = false) ∧
    ((slot15 4 { brkHold := true } []).slotState 15 = 4 ∧ ((slot15 4 { brkHold := true } []).slot 15).brkHold = true) := by
  repeat' apply And.intro
  all_goals decide +kernel

theorem wit_SlotRequests :
    (let s := slot15 0 {} []
     s.takes 0 (R.SLOT_CMD 15) 1 ∧ s.slotState 15 = 0 ∧ (s.slotPort 15).isSome = true ∧ s.takes 0 (R.SLOT_CMD 15) 2 ∧
     s.sst 15 F.SLOT_STAT_PRSNT = 0 ∧ s.on (R.SLOT_CFG 15) F.SLOT_CFG_AUTO_ON = false ∧ s.mode ≠ 4) ∧
    ((slot15 0 {} []).rampOk 15 = false ∧ (slot15 0x820 {} []).rampOk 15 = true ∧ ((slot15 6 { want := true } []).slot 15).want = true) ∧
    (((slot15 2 { turnOff := true } []).slot 15).turnOff = true) ∧
    (let s := slot15 6 {} []
     s.slotState 15 = 6 ∧ 99 < s.get (R.SLOT_VLIM2 15) F.SLOT_VLIM2_OFF_TH ∧ (s.slot 15).want = false) ∧
    ((slot15 0x26 {} []).sst 15 F.SLOT_STAT_PRSNT = 1 ∧ (slot15 0x26 {} []).slotState 15 = 6) := by
  repeat' apply And.intro
  all_goals decide +kernel

/-- The part after its boot in a stage of the way into Night. -/
def power (x : NightStage) (l : List (Nat × Word)) : State :=
  let s := up l
  { s with boot := { s.boot with stage := .ended }, pwr := { stage := x, img := 1 } }

theorem wit_PowerClocksNight_domains :
    (∀ k ∈ [4, 26, 27, 28, 29, 30], let v := BitVec.ofNat 32 (2 ^ k)
      let s := power .awake []
      s.Tidy ∧ s.takes 0 R.PWR_PD_CTL v ∧ v.toNat = 2 ^ k ∧ s.pdOn k = true ∧ s.mayBeOff k = true) ∧
    (power .awake [(R.SLOT_STAT 15, 4)]).mayBeOff 4 = false ∧ (power .awake [(R.SLC_STATE 4095, 1)]).mayBeOff 30 = false ∧
    ({ power .awake [] with samp := [(127, 0xFC0B)] } : State).mayBeOff 29 = false ∧
    (let s := { power .awake [(R.PWR_PD_STAT, 1), (R.GRP_PORT_CFG 15 7, 1)] with pwr := {} }
     s.boot.stage = .ended ∧ s.pwr.stage = .awake ∧ s.pdOn 0 = true ∧ s.pdOn 4 = false ∧ s.pdOn 30 = false ∧ s.pdOn 29 = false ∧ s.offBit 30 = false ∧
     s.pdOn 25 = false ∧ s.pdOn 8 = false ∧ (15 * 8 + 7 = 127 → ({ s with samp := [(127, 1)] } : State).groupUsed 15 = true) ∧ s.groupUsed 15 = false ∧ bit (s.get R.GLB_GRP_RESET F.GLB_GRP_RESET_GRP) 15 = false ∧ s.pwr.due = [] ∧
     bit ((power .awake [(R.GLB_GRP_RESET, 0x8000)]).get R.GLB_GRP_RESET F.GLB_GRP_RESET_GRP) 15 = true) ∧
    domainOf R.PWR_PD_STAT = 0 ∧
    (let s := power .awake [(R.PWR_DUSK_STAT_0, 0x80000000)]
     s.asleep 31 = true ∧ islandOf (R.SLOT_TIME 15) = 31 ∧ s.powered (R.SLOT_TIME 15) = true ∧ s.nightShut 0 = false ∧ plainReg (R.SLOT_TIME 15) = true ∧
     s.checkAcc (.word 0 true (R.SLOT_TIME 15) 0) = none ∧ s.takes 0 R.PWR_DUSK_EN_0 0) ∧
    (F.SLOT_CFG_PRI ∈ fieldsAt (R.SLOT_CFG 15) ∧ domainOf (R.SLOT_CFG 15 % csrSpan) = 4 ∧ F.SLOT_CFG_PRI.rk ≠ .none) := by
  repeat' apply And.intro
  all_goals decide +kernel

theorem wit_PowerClocksNight :
    (let s := power .awake [(R.PWR_NIGHT_CFG, BitVec.ofNat 32 (2 ^ F.PWR_NIGHT_CFG_EN.lo))]
     let go := BitVec.ofNat 32 (2 ^ F.PWR_NIGHT_CFG_GO.lo)
     s.pwr.stage = .awake ∧ s.on R.PWR_NIGHT_CFG F.PWR_NIGHT_CFG_EN = true ∧ s.allDown = true ∧ s.nightRef = 0 ∧ s.takes 0 R.PWR_NIGHT_CFG go ∧
     fldOf go F.PWR_NIGHT_CFG_GO = 1 ∧ (power .awake []).on R.PWR_NIGHT_CFG F.PWR_NIGHT_CFG_EN = false ∧
     (power .awake [(R.SLOT_STAT 15, 4)]).nightRef ≠ 0) ∧
    (let s : State := { power .drain [] with sett := { pkts := [(0, some (pk none [0] 0 false))] } }
     s.pwr.stage = .drain ∧ (s.sett.pkts.all fun e => e.2.isNone) = false ∧ s.nightRef = 0 ∧
     (∀ e ∈ s.sett.pkts, e.2.all (!·.mir) = true) ∧
     ((power .drain []).sett.pkts.all fun e => e.2.isNone) = true ∧ (power .drain [(R.SLOT_STAT 15, 4)]).nightRef ≠ 0) ∧
    ((power .digest []).pwr.stage = .digest ∧ (power .digest []).sec.mb.isSome = false ∧ (power .digest []).nightRef = 0 ∧
     (power .digest [(R.SLOT_STAT 15, 4)]).nightRef ≠ 0) ∧
    ((power .night []).pwr.stage = .night ∧ (power .awake []).pwr.stage ≠ .night ∧ WakeSrc.wf (.presence 15) = true ∧
     (power .night [(R.PWR_NIGHT_ALARM, BitVec.ofNat 32 (5 * 2 ^ F.PWR_NIGHT_ALARM_ALARM.lo))]).on R.PWR_NIGHT_ALARM F.PWR_NIGHT_ALARM_ALARM = true) ∧
    (∀ g ∈ [0, 1, 2, 3], let v := BitVec.ofNat 32 (2 ^ g)
      let s := power .awake [(R.PWR_PAD_HOLD, BitVec.ofNat 32 (15 * 2 ^ F.PWR_PAD_HOLD_HELD.lo))]
      s.takes 0 R.PWR_PAD_HOLD_RELEASE v ∧ v.toNat = 2 ^ g ∧ bit (s.get R.PWR_PAD_HOLD F.PWR_PAD_HOLD_HELD) g = true ∧
      s.pdOn (if g < 2 then 3 else 4) = true ∧ bit ((power .awake []).get R.PWR_PAD_HOLD F.PWR_PAD_HOLD_HELD) g = false) := by
  repeat' apply And.intro
  all_goals decide +kernel

/-- The part with its security core as given. -/
def secure (x : Sec) (l : List (Nat × Word)) : State := { up l with sec := x }

/-- A mailbox command in progress, with the input it was given. -/
def mbx (op owner mode : Nat) (input : List Byte) : Sec := { mb := some ⟨op, owner, mode, input.length, input, false, none⟩ }

/-- Key slot 3 programmed for images. -/
def keyed (revoked : Bool) : Tab KeySlot := [(2, { prog3 := 3, img3 := 2 }), (3, { prog3 := 2, img3 := 3, revoked3 := if revoked then 3 else 1 })]

/-- A signature block of slot 3 whose first checks (R526) pass up to its digests. The clauses that
start from a whole block that passes have no state written out: its signatures are made with private keys. -/
def block (purpose : Nat) : List Byte :=
  leBytes 4 0x47534C46 ++ leBytes 2 1 ++ leBytes 2 purpose ++ leBytes 8 3 ++ leBytes 16 64 ++ List.replicate (sigBlockLen - 32) 0

theorem wit_SecurityCore_commands :
    (∀ op ∈ [1, 2, 3, 4, 5, 6, 7, 8, 9], (secure {} []).takes 9 R.SEC_MB_CMD (BitVec.ofNat 32 op)) ∧ (secure {} []).sec.mb = none ∧
    (secure (mbx 1 9 3 []) []).sec.mb.isSome = true ∧ State.mbAllowed 0 9 3 = none ∧ State.mbAllowed 2 9 3 = some false ∧
    State.mbAllowed 5 9 3 = some false ∧ (∀ op ∈ [1, 4, 6, 7, 8, 9], State.mbAllowed op 9 3 = some true) ∧
    (∀ op ∈ [2, 3], State.mbAllowed op 9 1 = some true) ∧ State.mbAllowed 5 0 3 = some true ∧
    1 ≤ fieldAt (leBytes 4 4096) 0 4 ∧ fieldAt (leBytes 4 4096) 0 4 ≤ 4096 ∧
    (leBytes 2 3 ++ List.replicate 436 (7 : Byte)).length = 438 ∧ fieldAt (leBytes 2 3 ++ List.replicate 436 7) 0 1 = 3 ∧
    (secure { provLock3 := 2 } []).sec.provLock = true ∧ ((secure { keys := keyed false } []).key 3).prog = true ∧
    ((secure {} []).key 3).prog = false ∧ ((upTo 4).any fun j => State.imgSlot ((secure {} []).key j)) = false ∧
    ((upTo 4).any fun j => State.imgSlot ((secure { keys := keyed false } []).key j)) = true := by
  repeat' apply And.intro
  all_goals decide +kernel

theorem wit_SecurityCore_blocks :
    (leBytes 1 3 ++ List.replicate 63 (0 : Byte) ++ List.replicate sigBlockLen 0).length = 64 + sigBlockLen ∧
    State.sigItem [] (List.replicate sigBlockLen 0) 3 64 (·.img) [] = 1 ∧ State.sigItem [] (block 3) 3 64 (·.img) [] = 2 ∧
    State.sigItem (keyed true) (block 3) 3 64 (·.img) [] = 2 ∧
    ((secure { keys := keyed true } []).key 3).revoked = true ∧ ((secure { keys := keyed false } []).key 3).revoked = false ∧
    ((upTo 4).any fun j => j != 3 && State.imgSlot ((secure { keys := keyed false } []).key j)) = true ∧
    ((upTo 4).any fun j => j != 2 && State.imgSlot ((secure { keys := keyed true } []).key j)) = false ∧
    (let s := secure { floor := 64 } [(R.GLB_BOOT_STATUS, BitVec.ofNat 32 (2 ^ F.GLB_BOOT_STATUS_CONFIRMED.lo)), (R.SEC_SVN, 64)]
     s.on R.GLB_BOOT_STATUS F.GLB_BOOT_STATUS_CONFIRMED = true ∧ 64 ≤ (s.rd R.SEC_SVN).toNat ∧ ¬ (65 ≤ (s.rd R.SEC_SVN).toNat) ∧ s.sec.floor ≤ 64) ∧
    (secure { debugNever3 := 3 } []).sec.debugNever = true ∧ fieldAt (leBytes 4 0xDEAD0FF0) 0 4 = 0xDEAD0FF0 ∧
    (let b := leBytes 4 0x1FFFF ++ [7]
     b.length = 5 ∧ fieldAt b 0 4 + (b.length - 4) ≤ 0x20000 ∧ 0x20000 ≤ (secure {} []).flashSize) := by
  repeat' apply And.intro
  all_goals decide +kernel

theorem wit_SecurityCore_spdm :
    (let s : State := { secure {} [(R.GLB_HD_STAT 15, 6)] with doms := [(15, { on := true })] }
     (SpdmVia.doe 15).wf = true ∧ SpdmVia.mctp.wf = true ∧ (s.spdmUp (.doe 15) && s.pwr.stage == .awake) = true ∧
     (s.spdmUp .mctp && s.pwr.stage == .awake) = true ∧ (s.spdmUp (.doe 14) && s.pwr.stage == .awake) = false ∧ s.sec.sessions.length < 4) ∧
    (let s := secure { sessions := [(0, .mctp), (1, .mctp), (2, .mctp), (3, .doe 15)] } []
     4 ≤ s.sec.sessions.length ∧ s.sec.sessions = (0, .mctp) :: [(1, .mctp), (2, .mctp), (3, .doe 15)] ∧
     (∀ y ∈ [((1 : Nat), SpdmVia.mctp), (2, .mctp), (3, .doe 15)], y.1 ≠ 0) ∧ (∀ y ∈ s.sec.sessions, y.1 ≠ 4)) ∧
    ((secure { slh := some ([7], true) } []).sec.slh = some ([7], true) ∧ (secure { slh := some ([7], false) } []).sec.slh = some ([7], false)) ∧
    ((secure {} []).dbgPerm 0 = false ∧ (secure {} []).dbgPerm 2 = false ∧ (secure {} [(R.SEC_DBG, 7)]).dbgPerm 0 = true ∧
     (secure {} [(R.SEC_DBG, 7)]).dbgPerm 2 = true ∧ (secure {} []).sec.halted.contains 3 = false ∧ inCmem 0x1FFFFFC = true) := by
  repeat' apply And.intro
  all_goals decide +kernel

/-- A scan job of number 15 over control memory or host memory of domain 15 (`cfg`). -/
def job15 (addr len : Nat) (cfg : Word) (result : Option (Nat × Nat)) : ChkJob := { j := 15, addr := addr, len := len, cfg := cfg, result := result }

/-- The part with the engine's jobs and records, domain 15 running. -/
def check (c : Chk) (l : List (Nat × Word)) : State := { up ((R.GLB_HD_STAT 15, 6) :: l) with chk := c, doms := [(15, { on := true })] }

theorem wit_CheckAndTelemetry_jobs :
    (let s := check {} [(R.CHK_JOB_LEN 15, 1)]
     (∀ n ∈ [0x1F, 0x2F], s.takes 0 R.CHK_CMD (BitVec.ofNat 32 n) ∧ State.wfld (BitVec.ofNat 32 n) F.CHK_CMD_JOB = 15) ∧ State.wfld 0x1F F.CHK_CMD_OP = 1 ∧
     State.wfld 0x2F F.CHK_CMD_OP = 2 ∧ s.chkJob 15 = none ∧ (s.rd (R.CHK_JOB_LEN 15)).toNat = 1 ∧ (check {} []).rd (R.CHK_JOB_LEN 15) = 0) ∧
    (let s := check { jobs := [job15 0 1 0 none] } []
     s.chkJob 15 = some (job15 0 1 0 none) ∧ (job15 0 1 0 none).running = false ∧ (∀ x ∈ s.chk.jobs, x.result = none)) ∧
    (∀ r ∈ [0, 3, 7], let x := job15 0 1 0 (some (r, 5))
      (check { jobs := [x] } []).chk.jobs.find? (fun y => y.result.isSome) = some x ∧ x.result.isSome = true) ∧
    (fldOf 0xF4 F.CHK_JOB_CFG_SPACE = 1 ∧ fldOf 0xF4 F.CHK_JOB_CFG_HD = 15 ∧ State.rangeBad 1 (2 ^ 64 - 1) 2 = true ∧ State.rangeBad 1 (2 ^ 64 - 1) 1 = false ∧
     ((check {} []).dom 15).on = true ∧ ((check {} []).dom 14).on = false ∧ (check {} []).dmfOk 15 = true ∧
     (check {} [(R.GLB_HD_STAT 15, 2)]).dmfOk 15 = false ∧ fldOf 0x1F4 F.CHK_JOB_CFG_PASID_EN = 1) ∧
    (fldOf 0 F.CHK_JOB_CFG_SPACE = 0 ∧ ((State.chkRead 5 0x1FFFFFC 4 (check {} [])).2 = some [0, 0, 0, 0]) ∧
     (State.chkRead 5 R.GRD_FENCE 4 (check {} [(R.GRD_GATE_RD 0, 0)])).2 = none ∧
     fldOf 8 F.CHK_JOB_CFG_CMP = 1) := by
  repeat' apply And.intro
  all_goals decide +kernel

/-- A whole record with an alive counter and no data beyond one word. -/
def record1 (alive : Nat) : List Byte :=
  let b := leBytes 4 alive ++ leBytes 4 4 ++ leBytes 4 0
  b ++ leBytes 4 (crc32c b)

theorem wit_CheckAndTelemetry_records :
    let en : List (Nat × Word) := [(R.CHK_REC_CFG 31, 0x1003F)]
    (let s := check {} en
     s.on (R.CHK_REC_CFG 31) F.CHK_REC_CFG_EN = true ∧ s.on (R.CHK_REC_CFG 31) F.CHK_REC_CFG_SPACE = true ∧
     s.get (R.CHK_REC_CFG 31) F.CHK_REC_CFG_HD = 15 ∧ (s.recRead 31 (.ok (record1 1))).2 = some (record1 1) ∧ (s.recRead 31 .error).2 = none ∧
     State.recWhole (record1 1) = true ∧ State.recWhole (0 :: record1 1) = false ∧ (s.chkRec 31).seen = false ∧
     (check {} []).on (R.CHK_REC_CFG 31) F.CHK_REC_CFG_EN = false ∧ s.recAddr 31 = 0) ∧
    (let s := check { recs := [(31, ⟨true, true⟩)] } ((R.CHK_REC_LAST 31, 5) :: en)
     (s.chkRec 31).again = true ∧ (s.chkRec 31).seen = true ∧ fieldAt (record1 5) 0 4 = 5 ∧ isAfter 5 (s.rd (R.CHK_REC_LAST 31)).toNat = false ∧
     isAfter 6 (s.rd (R.CHK_REC_LAST 31)).toNat = true ∧
     max 1 (s.get (R.CHK_REC_CFG 31) F.CHK_REC_CFG_MISS_LIM) ≤ min 15 (s.get (R.CHK_REC_STAT 31) F.CHK_REC_STAT_MISSES + 1)) ∧
    (let s := check { recs := [(31, ⟨true, true⟩)] } [(R.CHK_REC_CFG 31, 0xF003F)]
     min 15 (s.get (R.CHK_REC_STAT 31) F.CHK_REC_STAT_MISSES + 1) < max 1 (s.get (R.CHK_REC_CFG 31) F.CHK_REC_CFG_MISS_LIM)) := by
  repeat' apply And.intro
  all_goals decide +kernel

/-- Telemetry ring `r` of one slot at page 4093, empty or full; a counter of bank 36 enabled; sets enabled or not. -/
def rings (r wr rdp en : Nat) : State :=
  check {} [(R.TEL_RING_CFG r, 4093), (R.TEL_RING_PTR r, BitVec.ofNat 32 (wr + 65536 * rdp)), (R.TEL_CTR_SEL 36 7, 0x200000),
    (R.TEL_CFG, BitVec.ofNat 32 (100 + en * 2 ^ 20))]

theorem wit_CheckAndTelemetry_rings :
    ((rings 0 0 0 1).takes 0 (R.TEL_CTR_SEL 36 7) 0x3FFFFF ∧ 7 < State.bankSize 36) ∧
    (∀ r ∈ [0, 1, 2, 3], let s := rings r 65535 65535 1
      s.get (R.TEL_RING_CFG r) F.TEL_RING_CFG_BASE * 4096 + 2 ^ s.get (R.TEL_RING_CFG r) F.TEL_RING_CFG_LOG * ringSlot r ≤ 0x1000000 ∧
      ¬ ((s.get (R.TEL_RING_PTR r) F.TEL_RING_PTR_WR + 65536 - s.get (R.TEL_RING_PTR r) F.TEL_RING_PTR_RD) % 65536
        = 2 ^ s.get (R.TEL_RING_CFG r) F.TEL_RING_CFG_LOG) ∧
      (let t := rings r 0 65535 1
       (t.get (R.TEL_RING_PTR r) F.TEL_RING_PTR_WR + 65536 - t.get (R.TEL_RING_PTR r) F.TEL_RING_PTR_RD) % 65536
        = 2 ^ t.get (R.TEL_RING_CFG r) F.TEL_RING_CFG_LOG)) ∧
    (rings 0 0 0 1).asleep 6 = false ∧
    ((rings 0 0 0 1).on R.TEL_CFG F.TEL_CFG_EN = true ∧ (rings 0 0 0 0).on R.TEL_CFG F.TEL_CFG_EN = false ∧
     (rings 0 0 0 1).enabledCtrs = [(36, 7)]) ∧
    (let s := check {} [(R.TEL_RING_CFG 0, 4095)]
     ¬ (s.get (R.TEL_RING_CFG 0) F.TEL_RING_CFG_BASE * 4096 + 2 ^ s.get (R.TEL_RING_CFG 0) F.TEL_RING_CFG_LOG * ringSlot 0 ≤ 0x1000000)) ∧
    (rings 0 0 0 1).nightShut 5 = false ∧
    (rings 0 0 0 1).checkAcc { Acc.word 5 true (0x1000000 + 4093 * 4096) 0 with size := 64 } = none ∧
    ({ rings 1 0 0 1 with tel := { spoorQ := [[7]] } } : State).tel.spoorQ = [7] :: [] := by
  repeat' apply And.intro
  all_goals decide +kernel

/-- Domain 15's rings enabled with DMF access, and the channel as given. -/
def rings15 (c : Chan) (d : Dom) (l : List (Nat × Word)) : State :=
  { up ((R.GLB_HD_STAT 15, 6) :: (R.MGT_RING_CTL 15, 1) :: l) with chan := c, doms := [(15, { d with on := true })] }

/-- A command of 64 bytes: opcode, flags, bytes 8 to 31. -/
def entry64 (opc flags : Nat) (ops : List Byte) : List Byte :=
  leBytes 1 opc ++ leBytes 1 flags ++ [0x34, 0x12, 0, 0, 0, 0] ++ padTo 56 ops

/-- The command in progress on path 15 or 16. -/
def inProgress (path : Nat) (c : ChCmd) (l : List (Nat × Word)) : State := rings15 { cmds := [(path, some c)] } {} l

theorem wit_ManagementChannel_rings :
    let s := rings15 {} { cmdLog := 4, rspLog := 4, evtLog := 4 } []
    let off := rings15 {} {} [(R.MGT_RING_CTL 15, 0)]
    (s.takes 0 (R.MGT_RING_CTL 15) 0 ∧ fldOf 0 F.MGT_RING_CTL_EN = 0 ∧ off.takes 0 (R.MGT_RING_CTL 15) 1 ∧ fldOf 1 F.MGT_RING_CTL_EN = 1 ∧
     off.on (R.MGT_RING_CTL 15) F.MGT_RING_CTL_EN = false ∧ s.on (R.MGT_RING_CTL 15) F.MGT_RING_CTL_EN = true) ∧
    (s.takes 0 (R.MGT_CMD_IDX 15) 16 ∧ (16 + 65536 - s.get (R.MGT_CMD_IDX 15) F.MGT_CMD_IDX_CI) % 65536 ≤ 2 ^ (s.dom 15).cmdLog ∧
     2 ^ (s.dom 15).cmdLog < (17 + 65536 - s.get (R.MGT_CMD_IDX 15) F.MGT_CMD_IDX_CI) % 65536) ∧
    (let t := rings15 {} { cmdLog := 4, rspLog := 4 } [(R.MGT_CMD_IDX 15, 0xFFFF0000), (R.MGT_RSP_IDX 15, 15)]
     t.on (R.MGT_RING_CTL 15) F.MGT_RING_CTL_EN = true ∧ t.dmfOk 15 = true ∧ t.chan.cmds.get dNone 15 = none ∧
     t.get (R.MGT_CMD_IDX 15) F.MGT_CMD_IDX_PI ≠ t.get (R.MGT_CMD_IDX 15) F.MGT_CMD_IDX_CI ∧
     (t.get (R.MGT_RSP_IDX 15) F.MGT_RSP_IDX_PI + 65536 - t.get (R.MGT_RSP_IDX 15) F.MGT_RSP_IDX_CI) % 65536 < 2 ^ (t.dom 15).rspLog ∧
     (entry64 9 0 []).length = 64) ∧
    (let t := rings15 {} { evtLog := 4, evq := [List.replicate 64 0] } [(R.MGT_EVT_IDX 15, 15)]
     (t.dom 15).evq = List.replicate 64 0 :: [] ∧
     (t.get (R.MGT_EVT_IDX 15) F.MGT_EVT_IDX_PI + 65536 - t.get (R.MGT_EVT_IDX 15) F.MGT_EVT_IDX_CI) % 65536 < 2 ^ (t.dom 15).evtLog ∧
     ¬ ((16 + 65536 - t.get (R.MGT_EVT_IDX 15) F.MGT_EVT_IDX_CI) % 65536 < 2 ^ (t.dom 15).evtLog)) := by
  repeat' apply And.intro
  all_goals decide +kernel

theorem wit_ManagementChannel_answers :
    let c : ChCmd := { bytes := entry64 0 0 [] }
    ((inProgress 16 c []).chan.cmds.get dNone 16 = some c ∧ (inProgress 15 c []).chan.cmds.get dNone 15 = some c ∧ c.quiet = false ∧
     c.bytes.length = 64 ∧ (inProgress 15 c []).dmfOk 15 = true ∧ (inProgress 15 c [(R.GLB_HD_STAT 15, 2)]).dmfOk 15 = false) ∧
    ({ c with quiet := true }.quiet = true) ∧
    ((inProgress 15 { c with stage := .firmware } []).chan.cmds.get dNone 15 = some { c with stage := .firmware }) ∧
    ((inProgress 15 c []).nightShut 9 = false ∧ ((inProgress 16 c []).chan.cmds.get dNone 16).isSome = true ∧
     (inProgress 15 c []).chan.cmds.get dNone 16 = none ∧
     ({ inProgress 15 c [] with pwr := { stage := .night } } : State).nightShut 9 = true) := by
  repeat' apply And.intro
  all_goals decide +kernel

theorem wit_ManagementChannel_commands :
    (∀ o ∈ [0, 1, 2, 3, 4, 5, 6, 7, 8, 0x80, 0xFF], let c : ChCmd := { bytes := entry64 o 0 [] }
      (inProgress 15 c []).chan.cmds.get dNone 15 = some c ∧ c.stage = .run ∧ c.bytes.length = 64 ∧ fieldAt c.bytes 0 1 = o ∧
      fieldAt c.bytes 1 1 = 0 ∧ fieldAt c.bytes 4 4 = 0) ∧
    (fieldAt (entry64 0 1 []) 1 1 ≠ 0 ∧ (inProgress 15 { bytes := [] } []).mode = 3 ∧
     (inProgress 15 { bytes := [] } [(R.GLB_MODE, 0)]).mode = 0 ∧ (inProgress 15 { bytes := [] } [(R.GLB_MODE, 1)]).mode = 1) ∧
    ((inProgress 15 { bytes := [] } []).on R.MGT_FW_CFG F.MGT_FW_CFG_EN = false ∧
     (inProgress 15 { bytes := [] } [(R.MGT_FW_CFG, 0x4005FFF)]).on R.MGT_FW_CFG F.MGT_FW_CFG_EN = true) ∧
    (let b := entry64 2 0 (leBytes 4 R.GLB_MODE ++ [12])
     fieldAt b 8 4 % 4 = 0 ∧ 1 ≤ fieldAt b 12 1 ∧ fieldAt b 12 1 ≤ 12 ∧ (inProgress 16 { bytes := b } []).wordsHold 9 R.GLB_MODE 12 = none) ∧
    (let b := entry64 2 0 (leBytes 4 R.TBL_FENCE ++ [1])
     let s := { inProgress 16 { bytes := b } [] with tblw := { q := [.entry 0 [1] none] } }
     s.wordsHold 9 R.TBL_FENCE 1 = some ([], R.TBL_FENCE, []) ∧ s.pwr.stage = .awake) ∧
    (({ bytes := [], stage := .fence } : ChCmd).stage ≠ .run ∧
     ({ inProgress 16 { bytes := [] } [] with pwr := { stage := .night } } : State).pwr.stage = .night) ∧
    (let s := inProgress 15 { bytes := [] } [(R.MGT_FLASH_EN, 0x8000)]
     bit (s.get R.MGT_FLASH_EN F.MGT_FLASH_EN_EN) 15 = true ∧ bit ((inProgress 15 { bytes := [] } []).get R.MGT_FLASH_EN F.MGT_FLASH_EN_EN) 15 = false) := by
  repeat' apply And.intro
  all_goals decide +kernel

/-- A flash command: chip select 0, an offset, a length, a buffer. -/
def flash64 (opc off len buf : Nat) : List Byte := entry64 opc 0 (leBytes 4 off ++ leBytes 4 0 ++ leBytes 8 len ++ leBytes 8 buf)

theorem wit_ManagementChannel_flash :
    let s := inProgress 16 { bytes := flash64 7 0 4096 0 } []
    (let b := flash64 7 (s.flashSize - 0x20000 - 4096) 4096 0
     let a := fieldAt b 8 4
     let len := fieldAt b 16 4
     fieldAt b 12 1 = 0 ∧ 1 ≤ 1 + s.get R.GLB_STRAP F.GLB_STRAP_FLASH ∧ len = 4096 ∧ a % 4096 = 0 ∧ a + len ≤ s.flashSize - 0x20000) ∧
    (let b := flash64 7 (s.flashSize - 0x20000) 4096 0
     s.flashSize - 0x20000 < fieldAt b 8 4 + fieldAt b 16 4 ∧ fieldAt b 8 4 + fieldAt b 16 4 ≤ s.flashSize) ∧
    (let b := flash64 5 0 65536 (2 ^ 63 + 0xFF0000)
     bit (fieldAt b 24 8) 63 = true ∧ fieldAt b 16 4 = 65536 ∧ fieldAt b 24 8 % 2 ^ 24 + 65536 = 2 ^ 24 ∧
     s.checkAcc { Acc.word 9 true 0x1FF0000 0 with size := 65536 } = none) ∧
    (let b := flash64 6 0 256 0
     bit (fieldAt b 24 8) 63 = false ∧ fieldAt b 16 4 % 256 = 0 ∧ (inProgress 15 { bytes := b } []).dmfOk 15 = true) ∧
    (let b := entry64 8 0 [1, 0, 0xC7, 0xD2]
     fieldAt b 8 1 = 1 ∧ fieldAt b 10 2 = 0xD2C7 ∧ s.checkAcc (Acc.word 9 true R.GLB_RESET 0xD2C70001) = none) := by
  repeat' apply And.intro
  all_goals decide +kernel

theorem wit_ManagementChannel_operations :
    (∀ x ∈ [(5, 256, 0), (6, 256, 256), (7, 4096, 0)], let f : FlashOp := ⟨15, x.1, 1, 4096, x.2.1, 2 ^ 63, List.replicate x.2.2 7, 0, false⟩
      let s := rings15 { flashQ := [f] } {} []
      s.chan.flashQ = f :: [] ∧ f.cut = false ∧ s.mode ≠ 7 ∧ (x.1 = 6 → f.data.length = f.len) ∧ bit f.buf 63 = true ∧ s.dmfOk f.path = true) ∧
    (rings15 {} {} []).chan.flashQ = [] ∧
    (let go : Nat → Word := fun x => BitVec.ofNat 32 (x + 2 ^ 31)
     let s := inProgress 15 { bytes := entry64 0x80 0 [], stage := .firmware } [(R.MGT_FW_DATA 0, 0x12340080)]
     s.takes 0 R.MGT_FW_POST (go 15) ∧ fldOf (go 15) F.MGT_FW_POST_GO = 1 ∧ fldOf (go 15) F.MGT_FW_POST_KIND = 0 ∧
     fldOf (go 47) F.MGT_FW_POST_KIND = 1 ∧ fldOf (go 47) F.MGT_FW_POST_PATH = 15 ∧ fldOf (15 : Word) F.MGT_FW_POST_GO = 0 ∧
     s.fwData.take 1 = (entry64 0x80 0 []).take 1 ∧ (s.fwData.drop 2).take 2 = ((entry64 0x80 0 []).drop 2).take 2 ∧
     0x80 ≤ fieldAt s.fwData 0 1 ∧ (s.dom 15).evq.length < 256 ∧
     (inProgress 15 { bytes := [] } []).fwData.take 1 ≠ (entry64 0x80 0 []).take 1) := by
  repeat' apply And.intro
  all_goals decide +kernel

/-! ### The spec's own worked examples -/

/-- The state a command leads to. -/
def after (i : Instr) (s : State) : State := match exec i s with | .next t => t | _ => s

/-- R542, R210, R131, R346: the check values of the nine bytes 123456789. -/
theorem test_check_values : let b : List Byte := [0x31, 0x32, 0x33, 0x34, 0x35, 0x36, 0x37, 0x38, 0x39]
    chkValue 0 b = 0xE3069283 ∧ chkValue 1 b = 0xCBF43926 ∧ chkValue 2 b = 0x62EC59E3F1A4F00A ∧ chkValue 3 b = 0x29B1 := by decide +kernel

/-- The example under R374. -/
theorem test_lane_rule : laneRule 4 8 [0x11, 0x22, 0x33, 0x44, 0x55, 0x66, 0x77, 0x88] = [0x44, 0x33, 0x22, 0x11, 0x88, 0x77, 0x66, 0x55] := by
  decide

/-- Example 03.1. -/
theorem test_scrambler : LineCode.scramble (LineCode.seed 0) (LineCode.bitsOf [0])
      = [false, false, false, true, false, false, false, true] ∧
    LineCode.pam4 (LineCode.scramble (LineCode.seed 0) (LineCode.bitsOf [0])) = [0, 1, 0, 1] := by decide +kernel

/-- Examples 09.2 and 12.2: the numbers that a rate and a burst encode. -/
theorem test_rates : mantExp 0xA8CA = 2304000 ∧ mantExp 0xA9C4 = 2560000 ∧ mantExp 0x5800 = 65536 ∧ mantExp 0x6800 = 131072 ∧
    mantExp 0x5C35 = 100000 := by decide

/-- Example 12.2: a shaper of 100 Gb/s gains a packet's charge of 4,144 B in 331.52 ns. -/
theorem test_shaper : ({ rate := 0x5C35, burst := 0x5800, en := true, tok := -33152000 } : Bucket).grown 331 =
    { rate := 0x5C35, burst := 0x5800, en := true, tok := -52000, last := 331 } := by decide +kernel

/-- Example 08.1: EXT.BE g1, [0], 2. -/
theorem test_ext : let w : DWord := 0x1008_0000_004F_0080
    ((after (.kExt lastThr) (thr w { job0 none (dsc 0) with view := 0x12 :: 0x34 :: List.replicate 126 0 } {} [])).job lastThr).map
      (fun j => j.g.getD 1 0) = some 0x1234 := by decide +kernel

/-- Example 08.1: BEQ miss goes to 0x0109 when Z is 1. -/
theorem test_beq : let w : DWord := 0x1800_0000_0000_0109
    ((after (.kBcc lastThr) (thr w { job0 none (dsc 0) with z := true } {} [])).job lastThr).map (fun j => j.pc) = some 265 := by decide +kernel

/-- Example 08.1: SETD DEST, g3 and SETD ACTION, FORWARD. -/
theorem test_setd :
    ((after (.kSetd lastThr) (thr 0x3000_0601_0000_0000 { job0 none (dsc 1) with g := (List.replicate 16 (0 : DWord)).set 3 5 } {} [])).job
      lastThr).map (fun j => j.desc.dest) = some 5 ∧
    ((after (.kSetd lastThr) (thr 0x3000_0100_0000_0000 (job0 none (dsc 1)) {} [])).job lastThr).map (fun j => j.desc.action) = some 0 := by
  decide +kernel

/-- Example 09.3: the entry of device 42 is queued for offset 493,904. -/
theorem test_entry_write :
    (after (.tableEntryWrite 0 0x80000000) (up [(R.TBL_WR_ADDR, 0x78950), (R.TBL_WR_DATA 0, 0x12120001), (R.TBL_WR_DATA 1, 0x1212)])).tblw.q
      = [.entry 493904 [1, 0, 0x12, 0x12, 0x12, 0x12, 0, 0] none] := by decide +kernel

/-- Example 10.2: rtt 900 ns and offset 500 ns. -/
theorem test_time_exchange : let t := (worker {} 0 []).timeExchange 1000000 1000950 1001150 1001100
    t.rd R.MGT_FAB_TOFS = 500 ∧ t.fab.used = 1 ∧ t.fab.slew = -500 ∧ t.now = 0 := by decide +kernel

/-- Example 11.1: 10,000 bytes and an immediate make three packets, the last of link size 1,848. -/
theorem test_message_packets : let m := { msg1 2 10000 with inc := 0x11, imm := 0xA7, data := [(2, List.replicate 1808 7)] }
    wireLen m = 10004 ∧ packetsOf m = 3 ∧ (wireChunk m 2).length = 1812 ∧ (wireChunk m 2).drop 1808 = [0xA7, 0, 0, 0] := by decide +kernel

/-- Example 13.1: the last byte of the scan job's read falls to region 1, which refuses it. -/
theorem test_guard :
    let s := up [(R.GRD_RGN_BASE 4 0, 0x1400000), (R.GRD_RGN_CFG 4 0, 0x81041B), (R.GRD_RGN_BASE 4 1, 0x1400000), (R.GRD_RGN_CFG 4 1, 0x80001B)]
    s.checkAcc { Acc.word 4 false 0x14007F0 0 with size := 64 } = some (2, 1, 0x140082F) := by decide +kernel

/-- Example 20.1: the second word of the read is refused, and the response says so. -/
theorem test_csr_read :
    let c : ChCmd := { bytes := entry64 2 0 (leBytes 4 0x40043C ++ [2]) }
    let s : State := { up [(R.GLB_HD_STAT 3, 6), (R.MGT_RING_CTL 3, 1), (R.WEN_AP_CNT 3, 0x00020005), (R.MGT_RSP_IDX 3, 17)] with
      doms := [(3, { on := true, cmdLog := 6, rspLog := 4, rspBase := 0x10000 })], chan := { cmds := [(3, some c)] } }
    let t := after (.csrReadCmd 3) s
    t.out.contains (.hostWrite 3 (0x10000 + 64) ([2, 3, 0x34, 0x12, 1, 0, 0, 0, 5, 0, 2, 0] ++ List.replicate 51 0) none) = true ∧
    t.out.contains (.hostWrite 3 (0x10000 + 127) [0] none) = true ∧ t.rd (R.WEN_AP_CNT 3) = 0 ∧
    t.get (R.MGT_RSP_IDX 3) F.MGT_RSP_IDX_PI = 18 ∧ t.get (R.GRD_VLOG 19) F.GRD_VLOG_KIND = 6 ∧ t.rd (R.GRD_VADDR 19) = 0x400440 := by
  repeat' apply And.intro
  all_goals decide +kernel

/-- A staged image whose program for every den is the stock segment. -/
theorem wit_StockSegment :
    let s := up []
    let t : State := { s with boot := { s.boot with staged := [(4, Stock.inst, Stock.segment)] } }
    t.denProgram 15 = some Stock.segment ∧ s.denProgram 15 = none := ⟨rfl, rfl⟩

/-- R337: the words its table gives. -/
theorem test_stock_words : Stock.program.getD 0x400 0 = 0x1008000000070000 ∧ Stock.program.getD 0x401 0 = 0x2010400800000000 ∧
    Stock.program.getD 0x403 0 = 0x0C00810000000100 ∧ Stock.program.getD 0x405 0 = 0x1018000000010005 ∧
    Stock.program.getD 0x408 0 = 0x0920860000000000 ∧ Stock.program.getD 0x40C 0 = 0x2901250000000100 := by decide +kernel

end Sys2Proof.Tests
end

section
/-! PROOFS. The issue of one Kolzen instruction and the instructions on registers (R278 to R284, R287 to R289, R302,
08_kolzen_isa.md). An issue counts itself and its fox's cycle (`State.issuing`); a thread whose word passes every check of the
fetch performs it there (`issue_of_issues`); what remains of each instruction is its result and its flags. -/

namespace Sys2Proof.Machine

namespace State

variable (s : State)

/-! ### Counting an issue -/

/-- An event counted changes telemetry only. -/
theorem count_keeps (b ev q n : Nat) : s.count b ev q n = { s with tel := (s.count b ev q n).tel } := by
  have h : { s.count b ev q n with tel := s.tel } = s :=
    forAll_keeps (fun u => { u with tel := s.tel }) _ (fun i u => by dsimp only; split <;> rfl) (upTo (bankSize b)) s
  exact congrArg (fun u => { u with tel := (s.count b ev q n).tel }) h

@[simp] theorem count_den (b ev q n d : Nat) : (s.count b ev q n).den d = s.den d := by rw [count_keeps]; rfl

@[simp] theorem count_rd (b ev q n a : Nat) : (s.count b ev q n).rd a = s.rd a := by rw [count_keeps]; rfl

@[simp] theorem inc_den (a : Nat) (f : Fld) (n d : Nat) : (s.inc a f n).den d = s.den d := rfl

/-- The den's own count of its instructions, in units of 16. -/
theorem countIssue_den (d : Nat) :
    (s.countIssue d).den d = { s.den d with cycRem := if (s.den d).cycRem = 15 then 0 else (s.den d).cycRem + 1 } := by
  by_cases h : (s.den d).cycRem = 15 <;> simp [countIssue, h]

theorem countIssue_den_ne {d e : Nat} (he : e ≠ d) : (s.countIssue d).den e = s.den e := by
  by_cases h : (s.den d).cycRem = 15 <;> simp [countIssue, h, den_setDen_ne _ _ he]

/-- JOB_CYC counts the sixteenth issue and saturates. -/
theorem countIssue_issued (d : Nat) :
    (s.countIssue d).get (R.DEN_JOB_CYC d) F.DEN_JOB_CYC_ISSUED
      = if (s.den d).cycRem = 15 then min (2 ^ 32 - 1) (s.get (R.DEN_JOB_CYC d) F.DEN_JOB_CYC_ISSUED + 1)
        else s.get (R.DEN_JOB_CYC d) F.DEN_JOB_CYC_ISSUED := by
  by_cases h : (s.den d).cycRem = 15
  · simp only [countIssue, count_den, h, if_true]
    rw [get_inc_same _ _ _ _ (by decide)]
    simp only [get, setDen_rd, count_rd]
    rfl
  · simp [countIssue, h, get]

theorem countIssue_rd_ne {d a : Nat} (ha : a ≠ R.DEN_JOB_CYC d) : (s.countIssue d).rd a = s.rd a := by
  by_cases h : (s.den d).cycRem = 15 <;> simp [countIssue, h, rd_inc_ne _ _ _ ha]

theorem countIssue_keeps (d : Nat) :
    s.countIssue d
      = { s with regs := (s.countIssue d).regs, dens := (s.countIssue d).dens, tel := (s.countIssue d).tel } := by
  unfold countIssue
  rw [count_keeps]
  dsimp only
  split <;> rfl

/-! ### The issue -/

/-- The state in which the instruction that a thread issues is performed: its fox's cycle is used, the fox's other ready threads
are passed over, and the issue is counted (R283, R562). -/
def issuing (th : Thr) : State :=
  let c := (s.den th.den).nextCycle th.fox
  (s.setDen th.den fun D =>
    { D with cyc := D.cyc.put dZero th.fox (c + 1), jobs := D.jobs.mapAll dNone (passOver th c) }).countIssue th.den

variable {s}

@[simp] theorem issuing_now (th : Thr) : (s.issuing th).now = s.now := by rw [issuing, countIssue_keeps]; rfl

/-- A thread whose next word passes the checks of the fetch performs it. -/
theorem issue_of_issues {th : Thr} {op : Nat} {w : DWord} {j : Job} (h : Issues s th op w j) (f : DWord → Job → State → State) :
    s.issue th op f = f w (Fetched s th op j) (s.issuing th) := by
  obtain ⟨hjob, hwait, hdue, hlo, hhi, hpc, hbad, hsgl, hprog, hlegal, hop⟩ := h
  have hin : ¬ (j.pc < s.get (R.DEN_REGION th.den j.set) F.DEN_REGION_LO ∨
      s.get (R.DEN_REGION th.den j.set) F.DEN_REGION_HI < j.pc ∨ 16383 < j.pc) := by omega
  simp only [issue, issuing, Fetched, hjob, hwait, hdue, hin, hbad, hsgl, hprog, hlegal, hop, Option.isSome_none, Bool.not_true,
    Bool.or_self, Bool.false_eq_true, if_false, if_true]

/-- An issuing thread that is given its new job has run: the den, the other dens and the registers are those of `Ran`. -/
theorem ran_setJob (th : Thr) (j : Job) : Ran s ((s.issuing th).setJob th (some j)) (s.den th.den) th j := by
  refine ⟨?_, ?_, ?_, ?_, ?_, ?_⟩
  · simp [job, setJob, Den.job, Den.setJob]
  · simp [setJob, Den.setJob, issuing, countIssue_den]
  · intro d hd
    rw [setJob, den_setDen_ne _ _ hd, issuing, countIssue_den_ne _ hd, den_setDen_ne _ _ hd]
  · simp [setJob, issuing, countIssue_issued]
  · intro r hr
    rw [setJob, setDen_rd, issuing, countIssue_rd_ne _ hr, setDen_rd]
  · rw [setJob, issuing, countIssue_keeps]
    rfl

end State

section

variable {s : State} {th : Thr} {op : Nat} {w : DWord} {j y : Job} {i : Instr}

/-- A command whose thread issues it runs, when its meaning there only gives the thread its new job. -/
theorem exec_runs {f : DWord → Job → State → State} (hx : exec i s = run i s fun u => u.issue th op f) (hi : i.wf = true)
    (h : Issues s th op w j) (hf : f w (Fetched s th op j) (s.issuing th) = (s.issuing th).setJob th (some y)) :
    ∃ t, exec i s = .next t ∧ Ran s t (s.den th.den) th y := by
  obtain ⟨-, -, -, -, -, hkeep⟩ := s.ran_setJob th y
  refine ⟨_, ?_, s.ran_setJob th y⟩
  rw [hx]
  exact run_next hi ((State.issue_of_issues h f).trans hf) (by rw [hkeep])

/-- A thread goes on with the job that an instruction made of the one fetched. -/
theorem exec_goes_on {f : DWord → Job → State → Job}
    (hx : exec i s = run i s fun u => u.issue th op fun w j u => u.goOn th (f w j u)) (hi : i.wf = true) (h : Issues s th op w j)
    (hf : f w (Fetched s th op j) (s.issuing th) = Fetched s th op y) (hpc : y.pc = j.pc) (hwait : y.wait = j.wait) :
    ∃ t, exec i s = .next t ∧ Ran s t (s.den th.den) th { Fetched s th op y with pc := j.pc + 1 } := by
  have ⟨_, hnone, _⟩ := h
  refine exec_runs hx hi h ((congrArg (State.goOn _ th) hf).trans ?_)
  simp only [State.goOn, Fetched, hpc, hwait, hnone]

/-! ### Registers and flags of a job -/

@[simp] theorem Job.setReg_pc (k : Nat) (v : DWord) : (j.setReg k v).pc = j.pc := by unfold Job.setReg; split <;> rfl

@[simp] theorem Job.setReg_wait (k : Nat) (v : DWord) : (j.setReg k v).wait = j.wait := by unfold Job.setReg; split <;> rfl

/-- Counting a job's issue and writing a register of it commute. -/
theorem fetched_setReg (k : Nat) (v : DWord) : (Fetched s th op j).setReg k v = Fetched s th op (j.setReg k v) := by
  unfold Job.setReg
  split <;> rfl

theorem fetched_setFlags (r : Flagged) : (Fetched s th op j).setFlags r = Fetched s th op (j.setFlags r) := rfl

/-- An instruction that writes one register and leaves the flags. -/
theorem exec_setReg {f : DWord → Job → State → DWord} {v : DWord}
    (hx : exec i s = run i s fun u => u.issue th op fun w j u => u.goOn th (j.setReg (kD w) (f w j u))) (hi : i.wf = true)
    (h : Issues s th op w j) (hf : f w (Fetched s th op j) (s.issuing th) = v) :
    ∃ t, exec i s = .next t ∧ Ran s t (s.den th.den) th { Fetched s th op (j.setReg (kD w) v) with pc := j.pc + 1 } :=
  exec_goes_on hx hi h (by rw [hf, fetched_setReg]) (j.setReg_pc _ _) (j.setReg_wait _ _)

/-- An instruction that writes its result to D and sets the flags. -/
theorem exec_result {f : DWord → Job → Flagged} {r : Flagged}
    (hx : exec i s = run i s fun u => u.issueReg th op fun w j => withResult w j (f w j)) (hi : i.wf = true)
    (h : Issues s th op w j) (hf : f w (Fetched s th op j) = r) :
    ∃ t, exec i s = .next t ∧
      Ran s t (s.den th.den) th { Fetched s th op ((j.setReg (kD w) r.r).setFlags r) with pc := j.pc + 1 } :=
  exec_goes_on hx hi h (by simp only [hf, withResult, fetched_setReg, fetched_setFlags]) (j.setReg_pc _ _) (j.setReg_wait _ _)

/-- An instruction that only sets the flags. -/
theorem exec_setFlags {f : DWord → Job → Flagged} {r : Flagged}
    (hx : exec i s = run i s fun u => u.issueReg th op fun w j => j.setFlags (f w j)) (hi : i.wf = true)
    (h : Issues s th op w j) (hf : f w (Fetched s th op j) = r) :
    ∃ t, exec i s = .next t ∧ Ran s t (s.den th.den) th { Fetched s th op (j.setFlags r) with pc := j.pc + 1 } :=
  exec_goes_on hx hi h (by simp only [hf, fetched_setFlags]) rfl rfl

end

/-! ### The flags in numbers (R289) -/

/-- A result with Z and N as R289 states them, and a carry and an overflow. -/
def flagged (r : DWord) (c v : Bool) : Flagged := ⟨r, decide (r = 0), decide (r.toInt < 0), c, v⟩

/-- Z and N of any result are those of R289. -/
theorem flagged_of_bits (r : DWord) (c v : Bool) : (⟨r, r == 0, r.msb, c, v⟩ : Flagged) = flagged r c v := by
  rw [flagged, BitVec.msb_eq_toInt]
  rfl

/-- A sum of two words overflows exactly when both have one sign and the result the other. -/
theorem add_overflow (a b : DWord) :
    ((a.msb == b.msb) && ((a + b).msb != a.msb)) = decide ((a + b).toInt ≠ a.toInt + b.toInt) := by
  have ha := And.intro a.le_toInt a.toInt_lt
  have hb := And.intro b.le_toInt b.toInt_lt
  simp only [BitVec.msb_eq_toInt, BitVec.toInt_add, Int.bmod_def]
  grind

/-- A difference overflows exactly when the signs of the words differ and the result has not the first one's. -/
theorem sub_overflow (a b : DWord) :
    ((a.msb != b.msb) && ((a - b).msb != a.msb)) = decide ((a - b).toInt ≠ a.toInt - b.toInt) := by
  have ha := And.intro a.le_toInt a.toInt_lt
  have hb := And.intro b.le_toInt b.toInt_lt
  simp only [BitVec.msb_eq_toInt, BitVec.toInt_sub, Int.bmod_def]
  grind

theorem addFlags_eq (a b : DWord) :
    addFlags a b = flagged (a + b) (decide (2 ^ 64 ≤ a.toNat + b.toNat)) (decide ((a + b).toInt ≠ a.toInt + b.toInt)) := by
  rw [← add_overflow, ← flagged_of_bits]
  rfl

theorem subFlags_eq (a b : DWord) :
    subFlags a b = flagged (a - b) (decide (b.toNat ≤ a.toNat)) (decide ((a - b).toInt ≠ a.toInt - b.toInt)) := by
  rw [← sub_overflow, ← flagged_of_bits]
  rfl

theorem logicFlags_eq (r : DWord) : logicFlags r = flagged r false false := flagged_of_bits r false false

theorem shlFlags_eq (a b : DWord) :
    shlFlags a b = flagged (a <<< (b.toNat % 64)) (decide (b.toNat % 64 ≠ 0) && a.getLsbD (64 - b.toNat % 64)) false :=
  flagged_of_bits _ _ _

theorem shrFlags_eq (a b : DWord) :
    shrFlags a b = flagged (a >>> (b.toNat % 64)) (decide (b.toNat % 64 ≠ 0) && a.getLsbD (b.toNat % 64 - 1)) false :=
  flagged_of_bits _ _ _

theorem sarFlags_eq (a b : DWord) :
    sarFlags a b = flagged (a.sshiftRight (b.toNat % 64)) (decide (b.toNat % 64 ≠ 0) && a.getLsbD (b.toNat % 64 - 1)) false :=
  flagged_of_bits _ _ _

/-! ### The obligation -/

/-- Settles O38: each instruction on registers is the issue of its word, and its result and flags are those of the model's flag
computation read as numbers. -/
theorem kolzenArithmetic : Obligations.KolzenArithmetic := by
  intro s th w j hth a xs xz n ran flags logic
  refine ⟨fun h => ?nop, fun h => ?mov, fun h => ?movh, fun h => ?add, fun h => ?sub, fun h => ?and, fun h => ?or, fun h => ?xor,
    fun h => ?shl, fun h => ?shr, fun h => ?sar, fun h => ?cmp, fun h => ?tst, fun h => ?crc, fun h => ?time⟩
  case nop => exact exec_goes_on (f := fun _ j _ => j) rfl hth h rfl rfl rfl
  case mov => exact exec_setReg (f := fun w j _ => j.opS w) rfl hth h rfl
  case movh =>
    exact exec_setReg (f := fun w j _ => BitVec.ofNat 64 (kImm w * 2 ^ 32 + (j.reg (kD w)).toNat % 2 ^ 32)) rfl hth h rfl
  case add => exact exec_result (i := .kAdd th) rfl hth h (addFlags_eq a xs)
  case sub => exact exec_result (i := .kSub th) rfl hth h (subFlags_eq a xs)
  case and => exact exec_result (i := .kAnd th) rfl hth h (logicFlags_eq (a &&& xz))
  case or => exact exec_result (i := .kOr th) rfl hth h (logicFlags_eq (a ||| xz))
  case xor => exact exec_result (i := .kXor th) rfl hth h (logicFlags_eq (a ^^^ xz))
  case shl => exact exec_result (i := .kShl th) rfl hth h (shlFlags_eq a xz)
  case shr => exact exec_result (i := .kShr th) rfl hth h (shrFlags_eq a xz)
  case sar => exact exec_result (i := .kSar th) rfl hth h (sarFlags_eq a xz)
  case cmp => exact exec_setFlags (i := .kCmp th) rfl hth h (subFlags_eq a xs)
  case tst => exact exec_setFlags (i := .kTst th) rfl hth h (logicFlags_eq (a &&& xz))
  case crc =>
    exact exec_setReg (f := fun w j _ =>
      BitVec.ofNat 64 (crc32cFrom ((j.reg (kD w)).toNat % 2 ^ 32) (leBytes 8 (j.reg (kA w)).toNat))) rfl hth h rfl
  case time => exact exec_setReg (f := fun _ _ u => BitVec.ofNat 64 u.now) rfl hth h (by rw [State.issuing_now])

end Sys2Proof.Machine
end

section
/-! PROOFS. The lock of a gate and the fence of the guards (R444, R454, 13_access_control.md). The registers of a gate lie in block GRD,
where a write does no more than `State.store`; the gate's LOCK decides whether the store takes place. A read of GRD_FENCE waits for the
reads held before it and for the FLASH_READs that have yet to write control memory. -/

namespace Sys2Proof.Machine

/-- A field of two words joined is the two fields joined. -/
theorem fldOf_or (x y : Word) (f : Fld) : fldOf (x ||| y) f = fldOf x f ||| fldOf y f := by
  simp only [fldOf, bits, BitVec.toNat_or, Nat.or_div_two_pow, Nat.or_mod_two_pow]

/-! ### Block GRD -/

/-- Block GRD is block 8 (R568). -/
theorem blockBit_of_grd {a : Nat} (h1 : 0x80000 ≤ a) (h2 : a < 0x90000) : blockBit a = some 8 := by
  have hq : a / 0x10000 = 8 := by omega
  rw [blockBit, if_pos h2, hq]
  rfl

/-- The fields of a gate's control register. -/
theorem fieldsAt_gateCtl {k : Nat} (hk : k < 6) :
    fieldsAt (R.GRD_GATE_CTL k) = [F.GRD_GATE_CTL_PRIV, F.GRD_GATE_CTL_LOCK] := by
  revert k
  decide

namespace State

variable (s : State)

/-- No register up to the end of block GRD has a copy for each path. -/
theorem phys_upto_grd (m : Nat) {a : Nat} (h : a < 0x90000) : s.phys m a = a := by
  have hp : perPath a = false := by
    have hsel : a / 4 * 4 ≠ R.WEN_WIN_SEL := by simp only [R.WEN_WIN_SEL]; omega
    have hctx : a / 4 * 4 ≠ R.WEN_CTX_SEL := by simp only [R.WEN_CTX_SEL]; omega
    simp only [perPath, Bool.or_eq_false_iff, Bool.and_eq_false_iff, decide_eq_false hsel, decide_eq_false hctx,
      decide_eq_false_iff_not, and_true]
    omega
  have hw : winView a = false := by
    simp only [winView, Bool.and_eq_false_iff, decide_eq_false_iff_not]
    omega
  simp [phys, hp, hw]

/-- A write of a register of block GRD acts by its field types alone. -/
theorem writeReg_of_grd (m : Nat) (v : Word) {a : Nat} (h1 : 0x80000 ≤ a) (h2 : a < 0x90000) :
    s.writeReg m a v = s.store m a v := by
  simp only [writeReg, blockBit_of_grd h1 h2]

/-- What the lock of gate `k` covers: the 16 bytes of the gate's registers. -/
theorem gateLocked_of_gate {k a : Nat} (hk : k < 6) (h1 : 0x80100 + 16 * k ≤ a) (h2 : a < 0x80100 + 16 * (k + 1)) :
    s.gateLocked a = s.on (R.GRD_GATE_CTL k) F.GRD_GATE_CTL_LOCK := by
  have hq : (a - 0x80100) / 16 = k := by omega
  have hlo : 0x80100 ≤ a := by omega
  have hhi : a < 0x80160 := by omega
  simp [gateLocked, hq, hlo, hhi]

theorem gateLocked_gateCtl {k : Nat} (hk : k < 6) :
    s.gateLocked (R.GRD_GATE_CTL k) = s.on (R.GRD_GATE_CTL k) F.GRD_GATE_CTL_LOCK :=
  s.gateLocked_of_gate hk (by simp only [R.GRD_GATE_CTL]; omega) (by simp only [R.GRD_GATE_CTL]; omega)

theorem phys_gateCtl (m : Nat) {k : Nat} (hk : k < 6) : s.phys m (R.GRD_GATE_CTL k) = R.GRD_GATE_CTL k :=
  s.phys_upto_grd m (by simp only [R.GRD_GATE_CTL]; omega)

/-! ### The control register of an open gate -/

section
variable {s : State} {m k : Nat} {v : Word} (hk : k < 6)
include hk

section
variable (hopen : s.on (R.GRD_GATE_CTL k) F.GRD_GATE_CTL_LOCK = false)
include hopen

theorem get_store_gateCtl_priv :
    (s.store m (R.GRD_GATE_CTL k) v).get (R.GRD_GATE_CTL k) F.GRD_GATE_CTL_PRIV = fldOf v F.GRD_GATE_CTL_PRIV := by
  have hfield := s.store_field (m := m) (v := v) ((s.gateLocked_gateCtl hk).trans hopen) (f := F.GRD_GATE_CTL_PRIV)
    (by simp [fieldsAt_gateCtl hk])
  rwa [s.phys_gateCtl m hk] at hfield

/-- LOCK is set by a 1 and kept by a 0, and it was 0. -/
theorem get_store_gateCtl_lock :
    (s.store m (R.GRD_GATE_CTL k) v).get (R.GRD_GATE_CTL k) F.GRD_GATE_CTL_LOCK = fldOf v F.GRD_GATE_CTL_LOCK := by
  have hfield := s.store_field (m := m) (v := v) ((s.gateLocked_gateCtl hk).trans hopen) (f := F.GRD_GATE_CTL_LOCK)
    (by simp [fieldsAt_gateCtl hk])
  rw [s.phys_gateCtl m hk] at hfield
  have hzero : fldOf (s.rd (R.GRD_GATE_CTL k)) F.GRD_GATE_CTL_LOCK = 0 := by simpa [on, get] using hopen
  calc (s.store m (R.GRD_GATE_CTL k) v).get (R.GRD_GATE_CTL k) F.GRD_GATE_CTL_LOCK
      = fldOf (s.rd (R.GRD_GATE_CTL k) ||| v) F.GRD_GATE_CTL_LOCK := hfield
    _ = fldOf v F.GRD_GATE_CTL_LOCK := by rw [fldOf_or, hzero, Nat.zero_or]

end

/-! ### The commands -/

/-- GATE_LOCK on a path that may is a write of the gate's control register by its field types. -/
theorem exec_gateLock (hm : masterOk m = true) (h : s.takes m (R.GRD_GATE_CTL k) v) :
    exec (.gateLock m k v) s = .next (s.store m (R.GRD_GATE_CTL k) v) := by
  change execGateLock m k v s = _
  unfold execGateLock
  exact run_next (by simp [Instr.wf, hm, hk]) (cmdWrite_takes h) (by rw [store_keeps])

/-- A write of a word of a locked gate's registers changes nothing. -/
theorem exec_registerWrite_gateLocked {a : Nat} (hm : masterOk m = true) (h1 : 0x80100 + 16 * k ≤ a)
    (h2 : a < 0x80100 + 16 * (k + 1)) (ha : a % 4 = 0) (h : s.takes m a v)
    (hlock : s.on (R.GRD_GATE_CTL k) F.GRD_GATE_CTL_LOCK = true) : exec (.registerWrite m a v) s = .next s := by
  have hb : byteSpace a = false := by
    simp only [byteSpace, inCmem, inMaster, inSettView, Bool.or_eq_false_iff, Bool.and_eq_false_iff, decide_eq_false_iff_not]
    omega
  have hkept : s.writeReg m a v = s := by
    rw [writeReg_of_grd s m v (by omega) (by omega), s.store_locked ((s.gateLocked_of_gate hk h1 h2).trans hlock)]
  exact execRegisterWrite_takes hm (by omega) ha hb h hkept rfl

end

/-- A read of GRD_FENCE waits behind a read held before it, and for a FLASH_READ still to write control memory. -/
theorem fenceWaits_guardFence (m : Nat) :
    s.fenceWaits m R.GRD_FENCE = (!s.tblw.fences.isEmpty || s.flashFills s.chan.flashNo) := by
  simp [fenceWaits, isFence, fenceMet, fenceRd, R.GRD_FENCE, R.TBL_FENCE, R.WEN_FENCE]

/-- GUARD_FENCE on a path that may is a read of the fence. -/
theorem exec_guardFence {s t : State} {m : Nat} (hm : masterOk m = true) (h : s.readOk m R.GRD_FENCE)
    (ht : s.fenceWord m R.GRD_FENCE = t) (hp : t.pending = s.pending) : exec (.guardFence m) s = .next t := by
  change execGuardFence m s = _
  unfold execGuardFence
  exact run_next (by simp [Instr.wf, hm]) ((checked_read h).trans ht) hp

end State

/-! ### The obligation -/

/-- Settles O9: an open gate's control register takes the word by its field types, a locked gate's registers keep what they hold, and
GRD_FENCE answers 0 exactly when no read is held and no FLASH_READ has still to write control memory. -/
theorem gateLockAndFence : Obligations.GateLockAndFence := by
  intro s m k v hm hk
  refine ⟨fun htakes hopen => ?openCtl, fun htakes hlock => ?lockedCtl, fun a ha htakes hlock => ?lockedMask,
    fun hread hnone hflash => ?fenceMet, fun hread hwait => ?fenceHeld⟩
  case openCtl =>
    exact ⟨_, State.exec_gateLock hk hm htakes, State.get_store_gateCtl_priv hk hopen, State.get_store_gateCtl_lock hk hopen,
      fun a ha => s.rd_store_ne (by rwa [s.phys_gateCtl m hk]), s.store_keeps _ _ _⟩
  case lockedCtl =>
    rw [State.exec_gateLock hk hm htakes, s.store_locked ((s.gateLocked_gateCtl hk).trans hlock)]
  case lockedMask =>
    simp only [R.GRD_GATE_RD, R.GRD_GATE_WR] at ha
    exact State.exec_registerWrite_gateLocked hk hm (by omega) (by omega) (by omega) htakes hlock
  case fenceMet =>
    have hmet : s.fenceWaits m R.GRD_FENCE = false := by simp [State.fenceWaits_guardFence, hnone, hflash]
    exact State.exec_guardFence hm hread (State.fenceWord_met hmet) rfl
  case fenceHeld =>
    have hheld : s.fenceWaits m R.GRD_FENCE = true := by simpa [State.fenceWaits_guardFence] using hwait
    exact ⟨s.fenceRd m R.GRD_FENCE .word [] [], rfl, rfl, rfl,
      State.exec_guardFence hm hread (State.fenceWord_held hheld) rfl⟩

end Sys2Proof.Machine
end
